-- ==== Sys2Proof/Word.lean ====
section
/-! DEFINITION. Words of the Bajeta 840: bytes, serial numbers, and the numbers that name cards, drives and slabs. -/

namespace Sys2Proof

/-- One byte of a frame, a block or the buffer memory. -/
abbrev Byte := BitVec 8

/-- A 16-byte serial, in the order its bytes are sent (R118, R137). -/
abbrev Serial := Vector Byte 16

/-- The all-zero serial of a cleared card or drive record (R115, R134). -/
def zeroSerial : Serial := Vector.replicate 16 0

/-- Card port C*n*, and equally job *n* (R1). -/
abbrev CardNo := Fin 8

/-- Drive port D*d* (R134). -/
abbrev DriveNo := Fin 4

/-- A slab of the buffer memory (R62). -/
abbrev SlabNo := Fin 512

end Sys2Proof
end

