-- ==== Sys2Proof/Syntax.lean ====
section
/-! DEFINITION. The commands: one constructor per row of spec/opcode_table.json, with the operands the row's rule
gives it. A request's operands are in the frame it takes from the input buffer (R178, log 6). -/

namespace Sys2Proof

/-- One of the twelve ports, and equally its block link (R155). -/
inductive PortId
  | card (n : CardNo)
  | drive (d : DriveNo)
  deriving DecidableEq, Repr

/-- A byte as the receiver takes it from RXD (R175). -/
structure RxByte where
  data : Byte
  framingError : Bool
  deriving DecidableEq, Repr

/-- The levels of the four strap pins at the moment a reset ends (R173). -/
structure StrapPins where
  rate1 : Bool
  rate0 : Bool
  deb1 : Bool
  deb0 : Bool
  deriving DecidableEq, Repr

/-- The commands of the part. A status record's `identity` is its capacity and serial, which the record of an IDENTIFY
has and the others do not (8.5). -/
inductive Instr
  | frameReceived (bytes : List RxByte)
  | receiveGapTimeout
  | badKindRequest
  | ident
  | partReset
  | noticeSet
  | portQuery
  | lampSet
  | jobOpen
  | jobStart
  | fileAdd
  | jobClose
  | jobSuspend
  | jobResume
  | jobDrop
  | jobStop
  | jobClear
  | jobFree
  | jobQuery
  | scanStart
  | scanStop
  | transmitStart
  | frameSent
  | partResetTimerExpiry (straps : StrapPins)
  | resetPinAssert
  | resetPinRelease (straps : StrapPins)
  | supplyFail
  | supplyValid (straps : StrapPins)
  | linkResetExpiry (port : PortId)
  | cardInsertionBegin (n : CardNo)
  | cardSettled (n : CardNo)
  | cardRemoval (n : CardNo)
  | driveAttachBegin (d : DriveNo)
  | driveSettled (d : DriveNo)
  | driveAbsence (d : DriveNo)
  | dataBlockReceived (port : PortId) (seq : Byte) (data : List Byte) (check : BitVec 16)
  | statusRecordReceived (port : PortId) (seq code : Byte) (identity : Option (BitVec 48 × Serial)) (check : BitVec 16)
  | linkTimeout (port : PortId)
  | digestStart
  | digestComputationEnd
  | blankCheckEnd (n : CardNo)
  | lampBlinkToggle (n : CardNo)
  | presentSample (port : PortId) (high : Bool)
  deriving DecidableEq, Repr

end Sys2Proof
end

