-- ==== Sys2Proof/Config.lean ====
section
/-! DEFINITION. The constants of the part, and the values its manual leaves open. -/

namespace Sys2Proof

/-- The payload fields whose bytes the manual does not state (log 11, log 12). -/
inductive Unstated
  | boundJobOfUnboundPort (n : CardNo)   -- PORT_EVENT's bound job while the bound flag is clear
  | boundFlagOfDrive (d : DriveNo)       -- PORT_EVENT's bound flag for a drive port
  | boundJobOfDrive (d : DriveNo)        -- PORT_EVENT's bound job for a drive port
  | outcomeOfNoLoss (d : DriveNo)        -- PORT_EVENT's loss outcome while the loss record is NONE
  | startOfAbsentTransaction             -- start block where a transaction has none
  | countOfAbsentTransaction             -- count where a transaction has none
  | failedOfCardTransaction              -- failed attempts byte of a card port's transaction
  | failedOfAbsentTransaction            -- failed attempts byte where no transaction is
  | slabOfIdleReader                     -- PORT_QUERY's slab number while the reader is idle
  | offsetOfIdleReader                   -- PORT_QUERY's span offset while the reader is idle
  | slabOfNoWritingEntry                 -- PORT_QUERY's writing entry when there is none
  | blockOfNoWritingEntry                -- PORT_QUERY's next block when there is no writing entry
  | slabOfNoStage                        -- PORT_QUERY's staged slab when the stage is empty
  | jobOfIdleContext                     -- PORT_QUERY's context job while the context is IDLE
  | fileOfIdleContext                    -- PORT_QUERY's file id while the context is IDLE
  | offsetOfIdleContext                  -- PORT_QUERY's next byte offset while the context is IDLE
  deriving DecidableEq, Repr

namespace Config

/-- DESIGN CHOICE (log 11), safe: a free value for each field the manual states no value of. It has no body, so
nothing can be proved of it; a field of k bytes carries its low k bytes. -/
opaque unstated : Unstated → Nat

/-- DESIGN CHOICE (log 36), safe: a free value for how far the blank checker has come when a stop or a removal breaks
its examination off. It has no body; its argument is the running number of the draw. -/
opaque examinedBefore : Nat → Nat

/-- The digest modulus P (R81). -/
def modulus : Nat := 65519

/-- Bytes of a slab, and of a full span (R40, R62). -/
def slabBytes : Nat := 65536

/-- Bytes of a block (file 00, Conventions). -/
def blockBytes : Nat := 512

/-- Slabs 0 to 507 are the pool (R62). -/
def poolSlabs : Nat := 508

/-- Link timeout of a card link in ms (R163). -/
def cardTimeout : Nat := 1000

/-- Link timeout of a drive link in ms (R163). -/
def driveTimeout : Nat := 4000

/-- Most entries of a job's file queue (R37). -/
def queueLimit : Nat := 128

/-- Records of the file table (R35). -/
def tableLimit : Nat := 512

/-- Most FILE_DONE entries of the output queue (R181). -/
def fileDoneLimit : Nat := 16

/-- Most replies of the output queue (R181). -/
def replyLimit : Nat := 8

/-- Frames of the input buffer (R177). -/
def inputLimit : Nat := 4

/-- Greatest LEN of a frame (R174). -/
def maxPayload : Nat := 480

/-- What a byte of DRAM that nothing has written reads as: DESIGN CHOICE (log 5), unsafe. -/
def dramUnwritten : Byte := 0

end Config

end Sys2Proof
end

