-- ==== Sys2Proof/Machine/State.lean ====
section
/-! DEFINITION. The state of the part, as plain data, and the state right after a reset. Each type cites the table or
rule of spec/ that gives it. A value that follows from another is not stored (INVENTORY.md names these). -/

namespace Sys2Proof.Machine

/-! ## Block links (08) -/

/-- Kind of a transaction (R157). -/
inductive TxnKind
  | identify | read | write
  deriving DecidableEq, Repr

/-- Outcome of a transaction, in the order of its codes (R155, R190). ABANDONED is not here: a link reset ends the
transaction inside the event that asserts it (R164). -/
inductive TxnOutcome
  | good | mediaError | rangeError | notReady | protectedMedium | linkCheck | timeout
  deriving DecidableEq, Repr

/-- A transaction in flight (R155, table of 8.1): the command sent, the blocks received, or sent of a WRITE, the
check-failed mark, and the period in ms of its running timer. -/
structure Flight where
  kind : TxnKind
  seq : Byte
  start : Nat
  count : Nat
  grade : Nat
  blocks : Nat
  checkFailed : Bool
  period : Nat
  deriving DecidableEq, Repr

/-- The link condition (R155). -/
inductive LinkCond
  | idle
  | inFlight (f : Flight)
  | resetting
  deriving DecidableEq, Repr

/-- A block link (R155). -/
structure Link where
  cond : LinkCond
  seq : Byte
  deriving DecidableEq, Repr

/-! ## Jobs (01) -/

/-- The nine job states, in the order of their codes (R2, R190). -/
inductive JobState
  | free | opened | running | held | suspending | suspended | stopping | faulted | ended
  deriving DecidableEq, Repr

/-- The two marks of a hold cause (R10). -/
inductive Mark
  | pending | ready
  deriving DecidableEq, Repr

/-- AUTO or HOST (R10, R113). -/
inductive Release
  | auto | host
  deriving DecidableEq, Repr

/-- The drive-gone action (R13, R14). -/
inductive GoneAction
  | drop | hold
  deriving DecidableEq, Repr

/-- The verify mode. -/
inductive VerifyMode
  | off | readback
  deriving DecidableEq, Repr

/-- The suspend mode (R19). -/
inductive SuspendMode
  | none | prompt | finish
  deriving DecidableEq, Repr

/-- The last release cause (R10). -/
inductive ReleaseCause
  | none | cardGone | destGone (d : DriveNo)
  deriving DecidableEq, Repr

/-- The fault cause (R28, R29). -/
inductive FaultCause
  | none | cardReplaced | cardUnreadable
  deriving DecidableEq, Repr

/-- The end reason. -/
inductive EndReason
  | none | complete | stopped | noDestination
  deriving DecidableEq, Repr

/-- An entry of a job's destination list, with the drive capacity the file table copied (R5, R35). -/
structure Dest where
  port : DriveNo
  serial : Serial
  live : Bool
  capacity : Nat
  deriving DecidableEq, Repr

/-- The hold set: each cause absent, or present with its mark (R10). -/
structure HoldSet where
  cardGone : Option Mark
  destGone : Vector (Option Mark) 4
  deriving DecidableEq, Repr

/-- A job record (table of 1.1), with the file table's card capacity and clean mark for the job (R35, R106). The last
field is the model's own: the number of the next file record when the job was opened, which tells the present job's
files from those of an earlier job of the same number (log 20). -/
structure Job where
  state : JobState
  serial : Serial
  dests : List Dest
  clearance : Nat
  verify : VerifyMode
  quota : Nat
  cardRelease : Release
  driveAction : GoneAction
  driveRelease : Release
  holds : HoldSet
  lastRelease : ReleaseCause
  faultCause : FaultCause
  failures : Nat
  closed : Bool
  suspend : SuspendMode
  accepted : Nat
  retired : Nat
  bytesRead : Nat
  released : Nat
  endReason : EndReason
  cardCapacity : Nat
  clean : Bool
  firstFile : Nat
  deriving DecidableEq, Repr

/-! ## Files (02) -/

/-- A run of consecutive blocks. -/
structure Extent where
  start : Nat
  count : Nat
  deriving DecidableEq, Repr

/-- Source result (2.5). -/
inductive SourceResult
  | pending | good | failed | unreadable
  deriving DecidableEq, Repr

/-- Destination result, in the order of its codes (2.6, R190). -/
inductive DestResult
  | pending | written | verified | mismatch | writeFailed | unreadable | dropped | skipped
  deriving DecidableEq, Repr

/-- Outcome of a file, in the order of its codes (R54, R55). -/
inductive FileOutcome
  | good | short | sourceFailed | abandoned
  deriving DecidableEq, Repr

/-- State of a file; a COMPLETE file carries its outcome (2.4). -/
inductive FileState
  | queued | reading | draining | complete (o : FileOutcome)
  deriving DecidableEq, Repr

/-- An accumulator (4.4). -/
structure Acc where
  a : Nat
  b : Nat
  words : Nat
  deriving DecidableEq, Repr

/-- A file record's entry for one destination (R39). -/
structure FileDest where
  port : DriveNo
  extents : List Extent
  bytesWritten : Nat
  verA : Nat
  verB : Nat
  stored : Bool
  result : DestResult
  deriving DecidableEq, Repr

/-- The name of a file record: its job and a running number, so that a completion is never matched to a record taken
later by another file (R60). The number is the model's own (log 20). -/
structure FileRef where
  job : CardNo
  num : Nat
  deriving DecidableEq, Repr

/-- A file record in use (R39). -/
structure FileRec where
  ref : FileRef
  id : Nat
  len : Nat
  source : List Extent
  readOffset : Nat
  state : FileState
  acc : Acc
  result : SourceResult
  dests : List FileDest
  deriving DecidableEq, Repr

/-! ## Slab memory (03) -/

/-- Slab state (R62). -/
inductive SlabState
  | free | filling | filled
  deriving DecidableEq, Repr

/-- Slab purpose (3.2). -/
inductive Purpose
  | none | source | scan | verify
  deriving DecidableEq, Repr

/-- What a card port asks a pool slab for (R73). -/
inductive SlabUse
  | source | scan
  deriving DecidableEq, Repr

/-- A subset of D0 to D3. -/
abbrev DriveSet := Vector Bool 4

/-- The empty subset. -/
def noDrives : DriveSet := Vector.replicate 4 false

/-- A slab record (table of 3.2). -/
structure Slab where
  state : SlabState
  purpose : Purpose
  job : Option CardNo
  port : Option PortId
  file : Option FileRef
  offset : Nat
  len : Nat
  fillSeq : Nat
  pendingWrites : DriveSet
  inFlight : DriveSet
  digested : Bool
  deriving DecidableEq, Repr

/-! ## The digest unit (04) -/

/-- What a fold goes into (R89). -/
inductive FoldTarget
  | source (f : FileRef)
  | verify (d : DriveNo)
  deriving DecidableEq, Repr

/-- The digest unit (table of 4.5). -/
structure Digest where
  fifo : List SlabNo
  busy : Option SlabNo
  target : Option FoldTarget
  o : Nat
  m : Nat
  t : Nat
  a : Nat
  b : Nat
  words : Nat
  discard : Bool
  deriving DecidableEq, Repr

/-! ## Card ports (06) and residue scans (09) -/

/-- Card port state, in the order of its codes (6.1). -/
inductive CardState
  | empty | settling | identifying | ready | error
  deriving DecidableEq, Repr

/-- The reader while it reads a span (6.5); the span is the slab record's. -/
structure Reader where
  slab : SlabNo
  next : Nat
  deriving DecidableEq, Repr

/-- Lamp patterns, in the order of their codes (5.4). -/
inductive Pattern
  | off | amber | amberBlink | red | redBlink | green
  deriving DecidableEq, Repr

/-- Scan phase (9.1). -/
inductive ScanPhase
  | none | awaitingSlab | reading | checking | ending
  deriving DecidableEq, Repr

/-- Scan direction. -/
inductive Direction
  | up | down
  deriving DecidableEq, Repr

/-- What counts as blank (R169). -/
inductive BlankPattern
  | zero | ones | either
  deriving DecidableEq, Repr

/-- Scan outcome, in the order of its codes (R172). -/
inductive ScanOutcome
  | blank | found | stopped | cardGone | readFailed
  deriving DecidableEq, Repr

/-- The scan record of a card port (9.1). -/
structure Scan where
  phase : ScanPhase
  first : Nat
  count : Nat
  direction : Direction
  pattern : BlankPattern
  examined : Nat
  chunkStart : Nat
  chunkSize : Nat
  slab : Option SlabNo
  deriving DecidableEq, Repr

/-- A card port (table of 6.1). Its transaction in flight is its link's; it is bound while its job is not FREE (R1). -/
structure CardPort where
  state : CardState
  highRun : Nat
  lowRun : Nat
  attempts : Nat
  capacity : Nat
  serial : Serial
  grade : Nat
  attemptsAtGrade : Nat
  reader : Option Reader
  cleared : Bool
  residue : Bool
  unclean : Bool
  lampMode : Release
  pattern : Pattern
  lit : Bool
  scan : Scan
  link : Link
  deriving DecidableEq, Repr

/-! ## Drive ports (07) -/

/-- Drive port state, in the order of its codes (7.1). -/
inductive DriveState
  | absent | settling | identifying | ready | lost | error
  deriving DecidableEq, Repr

/-- The writing entry (R141). -/
structure Writing where
  slab : SlabNo
  next : Nat
  deriving DecidableEq, Repr

/-- The staged transaction: the WRITE of `slab` that starts at file block `block`, the entry's first or the writing
entry's next (R143). -/
structure Staged where
  slab : SlabNo
  block : Nat
  first : Bool
  deriving DecidableEq, Repr

/-- A span of a file: byte offset and length (R40). -/
structure Span where
  offset : Nat
  len : Nat
  deriving DecidableEq, Repr

/-- An ACTIVE verify context (table of 5.1). -/
structure Context where
  file : FileRef
  nextOffset : Nat
  span : Option Span
  nextBlock : Nat
  acc : Acc
  deriving DecidableEq, Repr

/-- The loss record: kind and last outcome of the transaction that sent the port to LOST (7.1). -/
structure Loss where
  kind : TxnKind
  outcome : TxnOutcome
  deriving DecidableEq, Repr

/-- A drive port (tables of 7.1 and 5.1). Its current transaction is its link's, with `failed` failed attempts;
`readAbandoned` marks a read-back in flight whose context was abandoned (R148). `context` is none while IDLE. -/
structure DrivePort where
  state : DriveState
  highRun : Nat
  lowRun : Nat
  attempts : Nat
  capacity : Nat
  serial : Serial
  writeQueue : List SlabNo
  writing : Option Writing
  failed : Nat
  readAbandoned : Bool
  staged : Option Staged
  verifyQueue : List FileRef
  context : Option Context
  loss : Option Loss
  link : Link
  deriving DecidableEq, Repr

/-! ## The control line unit (10) -/

/-- A fault kind other than NONE (R176). -/
inductive LineFault
  | length | gap | check | framing | overrun
  deriving DecidableEq, Repr

/-- The LINK_FAULT record; a kind of `none` is NONE (R176). -/
structure LinkFaultRec where
  kind : Option LineFault
  count : Nat
  deriving DecidableEq, Repr

/-- What a reset is reported with (R173). -/
inductive ResetCause
  | powerOn | resetPin | request
  deriving DecidableEq, Repr

/-- The subject of a notice (R181). -/
inductive Subject
  | ready
  | portEvent (p : PortId)
  | jobState (n : CardNo)
  | fileDone (n : CardNo)
  | progress (n : CardNo)
  | scanDone (n : CardNo)
  | linkFault
  deriving DecidableEq, Repr

/-- What an output queue entry is: a reply (DONE or REFUSED) to a request KIND, or a notice. -/
inductive EntryKind
  | done (request : Byte)
  | refused (request : Byte)
  | notice (s : Subject)
  deriving DecidableEq, Repr

/-- An entry of the output queue (R180): its kind, tag and payload. -/
structure OutEntry where
  kind : EntryKind
  tag : Byte
  payload : List Byte
  deriving DecidableEq, Repr

/-- The notice switches and the progress step (R183). -/
structure NoticeSettings where
  portEvent : Bool
  jobState : Bool
  scanDone : Bool
  linkFault : Bool
  step : Nat
  deriving DecidableEq, Repr

/-- A checked frame of the input buffer (R177). -/
structure RxFrame where
  kind : Byte
  tag : Byte
  payload : List Byte
  deriving DecidableEq, Repr

/-- The receiver's phase with the bytes it has gathered since SOF, in order of arrival (R175): `length` the bytes of
LEN so far, `header` those of LEN, KIND and TAG, `payload` and `check` all from LEN on. -/
inductive RxPhase
  | hunt
  | length (got : List Byte)
  | header (len : Nat) (got : List Byte)
  | payload (len : Nat) (got : List Byte)
  | check (len : Nat) (got : List Byte)
  deriving DecidableEq, Repr

/-- The frame being sent, and whether a reset begins when its last byte has been sent (R180, R187). -/
structure TxFrame where
  bytes : List Byte
  resetAfter : Bool
  deriving DecidableEq, Repr

/-- What holds the part in reset (R173, R187). -/
structure ResetCtl where
  pinLow : Bool
  supplyBad : Bool
  timer : Bool
  cause : ResetCause
  deriving DecidableEq, Repr

/-! ## The whole -/

/-- The state the blocks of the part share. Two fields are the model's own: nextFile, the running number that names
file records (log 20), and freeDraws, the number of free values of `Config.examinedBefore` drawn so far (log 36). -/
structure Ctl where
  jobs : Vector Job 8
  files : List FileRec
  nextFile : Nat
  fileDoneTurn : CardNo
  fileDoneWaiting : Vector Bool 8
  slabs : Vector Slab 512
  fillSeq : Nat
  waitList : Vector (Option SlabUse) 8
  lastGranted : CardNo
  digest : Digest
  cards : Vector CardPort 8
  drives : Vector DrivePort 4
  outq : List OutEntry
  notices : NoticeSettings
  linkFault : LinkFaultRec
  rateCode : Nat
  debounce : Nat
  freeDraws : Nat
  deriving DecidableEq, Repr

/-- The part, with the queue of the commands that wait. -/
structure State where
  ctl : Ctl
  rx : RxPhase
  inbuf : List RxFrame
  handlerStopped : Bool
  tx : Option TxFrame
  resetCtl : ResetCtl
  dram : List Host.Cell
  pending : List Instr
  deriving DecidableEq, Repr

/-- Reasons a step stops with a fault. There is none: nothing in the manual stops the part. -/
inductive Fault
  deriving DecidableEq, Repr

/-- Reasons a step is refused. -/
inductive Refusal
  /-- Raised by exec for a row that has no meaning yet: safe. No arm raises it. -/
  | notModelled (mnemonic : String)
  deriving DecidableEq, Repr

/-! ## Reset values -/

/-- Empty hold set. -/
def HoldSet.empty : HoldSet := { cardGone := none, destGone := Vector.replicate 4 none }

/-- The free values of a job record (R1, R35, R106). -/
def Job.freeValues : Job where
  state := .free
  serial := zeroSerial
  dests := []
  clearance := 0
  verify := .off
  quota := 48
  cardRelease := .auto
  driveAction := .drop
  driveRelease := .auto
  holds := HoldSet.empty
  lastRelease := .none
  faultCause := .none
  failures := 0
  closed := false
  suspend := .none
  accepted := 0
  retired := 0
  bytesRead := 0
  released := 0
  endReason := .none
  cardCapacity := 0
  clean := true
  firstFile := 0

/-- The free values of a slab record (R63). -/
def Slab.freeValues : Slab where
  state := .free
  purpose := .none
  job := none
  port := none
  file := none
  offset := 0
  len := 0
  fillSeq := 0
  pendingWrites := noDrives
  inFlight := noDrives
  digested := false

/-- The digest unit after a reset (R95). -/
def Digest.resetValues : Digest where
  fifo := []
  busy := none
  target := none
  o := 0
  m := 0
  t := 0
  a := 0
  b := 0
  words := 0
  discard := false

/-- A link at the end of a reset: link reset asserted, sequence number 0 (R155). -/
def Link.resetValues : Link where
  cond := .resetting
  seq := 0

/-- The scan record after a reset (9.1). -/
def Scan.resetValues : Scan where
  phase := .none
  first := 0
  count := 0
  direction := .up
  pattern := .zero
  examined := 0
  chunkStart := 0
  chunkSize := 0
  slab := none

/-- A card port after a reset (R115). -/
def CardPort.resetValues : CardPort where
  state := .empty
  highRun := 0
  lowRun := 0
  attempts := 0
  capacity := 0
  serial := zeroSerial
  grade := 0
  attemptsAtGrade := 0
  reader := none
  cleared := false
  residue := false
  unclean := false
  lampMode := .auto
  pattern := .off
  lit := true
  scan := Scan.resetValues
  link := Link.resetValues

/-- A drive port after a reset (R134). -/
def DrivePort.resetValues : DrivePort where
  state := .absent
  highRun := 0
  lowRun := 0
  attempts := 0
  capacity := 0
  serial := zeroSerial
  writeQueue := []
  writing := none
  failed := 0
  readAbandoned := false
  staged := none
  verifyQueue := []
  context := none
  loss := none
  link := Link.resetValues

/-- The shared state after any reset (R188), with the values the straps gave and an output queue still empty. -/
def Ctl.resetValues (rateCode debounce : Nat) : Ctl where
  jobs := Vector.replicate 8 Job.freeValues
  files := []
  nextFile := 0
  fileDoneTurn := 7
  fileDoneWaiting := Vector.replicate 8 false
  slabs := Vector.replicate 512 Slab.freeValues
  fillSeq := 0
  waitList := Vector.replicate 8 none
  lastGranted := 7
  digest := Digest.resetValues
  cards := Vector.replicate 8 CardPort.resetValues
  drives := Vector.replicate 4 DrivePort.resetValues
  outq := []
  notices := { portEvent := true, jobState := true, scanDone := true, linkFault := true, step := 4 }
  linkFault := { kind := none, count := 0 }
  rateCode := rateCode
  debounce := debounce
  freeDraws := 0

/-- The part right after a power-on reset whose straps read 0, 0 and 0, 0 (DESIGN CHOICE, log 4): line rate code 0,
N = 6, and READY alone in the output queue (R188, R189). -/
def State.reset : State where
  ctl := { Ctl.resetValues 0 6 with outq := [{ kind := .notice .ready, tag := 0, payload := [0, 0, 6] }] }
  rx := .hunt
  inbuf := []
  handlerStopped := false
  tx := none
  resetCtl := { pinLow := false, supplyBad := false, timer := false, cause := .powerOn }
  dram := []
  pending := []

end Sys2Proof.Machine
end

