-- ==== Sys2Proof/Machine/Ops.lean ====
section
/-! DEFINITION. Named reads and updates of the state; what a job's state allows; spans and blocks; the DRAM; the
output queue; the block links. -/

namespace Sys2Proof.Machine

/-! ## Reads and updates -/

/-- Job record n. -/
def Ctl.job (c : Ctl) (n : CardNo) : Job := c.jobs[n]

/-- Card port C*n*. -/
def Ctl.card (c : Ctl) (n : CardNo) : CardPort := c.cards[n]

/-- Drive port D*d*. -/
def Ctl.drive (c : Ctl) (d : DriveNo) : DrivePort := c.drives[d]

/-- Slab record x. -/
def Ctl.slab (c : Ctl) (x : SlabNo) : Slab := c.slabs[x]

def Ctl.modJob (c : Ctl) (n : CardNo) (f : Job → Job) : Ctl := { c with jobs := c.jobs.set n (f (c.job n)) }

def Ctl.modCard (c : Ctl) (n : CardNo) (f : CardPort → CardPort) : Ctl :=
  { c with cards := c.cards.set n (f (c.card n)) }

def Ctl.modDrive (c : Ctl) (d : DriveNo) (f : DrivePort → DrivePort) : Ctl :=
  { c with drives := c.drives.set d (f (c.drive d)) }

def Ctl.modSlab (c : Ctl) (x : SlabNo) (f : Slab → Slab) : Ctl := { c with slabs := c.slabs.set x (f (c.slab x)) }

def Ctl.modDigest (c : Ctl) (f : Digest → Digest) : Ctl := { c with digest := f c.digest }

def Ctl.setOutq (c : Ctl) (q : List OutEntry) : Ctl := { c with outq := q }

/-- The purpose card port n's wait-list entry asks for, if it has one (R73). -/
def Ctl.waits (c : Ctl) (n : CardNo) : Option SlabUse := c.waitList[n]

def Ctl.setWait (c : Ctl) (n : CardNo) (u : Option SlabUse) : Ctl := { c with waitList := c.waitList.set n u }

def Ctl.setFileDoneWaiting (c : Ctl) (n : CardNo) (w : Bool) : Ctl :=
  { c with fileDoneWaiting := c.fileDoneWaiting.set n w }

/-- The link of a port (R155). -/
def Ctl.link (c : Ctl) : PortId → Link
  | .card n => (c.card n).link
  | .drive d => (c.drive d).link

def Ctl.setLink (c : Ctl) (p : PortId) (l : Link) : Ctl :=
  match p with
  | .card n => c.modCard n fun x => { x with link := l }
  | .drive d => c.modDrive d fun x => { x with link := l }

/-- The record a reference names, if it is still in use (R60). -/
def Ctl.file? (c : Ctl) (r : FileRef) : Option FileRec := c.files.find? fun f => f.ref == r

def Ctl.modFile (c : Ctl) (r : FileRef) (g : FileRec → FileRec) : Ctl :=
  { c with files := c.files.map fun f => if f.ref = r then g f else f }

/-- Job n's file queue, head first (R35). -/
def Ctl.queue (c : Ctl) (n : CardNo) : List FileRec := c.files.filter fun f => f.ref.job == n

/-- The job's READING file (R42). -/
def Ctl.readingFile (c : Ctl) (n : CardNo) : Option FileRec := (c.queue n).find? fun f => f.state == .reading

/-- File r is one of the job n that is open now, not of an earlier job of the same number (log 20). -/
def Ctl.isFileOf (c : Ctl) (n : CardNo) (r : FileRef) : Bool := r.job == n && decide ((c.job n).firstFile ≤ r.num)

/-- The file of slab x has retired or been discarded (R60). -/
def Ctl.fileGone (c : Ctl) (x : SlabNo) : Bool := ((c.slab x).file.bind c.file?).isNone

/-- Each drive port in turn, D0 first. -/
def eachDrive (f : Ctl → DriveNo → Ctl) (c : Ctl) : Ctl := f (f (f (f c 0) 1) 2) 3

/-- Each job in number order 0 to 7 (R13). -/
def eachJob (f : Ctl → CardNo → Ctl) (c : Ctl) : Ctl := f (f (f (f (f (f (f (f c 0) 1) 2) 3) 4) 5) 6) 7

/-- The slabs that satisfy p, in ascending number (R77, R78). -/
def Ctl.slabsWhere (c : Ctl) (p : Slab → Bool) : List SlabNo :=
  ((List.finRange 512).zip c.slabs.toList).filterMap fun (x, s) => if p s then some x else none

/-- The job holds slab s as a source slab in FILLING or FILLED (R63). -/
def Slab.isSourceOf (s : Slab) (n : CardNo) : Bool := s.purpose == .source && s.job == some n && s.state != .free

/-- s is a FILLED source slab of job n. -/
def Slab.isFilledOf (s : Slab) (n : CardNo) : Bool := s.isSourceOf n && s.state == .filled

/-- s is a FILLED source slab of file r. -/
def Slab.isFilledOfFile (s : Slab) (r : FileRef) : Bool :=
  s.purpose == .source && s.file == some r && s.state == .filled

/-- Job n's source slab count (R63). -/
def Ctl.sourceCount (c : Ctl) (n : CardNo) : Nat := c.slabs.toList.countP fun s => s.isSourceOf n

/-- The free pool count (R63). -/
def Ctl.freePool (c : Ctl) : Nat := (c.slabs.toList.take Config.poolSlabs).countP fun s => s.state == .free

/-- The lowest-numbered FREE slab of the pool (R73). -/
def Ctl.lowestFree (c : Ctl) : Option SlabNo :=
  (List.finRange 512).find? fun x => decide (x.val < Config.poolSlabs) && (c.slab x).state == .free

/-- Verify slab of drive port d: 508 + d (R71). -/
def verifySlab (d : DriveNo) : SlabNo := ⟨508 + d.val, by omega⟩

/-! ## Destinations -/

/-- Job n's destination entry for drive port d. -/
def Job.dest? (j : Job) (d : DriveNo) : Option Dest := j.dests.find? fun e => e.port == d

/-- d is LIVE in the job. -/
def Job.isLive (j : Job) (d : DriveNo) : Bool := j.dests.any fun e => e.port == d && e.live

/-- A file's entry for drive port d. -/
def FileRec.dest? (f : FileRec) (d : DriveNo) : Option FileDest := f.dests.find? fun e => e.port == d

/-- The file's result on d. -/
def FileRec.resultOn (f : FileRec) (d : DriveNo) : Option DestResult := (f.dest? d).map (·.result)

/-- Change the file's entry for d. -/
def FileRec.modDest (f : FileRec) (d : DriveNo) (g : FileDest → FileDest) : FileRec :=
  { f with dests := f.dests.map fun e => if e.port = d then g e else e }

/-- The result on d of the file a reference names, if the record is in use (R60). -/
def Ctl.resultOn (c : Ctl) (r : FileRef) (d : DriveNo) : Option DestResult := (c.file? r).bind (·.resultOn d)

/-! ## What a job's state allows (R2) -/

/-- Drive ports may start the job's writes and verifies, and a read begun may go on (R2, R98, R126, R140). -/
def Job.allowsWork (j : Job) : Bool :=
  match j.state with
  | .running | .held | .faulted => true
  | .suspending => j.suspend == .finish
  | _ => false

/-- The states in which hold causes are added, marked and removed, and losses and drops act (R10, R13, R14). -/
def Job.isActive (j : Job) : Bool :=
  match j.state with
  | .free | .ended => false
  | _ => true

/-- No cause is held (R10). -/
def HoldSet.isEmpty (h : HoldSet) : Bool := h.cardGone.isNone && h.destGone.toList.all Option.isNone

/-! ## Spans and blocks (2.3) -/

/-- Word count W of a file (R39, R81). -/
def FileRec.wordCount (f : FileRec) : Nat := (f.len + 1) / 2

/-- Blocks that hold `len` bytes. -/
def blocksFor (len : Nat) : Nat := (len + 511) / 512

/-- Length of the span that starts at byte `offset` of a file of `len` bytes (R40). -/
def spanLen (len offset : Nat) : Nat := min Config.slabBytes (len - offset)

/-- First file block of a span (R124). -/
def firstBlock (offset : Nat) : Nat := offset / Config.blockBytes

/-- The file block after a span's last (R40). -/
def endBlock (offset len : Nat) : Nat := firstBlock offset + blocksFor len

/-- The device block of file block i, and the blocks from it to its extent's end (R41). -/
def mapBlock : List Extent → Nat → Option (Nat × Nat)
  | [], _ => none
  | e :: rest, i => if i < e.count then some (e.start + i, e.count - i) else mapBlock rest (i - e.count)

/-- Start block and count of the transaction that begins at file block `next` of a span ending before `stop`: at most
128 blocks, within the span and within one extent (R125, R141, R99). -/
def txnAt (extents : List Extent) (next stop : Nat) : Option (Nat × Nat) :=
  (mapBlock extents next).map fun (start, left) => (start, min 128 (min (stop - next) left))

/-! ## DRAM (R62) -/

/-- The byte at an address. -/
def readByte : List Host.Cell → Nat → Byte
  | [], _ => Config.dramUnwritten
  | (a, b) :: rest, addr => if a = addr then b else readByte rest addr

/-- Write one byte, keeping addresses rising and no entry equal to what an unlisted address reads as (log 5). -/
def writeByte : List Host.Cell → Nat → Byte → List Host.Cell
  | [], addr, v => if v = Config.dramUnwritten then [] else [(addr, v)]
  | (a, b) :: rest, addr, v =>
    if addr < a then (if v = Config.dramUnwritten then (a, b) :: rest else (addr, v) :: (a, b) :: rest)
    else if a = addr then (if v = Config.dramUnwritten then rest else (addr, v) :: rest)
    else (a, b) :: writeByte rest addr v

/-- Write bytes at consecutive addresses. -/
def writeBytes : List Host.Cell → Nat → List Byte → List Host.Cell
  | m, _, [] => m
  | m, addr, b :: rest => writeBytes (writeByte m addr b) (addr + 1) rest

/-- `n` bytes from an address. -/
def readBytes (m : List Host.Cell) (addr n : Nat) : List Byte := (List.range n).map fun i => readByte m (addr + i)

/-- The canonical form: addresses strictly rising, no entry equal to what an unlisted address reads as. -/
def memWf : List Host.Cell → Bool
  | [] => true
  | (_, b) :: [] => b != Config.dramUnwritten
  | (a, b) :: (a', b') :: rest => b != Config.dramUnwritten && decide (a < a') && memWf ((a', b') :: rest)

/-- Address of byte i of slab x (R62). -/
def slabAddr (x : SlabNo) (i : Nat) : Nat := x.val * Config.slabBytes + i

/-! ## The output queue (10.4) -/

/-- The entry is a reply (R181). -/
def OutEntry.isReply (e : OutEntry) : Bool :=
  match e.kind with
  | .done _ | .refused _ => true
  | .notice _ => false

/-- The entry is a FILE_DONE (R181). -/
def OutEntry.isFileDone (e : OutEntry) : Bool :=
  match e.kind with
  | .notice (.fileDone _) => true
  | _ => false

/-- FILE_DONE entries in the queue (R56). -/
def Ctl.fileDoneCount (c : Ctl) : Nat := c.outq.countP OutEntry.isFileDone

/-- Replies in the queue (R178). -/
def Ctl.replyCount (c : Ctl) : Nat := c.outq.countP OutEntry.isReply

/-- Join at the tail (R180). -/
def Ctl.pushEntry (c : Ctl) (e : OutEntry) : Ctl := c.setOutq (c.outq ++ [e])

/-- Overwrite the waiting entry of a subject where it stands, or join at the tail (R182). -/
def coalesce (q : List OutEntry) (s : Subject) (payload : List Byte) : List OutEntry :=
  if q.any (fun e => e.kind == .notice s) then
    q.map fun e => if e.kind = .notice s then { e with payload := payload } else e
  else q ++ [{ kind := .notice s, tag := 0, payload := payload }]

/-- Queue or update a notice of a coalesced kind (R182). -/
def Ctl.pushNotice (c : Ctl) (s : Subject) (payload : List Byte) : Ctl := c.setOutq (coalesce c.outq s payload)

/-! ## Block links (08) -/

/-- The transaction in flight. -/
def Link.flight (l : Link) : Option Flight :=
  match l.cond with
  | .inFlight f => some f
  | _ => none

/-- The link condition is IDLE (R155). -/
def Link.isIdle (l : Link) : Bool := l.cond == .idle

/-- A transaction of the kind is in flight. -/
def Link.carries (l : Link) (k : TxnKind) : Bool := l.flight.any fun f => f.kind == k

/-- Issue a transaction: raise the sequence number, send the command and start the timer (R157). A command is sent
only on an IDLE link (R155). The data blocks of a WRITE are a field of its command, all counted as sent with it
(DEDUCED, log 37). -/
def Link.issue (l : Link) (kind : TxnKind) (start count grade period : Nat) : Link :=
  if l.isIdle then
    { cond := .inFlight { kind := kind, seq := l.seq + 1, start := start, count := count, grade := grade,
                          blocks := if kind = .write then count else 0, checkFailed := false, period := period }
      seq := l.seq + 1 }
  else l

/-- The transaction has ended: IDLE (R155). -/
def Link.finish (l : Link) : Link := { l with cond := .idle }

/-- Assert the link reset; a transaction in flight ends ABANDONED (R164). -/
def Link.assertReset (l : Link) : Link := { l with cond := .resetting }

/-- Issue IDENTIFY on a card link, at grade 0 (R118, R157). -/
def Ctl.cardIdentify (c : Ctl) (n : CardNo) : Ctl :=
  c.modCard n fun p => { p with link := p.link.issue .identify 0 0 0 Config.cardTimeout }

/-- Issue READ on a card link, at the port's speed grade (R121). -/
def Ctl.cardRead (c : Ctl) (n : CardNo) (start count : Nat) : Ctl :=
  c.modCard n fun p => { p with link := p.link.issue .read start count p.grade Config.cardTimeout }

/-- Issue a transaction on a drive link (R157). -/
def Ctl.driveIssue (c : Ctl) (d : DriveNo) (kind : TxnKind) (start count : Nat) : Ctl :=
  c.modDrive d fun p => { p with link := p.link.issue kind start count 0 Config.driveTimeout }

end Sys2Proof.Machine
end

