-- ==== Sys2Proof/Machine/Operands.lean ====
section
/-! DEFINITION. Bytes of frames: byte order, the CRC, the codes of enumerated fields, notice and reply payloads, the
frame itself, and the parsing of request payloads (10.2, 10.7). -/

namespace Sys2Proof.Machine

/-! ## Byte order and check value -/

/-- The low k bytes of v, low-order byte first (R190). -/
def leBytes : Nat → Nat → List Byte
  | 0, _ => []
  | k + 1, v => BitVec.ofNat 8 v :: leBytes k (v / 256)

/-- The number whose bytes, low-order first, are these (R190). -/
def ofLe : List Byte → Nat
  | [] => 0
  | b :: rest => b.toNat + 256 * ofLe rest

/-- One bit of the CRC-16, polynomial 0x1021, most significant first (R158, R174). -/
def crcBit (r : BitVec 16) : BitVec 16 := if r.msb then (r <<< 1) ^^^ 0x1021#16 else r <<< 1

/-- One byte of the CRC-16. -/
def crcByte (r : BitVec 16) (b : Byte) : BitVec 16 :=
  let x := r ^^^ ((b.setWidth 16) <<< 8)
  crcBit (crcBit (crcBit (crcBit (crcBit (crcBit (crcBit (crcBit x)))))))

/-- CRC-16 with initial value 0xFFFF and no final inversion (R158, R174). -/
def crc16 (bytes : List Byte) : BitVec 16 := bytes.foldl crcByte 0xFFFF#16

/-- The check as it is sent in a frame, high byte first (R174). -/
def crcBytes (r : BitVec 16) : List Byte := [(r >>> 8).setWidth 8, r.setWidth 8]

/-! ## Codes (R190) -/

def boolByte (b : Bool) : Byte := if b then 1 else 0

def JobState.code : JobState → Byte
  | .free => 0 | .opened => 1 | .running => 2 | .held => 3 | .suspending => 4 | .suspended => 5 | .stopping => 6
  | .faulted => 7 | .ended => 8

def CardState.code : CardState → Byte
  | .empty => 0 | .settling => 1 | .identifying => 2 | .ready => 3 | .error => 4

def DriveState.code : DriveState → Byte
  | .absent => 0 | .settling => 1 | .identifying => 2 | .ready => 3 | .lost => 4 | .error => 5

def DestResult.code : DestResult → Byte
  | .pending => 0 | .written => 1 | .verified => 2 | .mismatch => 3 | .writeFailed => 4 | .unreadable => 5
  | .dropped => 6 | .skipped => 7

def FileOutcome.code : FileOutcome → Byte
  | .good => 0 | .short => 1 | .sourceFailed => 2 | .abandoned => 3

def ScanOutcome.code : ScanOutcome → Byte
  | .blank => 0 | .found => 1 | .stopped => 2 | .cardGone => 3 | .readFailed => 4

def TxnOutcome.code : TxnOutcome → Byte
  | .good => 0 | .mediaError => 1 | .rangeError => 2 | .notReady => 3 | .protectedMedium => 4 | .linkCheck => 5
  | .timeout => 6

def Release.code : Release → Byte
  | .auto => 0 | .host => 1

def GoneAction.code : GoneAction → Byte
  | .drop => 0 | .hold => 1

def VerifyMode.code : VerifyMode → Byte
  | .off => 0 | .readback => 1

/-- Suspend mode as JOB_STATE codes it (R191). -/
def SuspendMode.code : SuspendMode → Byte
  | .none => 0 | .prompt => 1 | .finish => 2

def FaultCause.code : FaultCause → Byte
  | .none => 0 | .cardReplaced => 1 | .cardUnreadable => 2

def EndReason.code : EndReason → Byte
  | .none => 0 | .complete => 1 | .stopped => 2 | .noDestination => 3

def ReleaseCause.code : ReleaseCause → Byte
  | .none => 0 | .cardGone => 1 | .destGone d => BitVec.ofNat 8 (2 + d.val)

def markCode : Option Mark → Byte
  | none => 0 | some .pending => 1 | some .ready => 2

def Pattern.code : Pattern → Byte
  | .off => 0 | .amber => 1 | .amberBlink => 2 | .red => 3 | .redBlink => 4 | .green => 5

def faultKindCode : Option LineFault → Byte
  | none => 0 | some .length => 1 | some .gap => 2 | some .check => 3 | some .framing => 4 | some .overrun => 5

def ResetCause.code : ResetCause → Byte
  | .powerOn => 0 | .resetPin => 1 | .request => 2

/-- Transaction kinds in payloads; 0 is none (R191). -/
def TxnKind.code : TxnKind → Byte
  | .identify => 1 | .write => 2 | .read => 3

/-- Ports by number: 0 to 7 for C0 to C7, 8 to 11 for D0 to D3 (R185). -/
def portCode : PortId → Byte
  | .card n => BitVec.ofNat 8 n.val
  | .drive d => BitVec.ofNat 8 (8 + d.val)

/-- Message kinds (R190). -/
inductive MsgKind
  | ident | partReset | noticeSet | portQuery | lampSet | jobOpen | jobStart | fileAdd | jobClose | jobSuspend
  | jobResume | jobDrop | jobStop | jobClear | jobFree | jobQuery | scanStart | scanStop
  deriving DecidableEq, Repr

def MsgKind.code : MsgKind → Byte
  | .ident => 0x01 | .partReset => 0x02 | .noticeSet => 0x03 | .portQuery => 0x04 | .lampSet => 0x05
  | .jobOpen => 0x06 | .jobStart => 0x07 | .fileAdd => 0x08 | .jobClose => 0x09 | .jobSuspend => 0x0A
  | .jobResume => 0x0B | .jobDrop => 0x0C | .jobStop => 0x0D | .jobClear => 0x0E | .jobFree => 0x0F
  | .jobQuery => 0x10 | .scanStart => 0x11 | .scanStop => 0x12

/-- The byte names a request: 0x01 to 0x12 (R178, R190). -/
def isRequestCode (b : Byte) : Bool := decide (1 ≤ b.toNat) && decide (b.toNat ≤ 0x12)

/-- KIND of a reply or notice (R190). -/
def EntryKind.code : EntryKind → Byte
  | .done _ => 0x80
  | .refused _ => 0x81
  | .notice .ready => 0xC0
  | .notice (.portEvent _) => 0xC1
  | .notice (.jobState _) => 0xC2
  | .notice (.fileDone _) => 0xC3
  | .notice (.progress _) => 0xC4
  | .notice (.scanDone _) => 0xC5
  | .notice .linkFault => 0xC6

/-- Refusal reasons, in the order of the table in R179. -/
inductive Reason
  | badKind | badLength | badField | noJob | wrongState | locked | closed | holdPersists | portNotReady | portBusy
  | slotInUse | queueFull | tableFull | duplicateId | extentMismatch | outOfRange
  deriving DecidableEq, Repr

def Reason.code : Reason → Byte
  | .badKind => 1 | .badLength => 2 | .badField => 3 | .noJob => 4 | .wrongState => 5 | .locked => 6 | .closed => 7
  | .holdPersists => 8 | .portNotReady => 9 | .portBusy => 10 | .slotInUse => 11 | .queueFull => 12
  | .tableFull => 13 | .duplicateId => 14 | .extentMismatch => 15 | .outOfRange => 16

/-! ## Notice payloads (R191) -/

/-- k bytes of a field whose value the manual does not state (log 11). -/
def unstatedBytes (k : Nat) (u : Unstated) : List Byte := leBytes k (Config.unstated u)

/-- The card port is bound: its job is not FREE (R1, R131). -/
def Ctl.isBound (c : Ctl) (n : CardNo) : Bool := (c.job n).state != .free

/-- PORT_EVENT of a card port (R132, R191). -/
def Ctl.cardEventPayload (c : Ctl) (n : CardNo) : List Byte :=
  let p := c.card n
  let ready := p.state == .ready
  [portCode (.card n), p.state.code, BitVec.ofNat 8 p.grade, boolByte (c.isBound n)]
    ++ (if c.isBound n then [BitVec.ofNat 8 n.val] else unstatedBytes 1 (.boundJobOfUnboundPort n))
    ++ leBytes 6 (if ready then p.capacity else 0)
    ++ (if ready then p.serial else zeroSerial).toList
    ++ [boolByte p.cleared, boolByte p.residue, boolByte p.unclean, 0, 0]

/-- PORT_EVENT of a drive port (R153, R191). -/
def Ctl.driveEventPayload (c : Ctl) (d : DriveNo) : List Byte :=
  let p := c.drive d
  let ready := p.state == .ready
  [portCode (.drive d), p.state.code, 0]
    ++ unstatedBytes 1 (.boundFlagOfDrive d) ++ unstatedBytes 1 (.boundJobOfDrive d)
    ++ leBytes 6 (if ready then p.capacity else 0)
    ++ (if ready then p.serial else zeroSerial).toList
    ++ [0, 0, 0]
    ++ (match p.loss with
        | some l => [l.kind.code, l.outcome.code]
        | none => 0 :: unstatedBytes 1 (.outcomeOfNoLoss d))

/-- PORT_EVENT (R132, R153). -/
def Ctl.portEventPayload (c : Ctl) : PortId → List Byte
  | .card n => c.cardEventPayload n
  | .drive d => c.driveEventPayload d

/-- JOB_STATE (R33, R191). -/
def Ctl.jobStatePayload (c : Ctl) (n : CardNo) : List Byte :=
  let j := c.job n
  [BitVec.ofNat 8 n.val, j.state.code, j.endReason.code, j.faultCause.code, j.suspend.code, boolByte j.closed,
    j.lastRelease.code, markCode j.holds.cardGone, markCode j.holds.destGone[0], markCode j.holds.destGone[1],
    markCode j.holds.destGone[2], markCode j.holds.destGone[3]]

/-- The four counters as PROGRESS lays them out (R34, R191). -/
def Job.counterBytes (j : Job) : List Byte :=
  leBytes 4 j.accepted ++ leBytes 4 j.retired ++ leBytes 8 j.bytesRead ++ leBytes 4 j.released

/-- PROGRESS (R34, R191). -/
def Ctl.progressPayload (c : Ctl) (n : CardNo) : List Byte := BitVec.ofNat 8 n.val :: (c.job n).counterBytes

/-- SCAN_DONE (R172, R191). -/
def scanDonePayload (n : CardNo) (o : ScanOutcome) (addr examined : Nat) : List Byte :=
  [BitVec.ofNat 8 n.val, o.code] ++ leBytes 6 addr ++ leBytes 6 examined

/-- LINK_FAULT (R176, R191). -/
def linkFaultPayload (r : LinkFaultRec) : List Byte := faultKindCode r.kind :: leBytes 2 r.count

/-- READY (R189, R191). -/
def readyPayload (cause : ResetCause) (rateCode debounce : Nat) : List Byte :=
  [cause.code, BitVec.ofNat 8 rateCode, BitVec.ofNat 8 debounce]

/-! ## Frames (R174) -/

/-- The frame of a message: SOF, LEN, KIND, TAG, PAYLOAD, CHK (R174). -/
def frameBytes (kind tag : Byte) (payload : List Byte) : List Byte :=
  let body := leBytes 2 payload.length ++ [kind, tag] ++ payload
  0xA5 :: body ++ crcBytes (crc16 body)

/-- The frame built from an entry's contents as they stand (R180). -/
def OutEntry.frame (e : OutEntry) : List Byte := frameBytes e.kind.code e.tag e.payload

/-! ## Request payloads -/

/-- A job number, or a card port number, within 0 to 7 (R3). -/
def cardNo? (b : Byte) : Option CardNo := if h : b.toNat < 8 then some ⟨b.toNat, h⟩ else none

/-- A drive port number within 0 to 3. -/
def driveNo? (b : Byte) : Option DriveNo := if h : b.toNat < 4 then some ⟨b.toNat, h⟩ else none

/-- A port number within 0 to 11 (R185). -/
def portId? (b : Byte) : Option PortId :=
  if h : b.toNat < 8 then some (.card ⟨b.toNat, h⟩)
  else if h2 : b.toNat - 8 < 4 then some (.drive ⟨b.toNat - 8, h2⟩)
  else none

def release? (b : Byte) : Option Release := if b = 0 then some .auto else if b = 1 then some .host else none

def goneAction? (b : Byte) : Option GoneAction := if b = 0 then some .drop else if b = 1 then some .hold else none

def verifyMode? (b : Byte) : Option VerifyMode := if b = 0 then some .off else if b = 1 then some .readback else none

/-- PROMPT or FINISH in a request, coded 0 then 1 (R190). -/
def suspendMode? (b : Byte) : Option SuspendMode :=
  if b = 0 then some .prompt else if b = 1 then some .finish else none

def direction? (b : Byte) : Option Direction := if b = 0 then some .up else if b = 1 then some .down else none

def blankPattern? (b : Byte) : Option BlankPattern :=
  if b = 0 then some .zero else if b = 1 then some .ones else if b = 2 then some .either else none

def pattern? (b : Byte) : Option Pattern :=
  if b = 0 then some .off else if b = 1 then some .amber else if b = 2 then some .amberBlink
  else if b = 3 then some .red else if b = 4 then some .redBlink else if b = 5 then some .green else none

/-- The five status codes of a bridge, coded as R190 codes transaction outcomes (DEDUCED, log 10). -/
def statusCode? (b : Byte) : Option TxnOutcome :=
  if b = 0 then some .good else if b = 1 then some .mediaError else if b = 2 then some .rangeError
  else if b = 3 then some .notReady else if b = 4 then some .protectedMedium else none

/-- Split off the first k bytes, if there are k. -/
def takeBytes : Nat → List Byte → Option (List Byte × List Byte)
  | 0, rest => some ([], rest)
  | _ + 1, [] => none
  | k + 1, b :: rest => (takeBytes k rest).map fun (got, left) => (b :: got, left)

/-- `k` extents of 10 bytes each (R190). -/
def parseExtents : Nat → List Byte → Option (List Extent × List Byte)
  | 0, rest => some ([], rest)
  | k + 1, bytes => do
    let (start, r1) ← takeBytes 6 bytes
    let (count, r2) ← takeBytes 4 r1
    let (more, r3) ← parseExtents k r2
    pure ({ start := ofLe start, count := ofLe count } :: more, r3)

/-- An extent list: its count, then its extents. The count byte stays with the list for R36. -/
def parseList : List Byte → Option ((Nat × List Extent) × List Byte)
  | [] => none
  | n :: rest => (parseExtents n.toNat rest).map fun (l, left) => ((n.toNat, l), left)

/-- Whole extent lists until the payload is used up; each uses a byte at least (R191). -/
def parseLists : Nat → List Byte → Option (List (Nat × List Extent))
  | _, [] => some []
  | 0, _ :: _ => none
  | fuel + 1, bytes => do
    let (l, rest) ← parseList bytes
    let more ← parseLists fuel rest
    pure (l :: more)

/-- A parsed FILE_ADD (R191). -/
structure FileAddReq where
  job : Byte
  id : Nat
  len : Nat
  source : Nat × List Extent
  dests : List (Nat × List Extent)
  deriving DecidableEq, Repr

/-- Parse a FILE_ADD payload: the 10-byte head, the source list, then whole destination lists (R191). -/
def parseFileAdd (bytes : List Byte) : Option FileAddReq := do
  let (job, r0) ← takeBytes 1 bytes
  let (id, r1) ← takeBytes 4 r0
  let (len, r2) ← takeBytes 5 r1
  let (src, r3) ← parseList r2
  let dests ← parseLists r3.length r3
  pure { job := job.headD 0, id := ofLe id, len := ofLe len, source := src, dests := dests }

end Sys2Proof.Machine
end

