-- ==== Sys2Proof/Machine/Flags.lean ====
section
/-! DEFINITION. The marks of a card port, its lamp (5.4), and the queuing of the notices that report ports, jobs,
progress and line faults (R33, R34, R132, R153, R176). -/

namespace Sys2Proof.Machine

/-- Queue or update PORT_EVENT of a port while PORT_EVENT notices are enabled (R132, R153, R182). -/
def Ctl.notifyPort (c : Ctl) (p : PortId) : Ctl :=
  if c.notices.portEvent then c.pushNotice (.portEvent p) (c.portEventPayload p) else c

/-- Queue or update JOB_STATE of a job while JOB_STATE notices are enabled (R33, R182). -/
def Ctl.notifyJob (c : Ctl) (n : CardNo) : Ctl :=
  if c.notices.jobState then c.pushNotice (.jobState n) (c.jobStatePayload n) else c

/-- Queue or update PROGRESS when slabs released has reached a whole multiple of 2^k and k is above 0 (R34). -/
def Ctl.notifyProgress (c : Ctl) (n : CardNo) : Ctl :=
  if 0 < c.notices.step ∧ (c.job n).released % 2 ^ c.notices.step = 0 then
    c.pushNotice (.progress n) (c.progressPayload n)
  else c

/-- Report a discarded frame to the LINK_FAULT record, and queue or update LINK_FAULT while enabled (R176). -/
def Ctl.lineFault (c : Ctl) (k : LineFault) : Ctl :=
  let c := { c with linkFault := { kind := some k, count := min 65535 (c.linkFault.count + 1) } }
  if c.notices.linkFault then c.pushNotice .linkFault (linkFaultPayload c.linkFault) else c

/-! ## Lamps -/

/-- The pattern of AUTO mode: the first row of R111 whose condition holds. -/
def Ctl.lampAuto (c : Ctl) (n : CardNo) : Pattern :=
  let p := c.card n
  let j := (c.job n).state
  if p.state = .empty ∨ p.state = .settling then .off
  else if p.cleared then .green
  else if p.state = .error ∨ j = .held ∨ j = .faulted ∨ p.unclean ∨ p.residue then .red
  else if j = .running ∨ j = .suspending ∨ j = .stopping then .amberBlink
  else .amber

/-- Show a pattern. A pattern taken from another starts lit; the same pattern keeps its cycle (R112). -/
def CardPort.show (p : CardPort) (q : Pattern) : CardPort :=
  if p.pattern = q then p else { p with pattern := q, lit := true }

/-- Work the lamp out again, in AUTO mode (R111, R114). -/
def Ctl.lampUpdate (c : Ctl) (n : CardNo) : Ctl :=
  if (c.card n).lampMode = .auto then c.modCard n fun p => p.show (c.lampAuto n) else c

/-- A pattern that blinks (5.4). -/
def Pattern.blinks : Pattern → Bool
  | .amberBlink | .redBlink => true
  | _ => false

/-- The lamp pins LAMP_R and LAMP_G: amber is both lit (10.1). -/
def CardPort.lampPins (p : CardPort) : Bool × Bool :=
  match p.pattern with
  | .off => (false, false)
  | .amber => (true, true)
  | .amberBlink => (p.lit, p.lit)
  | .red => (true, false)
  | .redBlink => (p.lit, false)
  | .green => (false, true)

/-- Every 500 ms a blinking pattern changes between lit and dark (R112). -/
def CardPort.toggle (p : CardPort) : CardPort := if p.pattern.blinks then { p with lit := !p.lit } else p

/-! ## Marks -/

/-- Write the cleared flag, residue flag and unclean-end mark; a change queues PORT_EVENT and works the lamp out
again (R110, R111). -/
def Ctl.setMarks (c : Ctl) (n : CardNo) (cleared residue unclean : Bool) : Ctl :=
  let p := c.card n
  if p.cleared = cleared ∧ p.residue = residue ∧ p.unclean = unclean then c
  else
    let c := c.modCard n fun p => { p with cleared := cleared, residue := residue, unclean := unclean }
    (c.lampUpdate n).notifyPort (.card n)

/-- The four conditions of clearance (R107). -/
def Ctl.clearable (c : Ctl) (n : CardNo) : Bool :=
  let j := c.job n
  let p := c.card n
  j.endReason == .complete && j.clean && p.state == .ready && p.serial == j.serial && !p.residue

/-- Clearance at the end of a job (R107): all four conditions set the cleared flag and clear the unclean-end mark;
otherwise the cleared flag stays clear and the unclean-end mark is set. -/
def Ctl.evaluateClearance (c : Ctl) (n : CardNo) : Ctl :=
  let p := c.card n
  if c.clearable n then c.setMarks n true p.residue false else c.setMarks n false p.residue true

/-! ## Changes of a job record -/

/-- What JOB_STATE is queued for: state, hold set with marks, suspend mode, fault cause, end reason (R33). -/
def Job.noticed (j : Job) : JobState × HoldSet × SuspendMode × FaultCause × EndReason :=
  (j.state, j.holds, j.suspend, j.faultCause, j.endReason)

/-- A SOURCE entry of the wait list leaves it when its job is not RUNNING (R75). -/
def Ctl.dropWaitUnlessRunning (c : Ctl) (n : CardNo) : Ctl :=
  if (c.job n).state ≠ .running ∧ c.waits n = some .source then c.setWait n none else c

/-- Change job record n. The wait-list entry of a job that is not RUNNING leaves (R75), the lamp is worked out again
(R111), and JOB_STATE is queued if a field it is queued for has changed (R33). -/
def Ctl.updJob (c : Ctl) (n : CardNo) (f : Job → Job) : Ctl :=
  let before := (c.job n).noticed
  let c := ((c.modJob n f).dropWaitUnlessRunning n).lampUpdate n
  if (c.job n).noticed = before then c else c.notifyJob n

end Sys2Proof.Machine
end

