-- ==== Sys2Proof/Machine/Slabs.lean ====
section
/-! DEFINITION. The slab allocator (03): requests, grants, the wait list, releases; and the digest FIFO's entries and
withdrawals (R88, R79, R90). -/

namespace Sys2Proof.Machine

/-! ## Grants -/

/-- Issue the READ at the reader's next block, a new transaction with no failed attempt (R124, R125, log 19). -/
def Ctl.issueSpanRead (c : Ctl) (n : CardNo) : Ctl :=
  match (c.card n).reader with
  | none => c
  | some r =>
    let s := c.slab r.slab
    match s.file.bind c.file? with
    | none => c
    | some f =>
      match txnAt f.source r.next (endBlock s.offset s.len) with
      | none => c
      | some (start, count) => (c.modCard n fun p => { p with attemptsAtGrade := 0 }).cardRead n start count

/-- Grant slab x to card port n for its job's reader: the slab takes the READING file as it stands, and the reader
begins the span read (R65, R124). -/
def Ctl.grantSource (c : Ctl) (n : CardNo) (x : SlabNo) : Ctl :=
  match c.readingFile n with
  | none => c.setWait n none
  | some f =>
    let c := c.modSlab x fun _ =>
      { Slab.freeValues with
        state := .filling, purpose := .source, job := some n, file := some f.ref, offset := f.readOffset,
        len := spanLen f.len f.readOffset }
    let c := { c.setWait n none with lastGranted := n }
    let c := c.modCard n fun p => { p with reader := some { slab := x, next := firstBlock f.readOffset } }
    c.issueSpanRead n

/-- Grant slab x to card port n's scan, which reads its chunk (R70, R167). -/
def Ctl.grantScan (c : Ctl) (n : CardNo) (x : SlabNo) : Ctl :=
  let sc := (c.card n).scan
  let c := c.modSlab x fun _ =>
    { Slab.freeValues with
      state := .filling, purpose := .scan, port := some (.card n), len := sc.chunkSize * Config.blockBytes }
  let c := { c.setWait n none with lastGranted := n }
  let c := c.modCard n fun p =>
    { p with scan := { p.scan with phase := .reading, slab := some x }, attemptsAtGrade := 0 }
  c.cardRead n sc.chunkStart sc.chunkSize

/-- Grant slab x to card port n for the purpose it asked. -/
def Ctl.grant (c : Ctl) (n : CardNo) (u : SlabUse) (x : SlabNo) : Ctl :=
  match u with
  | .source => c.grantSource n x
  | .scan => c.grantScan n x

/-- A raised request is granted the lowest-numbered FREE pool slab at once, or joins the wait list (R73). -/
def Ctl.raise (c : Ctl) (n : CardNo) (u : SlabUse) : Ctl :=
  if (c.waits n).isSome then c
  else
    match c.lowestFree with
    | some x => c.grant n u x
    | none => c.setWait n (some u)

/-- The reader's slab request stands (R72). The port reads only in READY, over an IDLE link (R128, R155). -/
def Ctl.sourceRequest (c : Ctl) (n : CardNo) : Bool :=
  let j := c.job n
  let p := c.card n
  j.state == .running
    && (c.readingFile n).any (fun f => decide (f.readOffset < f.len))
    && decide (c.sourceCount n < j.quota)
    && p.state == .ready && p.reader.isNone && p.link.isIdle

/-- Raise the reader's request if it stands and is not waiting (R72). -/
def Ctl.raiseSource (c : Ctl) (n : CardNo) : Ctl := if c.sourceRequest n then c.raise n .source else c

/-- The waiting card port that comes next after the last granted one, wrapping from C7 to C0 (R74). -/
def Ctl.nextWaiting (c : Ctl) : Option CardNo :=
  (List.finRange 8).map (fun i => c.lastGranted + 1 + i) |>.find? fun n => (c.waits n).isSome

/-- Card port n's waiting request for a purpose still stands (R72, R75, R167). -/
def Ctl.stillStands (c : Ctl) (n : CardNo) : SlabUse → Bool
  | .source =>
    (c.job n).state == .running && (c.readingFile n).any (fun f => decide (f.readOffset < f.len))
      && decide (c.sourceCount n < (c.job n).quota)
  | .scan => (c.card n).scan.phase == .awaitingSlab

/-- Grant slab x to the next waiting port whose request stands; the entry of one that stands no more leaves (R74, R75). -/
def Ctl.offerRun : Nat → Ctl → SlabNo → Ctl
  | 0, c, _ => c
  | fuel + 1, c, x =>
    match c.nextWaiting with
    | none => c
    | some n =>
      match c.waits n with
      | none => c
      | some u => if c.stillStands n u then c.grant n u x else offerRun fuel (c.setWait n none) x

/-- A pool slab that became FREE goes to the next waiting port, if any waits (R74). Eight ports bound the run. -/
def Ctl.offer (c : Ctl) (x : SlabNo) : Ctl := c.offerRun 8 x

/-- A SOURCE entry leaves the wait list when the job has no READING file with unread bytes left (R75). -/
def Ctl.dropStaleWait (c : Ctl) (n : CardNo) : Ctl :=
  if c.waits n = some .source
      ∧ ((c.job n).state ≠ .running ∨ (c.readingFile n).all (fun f => decide (f.len ≤ f.readOffset)))
  then c.setWait n none else c

/-! ## Releases -/

/-- A pool slab goes to FREE with its free values (R63) and is offered to the wait list. -/
def Ctl.freePoolSlab (c : Ctl) (x : SlabNo) : Ctl := (c.modSlab x fun _ => Slab.freeValues).offer x

/-- A source slab goes from FILLED to FREE: its job's slabs released rises, PROGRESS may follow, and the slab is
offered to the wait list (R69, R34). -/
def Ctl.releaseCounted (c : Ctl) (n : CardNo) (x : SlabNo) : Ctl :=
  let c := c.modSlab x fun _ => Slab.freeValues
  let c := c.modJob n fun j => { j with released := (j.released + 1) % 2 ^ 32 }
  (c.notifyProgress n).offer x

/-- The release condition of a FILLED source slab (R69). -/
def Slab.releasable (s : Slab) : Bool :=
  s.purpose == .source && s.state == .filled && s.pendingWrites == noDrives && s.inFlight == noDrives && s.digested

/-- Test slab x for release (R69). -/
def Ctl.testRelease (c : Ctl) (x : SlabNo) : Ctl :=
  let s := c.slab x
  match s.job with
  | some n => if s.releasable then c.releaseCounted n x else c
  | none => c

/-- Test each slab in turn (R78, R79). -/
def Ctl.testReleases (c : Ctl) (xs : List SlabNo) : Ctl := xs.foldl Ctl.testRelease c

/-- Drive port d leaves slab x's writes in flight (R68). -/
def Ctl.leaveInFlight (c : Ctl) (d : DriveNo) (x : SlabNo) : Ctl :=
  c.modSlab x fun s => { s with inFlight := s.inFlight.set d false }

/-- d leaves slab x's pending-write set. -/
def Ctl.leavePending (c : Ctl) (d : DriveNo) (x : SlabNo) : Ctl :=
  c.modSlab x fun s => { s with pendingWrites := s.pendingWrites.set d false }

/-- d leaves the pending-write set of each slab of a list, and each is tested for release (R78). -/
def Ctl.purgeDest (c : Ctl) (d : DriveNo) (xs : List SlabNo) : Ctl :=
  (xs.foldl (fun c x => c.leavePending d x) c).testReleases xs

/-! ## The digest FIFO -/

/-- Join the digest FIFO at its tail (R88). -/
def Ctl.fifoPush (c : Ctl) (x : SlabNo) : Ctl := c.modDigest fun u => { u with fifo := u.fifo ++ [x] }

/-- Leave the digest FIFO from any place (R88). -/
def Ctl.fifoRemove (c : Ctl) (x : SlabNo) : Ctl := c.modDigest fun u => { u with fifo := u.fifo.filter (· != x) }

/-- Set the discard mark if slab x is under computation (R90). -/
def Ctl.markDiscard (c : Ctl) (x : SlabNo) : Ctl :=
  if c.digest.busy = some x then c.modDigest fun u => { u with discard := true } else c

/-- Withdraw source slab x: out of the FIFO with its digested field at yes if it waits there, marked for discard if it
is under computation (R79, R90). -/
def Ctl.withdrawDigest (c : Ctl) (x : SlabNo) : Ctl :=
  if x ∈ c.digest.fifo then (c.fifoRemove x).modSlab x fun s => { s with digested := true }
  else c.markDiscard x

/-- The verify slab of drive port d goes to FREE; it is not part of the pool (R71). -/
def Ctl.freeVerifySlab (c : Ctl) (d : DriveNo) : Ctl := c.modSlab (verifySlab d) fun _ => Slab.freeValues

end Sys2Proof.Machine
end

