-- ==== Sys2Proof/Machine/Drives.lean ====
section
/-! DEFINITION. The work of a drive port (07) and its verify side (5.1): write queue, writing entry, stage, choice,
verify context, and the withdrawal of work. -/

namespace Sys2Proof.Machine

/-! ## Availability -/

/-- The writing of slab x on d goes on (R142): its job is not STOPPING, d is LIVE in it, and the file's result on d is
PENDING. -/
def Ctl.writeLive (c : Ctl) (d : DriveNo) (x : SlabNo) : Bool :=
  match (c.slab x).job, (c.slab x).file with
  | some n, some r => (c.job n).state != .stopping && (c.job n).isLive d && c.resultOn r d == some .pending
  | _, _ => false

/-- An entry is eligible when its job allows writes (R140). -/
def Ctl.eligible (c : Ctl) (x : SlabNo) : Bool := (c.slab x).job.any fun n => (c.job n).allowsWork

/-- The oldest eligible write entry of d (R140). -/
def Ctl.oldestEligible (c : Ctl) (d : DriveNo) : Option SlabNo := (c.drive d).writeQueue.find? fun x => c.eligible x

/-- Blocks of the transaction in flight on d, if it is a WRITE. -/
def Ctl.writeCount (c : Ctl) (d : DriveNo) : Nat :=
  match (c.drive d).link.flight with
  | some f => if f.kind = .write then f.count else 0
  | none => 0

/-- The next transaction of d's writing entry that is not in flight, if the entry goes on and has blocks left (R143). -/
def Ctl.nextOfWriting (c : Ctl) (d : DriveNo) : Option (SlabNo × Nat) :=
  match (c.drive d).writing with
  | none => none
  | some w =>
    let s := c.slab w.slab
    let next := w.next + c.writeCount d
    if c.writeLive d w.slab && decide (next < endBlock s.offset s.len) then some (w.slab, next) else none

/-- Start block and count of a WRITE of slab x from file block `next` (R141). -/
def Ctl.writeTxn (c : Ctl) (d : DriveNo) (x : SlabNo) (next : Nat) : Option (Nat × Nat) :=
  let s := c.slab x
  ((s.file.bind c.file?).bind (·.dest? d)).bind fun e => txnAt e.extents next (endBlock s.offset s.len)

/-- The verify context's file. -/
def Ctl.contextFile (c : Ctl) (d : DriveNo) : Option FileRec := (c.drive d).context.bind fun k => c.file? k.file

/-- A verify read is ready (R144): a read-back span is ready (R99), or the span in hand has blocks left and no READ of
it is current. -/
def Ctl.verifyReady (c : Ctl) (d : DriveNo) : Bool :=
  let p := c.drive d
  match p.context, c.contextFile d with
  | some k, some f =>
    p.state == .ready &&
      (match k.span with
       | none => decide (k.nextOffset < f.len) && (c.slab (verifySlab d)).state == .free
       | some sp => decide (k.nextBlock < endBlock sp.offset sp.len) && !p.link.carries .read)
  | _, _ => false

/-! ## Issue -/

/-- Make the WRITE of slab x from file block `block` current and issue it. The first of an entry makes it the writing
entry, and d joins the slab's writes in flight (R141, R68). -/
def Ctl.startWrite (c : Ctl) (d : DriveNo) (x : SlabNo) (block : Nat) (first : Bool) : Ctl :=
  match c.writeTxn d x block with
  | none => c
  | some (start, count) =>
    let c :=
      if first then
        (c.modDrive d fun p => { p with writing := some { slab := x, next := block } }).modSlab x fun s =>
          { s with inFlight := s.inFlight.set d true }
      else c
    (c.modDrive d fun p => { p with failed := 0 }).driveIssue d .write start count

/-- Take the span that starts at the context's next byte offset in hand: the verify slab goes to FILLING (R99, R71). -/
def Ctl.takeSpan (c : Ctl) (d : DriveNo) : Ctl :=
  match (c.drive d).context, c.contextFile d with
  | some k, some f =>
    match k.span with
    | some _ => c
    | none =>
      let sp : Span := { offset := k.nextOffset, len := spanLen f.len k.nextOffset }
      let c := c.modDrive d fun p =>
        { p with context := some { k with span := some sp, nextBlock := firstBlock sp.offset } }
      c.modSlab (verifySlab d) fun _ =>
        { Slab.freeValues with
          state := .filling, purpose := .verify, port := some (.drive d), file := some k.file, offset := sp.offset,
          len := sp.len }
  | _, _ => c

/-- Issue the read-back READ at the context's next block (R99). -/
def Ctl.issueReadBack (c : Ctl) (d : DriveNo) : Ctl :=
  match (c.drive d).context, c.contextFile d with
  | some k, some f =>
    match k.span, f.dest? d with
    | some sp, some e =>
      match txnAt e.extents k.nextBlock (endBlock sp.offset sp.len) with
      | some (start, count) =>
        (c.modDrive d fun p => { p with failed := 0, readAbandoned := false }).driveIssue d .read start count
      | none => c
    | _, _ => c
  | _, _ => c

/-! ## The choice, the stage, the context -/

/-- An IDLE context of a READY port takes the oldest verify entry whose job allows verifies (R98). -/
def Ctl.takeVerify (c : Ctl) (d : DriveNo) : Ctl :=
  let p := c.drive d
  if p.state = .ready ∧ p.context = none then
    match p.verifyQueue.find? (fun r => (c.job r.job).allowsWork) with
    | none => c
    | some r =>
      c.modDrive d fun p =>
        { p with
          verifyQueue := p.verifyQueue.erase r
          context := some { file := r, nextOffset := 0, span := none, nextBlock := 0, acc := { a := 0, b := 0, words := 0 } } }
  else c

/-- With no transaction current: the staged WRITE becomes current; with an empty stage, the choice of R144: a ready
verify read, the writing entry's next transaction, the oldest eligible entry's first. -/
def Ctl.choose (c : Ctl) (d : DriveNo) : Ctl :=
  let p := c.drive d
  if p.state = .ready ∧ p.link.isIdle then
    match p.staged with
    | some g => (c.modDrive d fun p => { p with staged := none }).startWrite d g.slab g.block g.first
    | none =>
      if c.verifyReady d then (c.takeSpan d).issueReadBack d
      else
        match c.nextOfWriting d with
        | some (x, b) => c.startWrite d x b false
        | none =>
          match c.oldestEligible d with
          | some x =>
            (c.modDrive d fun p => { p with writeQueue := p.writeQueue.erase x }).startWrite d x
              (firstBlock (c.slab x).offset) true
          | none => c
  else c

/-- Fill the stage (R143): port READY, a transaction current, the stage empty, no verify read ready, a WRITE
available. -/
def Ctl.fillStage (c : Ctl) (d : DriveNo) : Ctl :=
  let p := c.drive d
  if p.state = .ready ∧ p.link.flight.isSome ∧ p.staged = none ∧ c.verifyReady d = false then
    match c.nextOfWriting d with
    | some (x, b) => c.modDrive d fun p => { p with staged := some { slab := x, block := b, first := false } }
    | none =>
      match c.oldestEligible d with
      | some x =>
        c.modDrive d fun p =>
          { p with
            writeQueue := p.writeQueue.erase x
            staged := some { slab := x, block := firstBlock (c.slab x).offset, first := true } }
      | none => c
  else c

/-- Let drive port d take what has become available: the context, the choice, the stage (R98, R143, R144). -/
def Ctl.pump (c : Ctl) (d : DriveNo) : Ctl := ((c.takeVerify d).choose d).fillStage d

/-- Every drive port. -/
def Ctl.pumpAll (c : Ctl) : Ctl := eachDrive Ctl.pump c

/-! ## Withdrawal -/

/-- What the abandonment of a context does to its verify slab (R71, R102): FILLING, it is freed when the READ in flight
ends, or at once when none is; waiting in the digest FIFO, it is withdrawn and freed; under computation, the fold is
discarded and it is freed at the computation's end. -/
def Ctl.releaseVerifySlab (c : Ctl) (d : DriveNo) : Ctl :=
  let x := verifySlab d
  match (c.slab x).state with
  | .free => c
  | .filling =>
    if (c.drive d).link.carries .read then c.modDrive d fun p => { p with readAbandoned := true }
    else c.freeVerifySlab d
  | .filled => if x ∈ c.digest.fifo then (c.fifoRemove x).freeVerifySlab d else c.markDiscard x

/-- Abandon d's context, if it is ACTIVE: it becomes IDLE at once (R102). -/
def Ctl.abandonContext (c : Ctl) (d : DriveNo) : Ctl :=
  if (c.drive d).context.isSome then (c.releaseVerifySlab d).modDrive d fun p => { p with context := none } else c

/-- The writing entry becomes none, a staged next transaction of it goes (R146), and d leaves the slab's writes in
flight (R68). -/
def Ctl.leaveWriting (c : Ctl) (d : DriveNo) : Ctl :=
  match (c.drive d).writing with
  | none => c
  | some w =>
    (c.modDrive d fun p => { p with writing := none, staged := p.staged.filter (·.first) }).leaveInFlight d w.slab

/-- The writing of d ends (R68, R142): d leaves the slab's writes in flight, and also its pending-write set where the
case says so. -/
def Ctl.closeWriting (c : Ctl) (d : DriveNo) (fromPending : Bool) : Ctl :=
  match (c.drive d).writing with
  | none => c
  | some w => if fromPending then (c.leaveWriting d).leavePending d w.slab else c.leaveWriting d

/-- The writing of d ends, and the slab is tested for release (R69). -/
def Ctl.endWriting (c : Ctl) (d : DriveNo) (fromPending : Bool) : Ctl :=
  match (c.drive d).writing with
  | none => c
  | some w => (c.closeWriting d fromPending).testRelease w.slab

/-- Withdraw from d the work on the slabs and files that satisfy the predicates (R152, R146): its queue entries, a
staged WRITE, the verify context, and a writing that has no WRITE in flight (DEDUCED, log 17). A WRITE in flight runs to
its end (R165). The slabs are tested for release by the caller, once every port has withdrawn: the withdrawals of one event
are made together (R152, R78, R79). -/
def Ctl.withdraw (c : Ctl) (d : DriveNo) (ofSlab : Slab → Bool) (ofFile : FileRef → Bool) (fromPending : Bool) : Ctl :=
  let hits := fun x => ofSlab (c.slab x)
  let c := c.modDrive d fun p =>
    { p with
      writeQueue := p.writeQueue.filter fun x => !hits x
      verifyQueue := p.verifyQueue.filter fun r => !ofFile r
      staged := p.staged.filter fun g => !hits g.slab }
  let c := if (c.drive d).context.any (fun k => ofFile k.file) then c.abandonContext d else c
  if (c.drive d).writing.any (fun w => hits w.slab) && !(c.drive d).link.carries .write then c.closeWriting d fromPending
  else c

/-- Withdraw a job's work from d (R25, R152). -/
def Ctl.withdrawJob (c : Ctl) (d : DriveNo) (n : CardNo) : Ctl :=
  c.withdraw d (fun s => s.job == some n) (fun r => r.job == n) false

/-- Withdraw a file's work from d (R47, R152). -/
def Ctl.withdrawFile (c : Ctl) (d : DriveNo) (r : FileRef) : Ctl :=
  c.withdraw d (fun s => s.file == some r) (fun q => q == r) true

/-- Age of a FILLED slab: the counter less its fill sequence, modulo 2^32 (R64). -/
def Ctl.age (c : Ctl) (x : SlabNo) : Nat := (c.fillSeq + 2 ^ 32 - (c.slab x).fillSeq) % 2 ^ 32

/-- Put an entry at its place in fill order: ahead of every entry filled later (R146, R64). -/
def Ctl.insertByAge (c : Ctl) (x : SlabNo) : List SlabNo → List SlabNo
  | [] => [x]
  | y :: rest => if c.age y < c.age x then x :: y :: rest else y :: c.insertByAge x rest

/-- Slabs from the greatest age to the least (R64, R151). -/
def Ctl.sortByAge (c : Ctl) : List SlabNo → List SlabNo
  | [] => []
  | x :: rest => c.insertByAge x (c.sortByAge rest)

/-- A PROMPT suspend of job n at d (R20, R146): a staged first transaction goes back to the write queue at its place,
and a context on one of the job's files is abandoned, its file going to the head of the verify queue. -/
def Ctl.promptDrive (n : CardNo) (c : Ctl) (d : DriveNo) : Ctl :=
  let c :=
    match (c.drive d).staged with
    | some g =>
      if g.first && (c.slab g.slab).job == some n then
        c.modDrive d fun p => { p with staged := none, writeQueue := c.insertByAge g.slab p.writeQueue }
      else c
    | none => c
  match (c.drive d).context with
  | some k =>
    if k.file.job = n then
      (c.abandonContext d).modDrive d fun p => { p with verifyQueue := k.file :: p.verifyQueue }
    else c
  | none => c

/-- Drop all work of d as its drive goes (R149 steps 2 to 5, R136): the stage, the writing (d stays pending), the write
queue, the verify context and the verify queue. No transaction is in flight any more. -/
def Ctl.dropWork (c : Ctl) (d : DriveNo) : Ctl :=
  let c := (c.modDrive d fun p => { p with staged := none }).endWriting d false
  let c := (c.modDrive d fun p => { p with writeQueue := [] })
  let c := if (c.drive d).readAbandoned then c.freeVerifySlab d else c.abandonContext d
  c.modDrive d fun p => { p with context := none, readAbandoned := false, verifyQueue := [], failed := 0 }

end Sys2Proof.Machine
end

