-- ==== Sys2Proof/Machine/Files.lean ====
section
/-! DEFINITION. The file table (02): results, completion, outcomes, retirement, and the choice of the READING file. -/

namespace Sys2Proof.Machine

/-! ## Results -/

/-- A destination result is final (2.6): WRITTEN under verify mode OFF only. -/
def DestResult.isFinal (r : DestResult) (v : VerifyMode) : Bool :=
  match r with
  | .pending => false
  | .written => v == .off
  | _ => true

/-- A good copy: VERIFIED, or WRITTEN under verify mode OFF (R54). -/
def DestResult.isGoodCopy (r : DestResult) (v : VerifyMode) : Bool :=
  r == .verified || (r == .written && v == .off)

/-- Good copies of a file. -/
def FileRec.goodCopies (f : FileRec) (v : VerifyMode) : Nat := f.dests.countP fun e => e.result.isGoodCopy v

/-- The file is COMPLETE. -/
def FileRec.isComplete (f : FileRec) : Bool :=
  match f.state with
  | .complete _ => true
  | _ => false

/-- Every result of the file is final (R53). -/
def FileRec.allFinal (f : FileRec) (v : VerifyMode) : Bool :=
  f.result != .pending && f.dests.all fun e => e.result.isFinal v

/-- The outcome computed from the results (R54). -/
def FileRec.outcome (f : FileRec) (j : Job) : FileOutcome :=
  if f.result = .good then (if j.clearance ≤ f.goodCopies j.verify then .good else .short) else .sourceFailed

/-- Give every destination result that is not final the value r (R47, R51). -/
def FileRec.closeResults (f : FileRec) (v : VerifyMode) (only : DriveNo → Bool) (r : DestResult) : FileRec :=
  { f with dests := f.dests.map fun e => if only e.port && !e.result.isFinal v then { e with result := r } else e }

/-- Compare the digests of every destination that is WRITTEN with a stored verify digest, once the source is GOOD
(R104). -/
def FileRec.compare (f : FileRec) : FileRec :=
  if f.result = .good then
    { f with dests := f.dests.map fun e =>
        if e.result = .written ∧ e.stored then
          { e with result := if f.acc.a = e.verA ∧ f.acc.b = e.verB then .verified else .mismatch }
        else e }
  else f

/-! ## FILE_DONE and retirement -/

/-- One destination entry of FILE_DONE (R58, R191). -/
def FileDest.doneBytes (e : FileDest) (v : VerifyMode) : List Byte :=
  let shown := if e.result.isFinal v then e.result else .skipped
  [BitVec.ofNat 8 e.port.val, shown.code]
    ++ (if shown = .mismatch then leBytes 2 e.verA ++ leBytes 2 e.verB else leBytes 2 0 ++ leBytes 2 0)

/-- FILE_DONE's contents, taken from the record at retirement (R58, R191). -/
def FileRec.donePayload (f : FileRec) (o : FileOutcome) (v : VerifyMode) : List Byte :=
  let good := f.result == .good
  [BitVec.ofNat 8 f.ref.job.val] ++ leBytes 4 f.id ++ leBytes 5 f.len ++ [o.code]
    ++ leBytes 2 (if good then f.acc.a else 0) ++ leBytes 2 (if good then f.acc.b else 0)
    ++ [BitVec.ofNat 8 (if good then f.goodCopies v else 0), BitVec.ofNat 8 f.dests.length]
    ++ (f.dests.map fun e => e.doneBytes v).flatten

/-- Slab x is a FILLED source slab of file r, held by r's job. -/
def Ctl.holdsFile (c : Ctl) (r : FileRef) (x : SlabNo) : Bool :=
  (c.slab x).isFilledOfFile r && (c.slab x).job == some r.job

/-- A write entry of a file that retires has no result left to write, and ends as R142 ends a writing whose result is
final: d leaves the slab's pending-write set (DEDUCED, log 18). A stage that is emptied so is filled again (R146). -/
def Ctl.endEntries (r : FileRef) (c : Ctl) (d : DriveNo) : Ctl :=
  let p := c.drive d
  let staged := fun (g : Staged) => g.first && c.holdsFile r g.slab
  let xs := p.writeQueue.filter (c.holdsFile r) ++ (p.staged.filter staged).toList.map (·.slab)
  if xs = [] then c
  else
    ((c.modDrive d fun p =>
      { p with
        writeQueue := p.writeQueue.filter fun x => !c.holdsFile r x
        staged := p.staged.filter fun g => !staged g }).purgeDest d xs).pump d

/-- Retire a COMPLETE head file (R56): it leaves the queue and the table, its FILE_DONE is queued, files retired rises,
the FILE_DONE turn moves (R57), an outcome other than GOOD spoils the clean mark (R106), and what write entries it still
has end. -/
def Ctl.retire (c : Ctl) (f : FileRec) (o : FileOutcome) : Ctl :=
  let n := f.ref.job
  let payload := f.donePayload o (c.job n).verify
  let c := { c with files := c.files.filter (fun g => g.ref != f.ref), fileDoneTurn := n }
  let c := c.pushEntry { kind := .notice (.fileDone n), tag := 0, payload := payload }
  let c := c.modJob n fun j => { j with retired := (j.retired + 1) % 2 ^ 32, clean := j.clean && o == .good }
  eachDrive (Ctl.endEntries f.ref) c

/-- Retire from the head of job n's queue while the head is COMPLETE and the output queue has room for FILE_DONE; a
COMPLETE head without room makes the job wait (R56, R57). -/
def Ctl.retireRun : Nat → Ctl → CardNo → Ctl
  | 0, c, _ => c
  | fuel + 1, c, n =>
    match (c.queue n).head? with
    | none => c.setFileDoneWaiting n false
    | some f =>
      match f.state with
      | .complete o =>
        if c.fileDoneCount < Config.fileDoneLimit then retireRun fuel (c.retire f o) n
        else c.setFileDoneWaiting n true
      | _ => c.setFileDoneWaiting n false

/-- Test job n's head for retirement (R56). One more than the table's records bounds the run. -/
def Ctl.testRetire (c : Ctl) (n : CardNo) : Ctl := c.retireRun (c.files.length + 1) n

/-- Test a file for completion; a COMPLETE file's outcome is fixed and retirement is tested (R53). -/
def Ctl.testComplete (c : Ctl) (r : FileRef) : Ctl :=
  match c.file? r with
  | none => c
  | some f =>
    let j := c.job r.job
    if !f.isComplete && f.allFinal j.verify then
      (c.modFile r fun g => { g with state := .complete (f.outcome j) }).testRetire r.job
    else c

/-- Test files in the order of a list. -/
def Ctl.testCompletes (c : Ctl) (rs : List FileRef) : Ctl := rs.foldl Ctl.testComplete c

/-- The room a sent FILE_DONE frees is granted to the waiting job that comes next after the turn (R57). -/
def Ctl.grantRoom (c : Ctl) : Option CardNo :=
  (List.finRange 8).map (fun i => c.fileDoneTurn + 1 + i) |>.find? fun n => c.fileDoneWaiting[n]

/-! ## The source result and the READING file -/

/-- A source result of GOOD: the failure count returns to 0, stored verify digests are compared, and the file is
tested for completion once (R48, R28, R104). -/
def Ctl.sourceGood (c : Ctl) (r : FileRef) : Ctl :=
  let c := c.modFile r fun f => FileRec.compare { f with result := .good }
  (c.modJob r.job fun j => { j with failures := 0 }).testComplete r

/-- A zero-length file's results when it becomes READING (R59): GOOD source, and each PENDING destination WRITTEN and,
under READBACK, VERIFIED with digest 0, 0 stored. -/
def FileRec.zeroPass (f : FileRec) (v : VerifyMode) : FileRec :=
  { f with
    state := .draining, result := .good
    dests := f.dests.map fun e =>
      if e.result = .pending then
        (if v = .readback then { e with result := .verified, verA := 0, verB := 0, stored := true }
         else { e with result := .written })
      else e }

/-- The states in which a file may become READING (R42). -/
def Job.mayPromote (j : Job) : Bool :=
  match j.state with
  | .running | .held | .suspending | .suspended | .faulted => true
  | _ => false

/-- Make the oldest QUEUED file READING when the job's state allows it and no file is READING; a zero-length file
passes on at once and the next is taken (R42, R59). -/
def Ctl.promoteRun : Nat → Ctl → CardNo → Ctl
  | 0, c, _ => c
  | fuel + 1, c, n =>
    if (c.job n).mayPromote && (c.readingFile n).isNone then
      match (c.queue n).find? (fun f => f.state == .queued) with
      | none => c
      | some f =>
        if f.len = 0 then
          let c := c.modFile f.ref fun g => g.zeroPass (c.job n).verify
          promoteRun fuel ((c.modJob n fun j => { j with failures := 0 }).testComplete f.ref) n
        else c.modFile f.ref fun g => { g with state := .reading }
    else c

/-- The test of R42 for job n. -/
def Ctl.promote (c : Ctl) (n : CardNo) : Ctl := c.promoteRun (c.files.length + 1) n

end Sys2Proof.Machine
end

