-- ==== Sys2Proof/Machine/JobUnit.lean ====
section
/-! DEFINITION. The job unit (01): the end of a job, drains, stops, hold causes, drops, faults, and the source failure of
a file (R45 to R47), which reaches every block. -/

namespace Sys2Proof.Machine

/-! ## What a job has under way -/

/-- The verify slab of d holds data of job n. -/
def Ctl.verifySlabOf (c : Ctl) (d : DriveNo) (n : CardNo) : Bool :=
  (c.slab (verifySlab d)).file.any (c.isFileOf n)

/-- d has a writing entry of job n. -/
def Ctl.writingOf (c : Ctl) (d : DriveNo) (n : CardNo) : Bool :=
  (c.drive d).writing.any fun w => (c.slab w.slab).job == some n

/-- A transaction of job n is in flight on d: a WRITE of its writing entry, or a read-back of one of its files. -/
def Ctl.driveBusyFor (c : Ctl) (d : DriveNo) (n : CardNo) : Bool :=
  let l := (c.drive d).link
  (l.carries .write && c.writingOf d n) || (l.carries .read && c.verifySlabOf d n)

/-- A transaction of job n is in flight on any port (R20, R26). -/
def Ctl.txnOf (c : Ctl) (n : CardNo) : Bool :=
  (c.card n).reader.isSome || (List.finRange 4).any fun d => c.driveBusyFor d n

/-- A digest computation on job n's data is in progress (R26, R93). -/
def Ctl.digestOf (c : Ctl) (n : CardNo) : Bool :=
  c.digest.busy.any fun x =>
    let s := c.slab x
    s.job == some n || (s.purpose == .verify && s.file.any (c.isFileOf n))

/-- The PROMPT drain is done (R20). -/
def Ctl.promptDrained (c : Ctl) (n : CardNo) : Bool :=
  !c.txnOf n && (List.finRange 4).all fun d => !c.writingOf d n

/-- The FINISH drain is done (R21). -/
def Ctl.finishDrained (c : Ctl) (n : CardNo) : Bool :=
  c.sourceCount n == 0 && (List.finRange 4).all fun d =>
    let p := c.drive d
    p.writeQueue.all (fun x => (c.slab x).job != some n) && p.verifyQueue.all (fun r => r.job != n)
      && !p.context.any fun k => k.file.job == n

/-- The job's drain is done, by its suspend mode. -/
def Ctl.suspendDrained (c : Ctl) (n : CardNo) : Bool :=
  if (c.job n).suspend = .finish then c.finishDrained n else c.promptDrained n

/-- A STOPPING job is drained (R26). -/
def Ctl.stopDrained (c : Ctl) (n : CardNo) : Bool := !c.txnOf n && !c.digestOf n

/-- The end condition (R8). -/
def Ctl.endCondition (c : Ctl) (n : CardNo) : Bool :=
  let j := c.job n
  (j.state == .running || j.state == .held) && j.closed && (c.queue n).isEmpty && c.sourceCount n == 0

/-! ## The end of a job -/

/-- The job enters ENDED with an end reason: its hold set is emptied, clearance is evaluated, and JOB_STATE is queued
(R8, R9, R26, R107). -/
def Ctl.endJob (c : Ctl) (n : CardNo) (reason : EndReason) : Ctl :=
  let c := c.modJob n fun j =>
    { j with state := .ended, endReason := reason, holds := HoldSet.empty, suspend := .none, faultCause := .none }
  (((c.dropWaitUnlessRunning n).evaluateClearance n).lampUpdate n).notifyJob n

/-- Free one source slab at the drain of a stop: counted if it was FILLED (R77). -/
def Ctl.drainSlab (n : CardNo) (c : Ctl) (x : SlabNo) : Ctl :=
  if (c.slab x).state = .filled then c.releaseCounted n x else c.freePoolSlab x

/-- Abandon every file of job n that is not COMPLETE (R26, R55). -/
def Ctl.abandonFiles (c : Ctl) (n : CardNo) : Ctl :=
  { c with files := c.files.map fun f =>
      if f.ref.job = n ∧ f.isComplete = false then { f with state := .complete .abandoned } else f }

/-- The drain of a STOPPING job: its slabs are freed in ascending number, its unfinished files abandoned, its files
retire as room allows, and with the last the job enters ENDED (R26, R77). -/
def Ctl.drainStop (c : Ctl) (n : CardNo) : Ctl :=
  let c := (c.slabsWhere fun s => s.isSourceOf n).foldl (Ctl.drainSlab n) c
  let c := (c.abandonFiles n).testRetire n
  if (c.queue n).isEmpty then c.endJob n (c.job n).endReason else c

/-- What job n's state lets follow from a change: the end (R8), SUSPENDED (R20, R21), the drain of a stop (R26), or the
reader's next slab request (R72). -/
def Ctl.settle (c : Ctl) (n : CardNo) : Ctl :=
  let c := c.dropStaleWait n
  match (c.job n).state with
  | .running => if c.endCondition n then c.endJob n .complete else c.raiseSource n
  | .held => if c.endCondition n then c.endJob n .complete else c
  | .suspending => if c.suspendDrained n then c.updJob n fun j => { j with state := .suspended } else c
  | .stopping => if c.stopDrained n then c.drainStop n else c
  | _ => c

/-! ## Stops -/

/-- Enter STOPPING with an end reason, and withdraw the job's work (R24, R25, R27, R79). -/
def Ctl.enterStopping (c : Ctl) (n : CardNo) (reason : EndReason) : Ctl :=
  let c := c.updJob n fun j =>
    { j with state := .stopping, endReason := reason, suspend := .none, faultCause := .none }
  let c := eachDrive (fun c d => c.withdrawJob d n) c
  let xs := c.slabsWhere fun s => s.isFilledOf n
  ((xs.foldl Ctl.withdrawDigest c).testReleases xs).pumpAll

/-! ## Hold causes and faults -/

/-- A RUNNING job to which a cause is added enters HELD (R10). -/
def Job.holdIfRunning (j : Job) : Job := if j.state = .running then { j with state := .held } else j

/-- A HELD job whose hold set has become empty returns to RUNNING, and the cause is its last release cause (R10, R16). -/
def Job.releaseIfEmpty (j : Job) (cause : ReleaseCause) : Job :=
  if j.state = .held ∧ j.holds.isEmpty then { j with state := .running, lastRelease := cause } else j

def HoldSet.setCard (h : HoldSet) (m : Option Mark) : HoldSet := { h with cardGone := m }

def HoldSet.setDest (h : HoldSet) (d : DriveNo) (m : Option Mark) : HoldSet :=
  { h with destGone := h.destGone.set d m }

/-- The job faults (R28, R29): FAULTED with its cause, suspend mode NONE, and under CARD_REPLACED CARD_GONE pending. Entries
that were passed over may be taken. The QUEUED files of a job that leaves OPEN so, zero-length ones among them, wait for
JOB_CLEAR, which is the next moment in R42's list of tests; R42's "whenever" and R59's "as soon as the job leaves OPEN" could
be read as at once (DESIGN CHOICE, log 39). -/
def Ctl.fault (c : Ctl) (n : CardNo) (cause : FaultCause) : Ctl :=
  (c.updJob n fun j =>
    { j with
      state := .faulted, faultCause := cause, suspend := .none
      holds := if cause = .cardReplaced then j.holds.setCard (some .pending) else j.holds }).pumpAll

/-- The card of job n has gone (R11). -/
def Ctl.cardGone (c : Ctl) (n : CardNo) : Ctl :=
  if (c.job n).isActive then
    c.updJob n fun j => ({ j with holds := j.holds.setCard (some .pending) }).holdIfRunning
  else c

/-- A card has become READY in the port of job n (R12): with CARD_GONE held, a matching serial removes the cause under
AUTO and marks it ready under HOST; another serial faults the job, unless it is STOPPING (R29). -/
def Ctl.cardReturned (c : Ctl) (n : CardNo) : Ctl :=
  let j := c.job n
  if j.isActive && j.holds.cardGone.isSome then
    if (c.card n).serial = j.serial then
      match j.cardRelease with
      | .auto => c.updJob n fun j => ({ j with holds := j.holds.setCard none }).releaseIfEmpty .cardGone
      | .host => c.updJob n fun j => { j with holds := j.holds.setCard (some .ready) }
    else if j.state = .stopping then c
    else c.fault n .cardReplaced
  else c

/-- d is dropped from job n (R13, R18, R51): membership DROPPED, DEST_GONE(d) removed, the port's work withdrawn, the
job's slabs purged of d, results on d that are not final DROPPED in files not COMPLETE (R53), files tested for completion;
with no LIVE destination left the job stops for want of destinations (R27). That it stops so, and does not end COMPLETE,
where this very drop completes and retires the last file of a closed job that holds no slab (R8), is a DESIGN CHOICE
(log 38). -/
def Ctl.dropDest (c : Ctl) (n : CardNo) (d : DriveNo) : Ctl :=
  let c := c.updJob n fun j =>
    let j' := { j with dests := j.dests.map fun e => if e.port = d then { e with live := false } else e }
    if j.holds.destGone[d].isSome then
      ({ j' with holds := j.holds.setDest d none }).releaseIfEmpty (.destGone d)
    else j'
  let c := c.withdrawJob d n
  let c := c.purgeDest d (c.slabsWhere fun s => s.isFilledOf n)
  let v := (c.job n).verify
  let c : Ctl :=
    { c with files := c.files.map fun f =>
        if f.ref.job = n ∧ f.isComplete = false then f.closeResults v (· == d) .dropped else f }
  let c := c.testCompletes ((c.queue n).map (·.ref))
  let c :=
    if !(c.job n).dests.any (·.live) && (c.job n).state != .stopping then c.enterStopping n .noDestination else c
  c.pump d

/-- d has gone for a job that holds (R14, R103): DEST_GONE(d) pending, and the stored verify digests of its files
WRITTEN on d are cleared. -/
def Ctl.holdDest (c : Ctl) (n : CardNo) (d : DriveNo) : Ctl :=
  let c := c.updJob n fun j => ({ j with holds := j.holds.setDest d (some .pending) }).holdIfRunning
  { c with files := c.files.map fun f =>
      if f.ref.job = n then
        f.modDest d fun e => if e.result = .written then { e with verA := 0, verB := 0, stored := false } else e
      else f }

/-- The job unit's act for one job when drive port d reports its drive lost or absent (R13, R14). -/
def Ctl.driveGoneFor (d : DriveNo) (c : Ctl) (n : CardNo) : Ctl :=
  let j := c.job n
  if j.isActive && j.isLive d then
    match j.driveAction with
    | .drop => c.dropDest n d
    | .hold => c.holdDest n d
  else c

/-- The drive of d is lost or absent: each job that holds d LIVE, in number order (R13, R14, R103). -/
def Ctl.driveGone (c : Ctl) (d : DriveNo) : Ctl := eachJob Ctl.settle (eachJob (Ctl.driveGoneFor d) c)

/-- The job holds DEST_GONE(d) and the drive now in d has the serial recorded for d (R15). -/
def Ctl.driveMatches (c : Ctl) (d : DriveNo) (n : CardNo) : Bool :=
  let j := c.job n
  j.isActive && j.holds.destGone[d].isSome && (j.dest? d).any fun e => e.serial == (c.drive d).serial

/-- The job unit's act for one job when d becomes READY: the cause is removed under AUTO, marked ready under HOST (R15). -/
def Ctl.driveReturnedFor (d : DriveNo) (c : Ctl) (n : CardNo) : Ctl :=
  if c.driveMatches d n then
    match (c.job n).driveRelease with
    | .auto => c.updJob n fun j => ({ j with holds := j.holds.setDest d none }).releaseIfEmpty (.destGone d)
    | .host => c.updJob n fun j => { j with holds := j.holds.setDest d (some .ready) }
  else c

/-! ## Source failure -/

/-- Count a source failure; the third faults a job that is RUNNING, HELD or SUSPENDING (R28). -/
def Ctl.countFailure (c : Ctl) (n : CardNo) : Ctl :=
  let c := c.modJob n fun j => { j with failures := min 3 (j.failures + 1) }
  let j := c.job n
  if j.failures = 3 ∧ (j.state = .running ∨ j.state = .held ∨ j.state = .suspending) then c.fault n .cardUnreadable
  else c

/-- The subset of a slab's pending destinations whose WRITE of it is in flight (R47). -/
def Slab.keepInFlight (s : Slab) : Slab :=
  { s with pendingWrites := Vector.zipWith (fun p w => p && w) s.pendingWrites s.inFlight }

/-- The source of file r fails, FAILED or UNREADABLE (R45, R46, R47). A READING file becomes DRAINING, a FAILED source
is counted (R28), and the next QUEUED file becomes READING; then the file's work is withdrawn, its unfinished results
become SKIPPED, and it is tested for completion (order: log 15). -/
def Ctl.sourceFail (c : Ctl) (r : FileRef) (res : SourceResult) : Ctl :=
  if (c.file? r).any (fun f => f.result == .pending) then
    let c := c.modFile r fun f =>
      { f with result := res, state := if f.state = .reading then .draining else f.state }
    let c := if res = .failed then c.countFailure r.job else c
    let c := (c.promote r.job).dropStaleWait r.job
    let xs := c.slabsWhere fun s => s.isFilledOfFile r
    let c := xs.foldl (fun c x => c.modSlab x Slab.keepInFlight) c
    let c := eachDrive (fun c d => c.withdrawFile d r) c
    let c := xs.foldl Ctl.withdrawDigest c
    let c := c.modFile r fun f => f.closeResults (c.job r.job).verify (fun _ => true) .skipped
    ((c.testReleases xs).testComplete r).pumpAll
  else c

end Sys2Proof.Machine
end

