-- ==== Sys2Proof/Machine/Cards.lean ====
section
/-! DEFINITION. Card ports (06) and residue scans (09): the read ladder, the reader, scan chunks and their end,
identification, removal. -/

namespace Sys2Proof.Machine

/-! ## Outcomes of attempts -/

/-- The classes of an outcome (R122, R147). -/
inductive Attempt
  | success | failed | atOnce
  deriving DecidableEq, Repr

/-- Sort a READ's or WRITE's outcome (R122, R147). -/
def TxnOutcome.sort : TxnOutcome → Attempt
  | .good => .success
  | .linkCheck | .notReady | .timeout => .failed
  | .mediaError | .rangeError | .protectedMedium => .atOnce

/-! ## The read ladder (R122) -/

/-- A failed attempt leads to another: below 3 at this grade, or a slower grade is left (R122). -/
def CardPort.ladderGoesOn (p : CardPort) : Bool := decide (p.attemptsAtGrade + 1 < 3) || decide (p.grade < 3)

/-- A failed attempt that leads to another: count it or step the grade, and issue the same READ again (R121, R122). -/
def Ctl.ladderStep (c : Ctl) (n : CardNo) (f : Flight) : Ctl :=
  let p := c.card n
  let c :=
    if p.attemptsAtGrade + 1 < 3 then c.modCard n fun p => { p with attemptsAtGrade := p.attemptsAtGrade + 1 }
    else (c.modCard n fun p => { p with attemptsAtGrade := 0, grade := p.grade + 1 }).notifyPort (.card n)
  c.cardRead n f.start f.count

/-- The attempts at grade after an attempt that leads to no other: 0 after a success or a failure at once, one more
after a failed attempt (R122, log 19). -/
def Ctl.closeAttempts (c : Ctl) (n : CardNo) (a : Attempt) : Ctl :=
  c.modCard n fun p => { p with attemptsAtGrade := if a = .failed then min 3 (p.attemptsAtGrade + 1) else 0 }

/-! ## The reader (6.5) -/

/-- The reader gives its slab back from FILLING, the read offset unchanged, and is idle (R67, R126). -/
def Ctl.dropReader (c : Ctl) (n : CardNo) : Ctl :=
  match (c.card n).reader with
  | none => c
  | some r => (c.modCard n fun p => { p with reader := none }).freePoolSlab r.slab

/-- The reader may go on with the span in slab x (R126). -/
def Ctl.readerMayGoOn (c : Ctl) (n : CardNo) (x : SlabNo) : Bool :=
  (c.job n).allowsWork && ((c.slab x).file.bind c.file?).any fun f => f.state == .reading

/-- The pending-write set of a slab at FILLED: the LIVE destinations on which its file is PENDING (R66). -/
def pendingSet (j : Job) (f : FileRec) : DriveSet :=
  Vector.ofFn fun d => j.isLive d && f.resultOn d == some .pending

/-- Drive port d of the pending-write set places a write entry, unless DEST_GONE(d) is held pending (R66). -/
def Ctl.placeEntry (n : CardNo) (x : SlabNo) (c : Ctl) (d : DriveNo) : Ctl :=
  if (c.slab x).pendingWrites[d] && !((c.job n).holds.destGone[d] == some .pending) then
    c.modDrive d fun p => { p with writeQueue := p.writeQueue ++ [x] }
  else c

/-- A source slab becomes FILLED (R66): stamped, queued for digest, and queued for its writes. -/
def Ctl.fillSlab (c : Ctl) (n : CardNo) (x : SlabNo) (f : FileRec) : Ctl :=
  let c := c.modSlab x fun s =>
    { s with state := .filled, fillSeq := c.fillSeq, pendingWrites := pendingSet (c.job n) f }
  let c := { c with fillSeq := (c.fillSeq + 1) % 2 ^ 32 }
  eachDrive (Ctl.placeEntry n x) (c.fifoPush x)

/-- The span in slab x is read (R127): the slab becomes FILLED, read offset and bytes read advance (R43, R34), the
reader is idle, and a file fully read becomes DRAINING. -/
def Ctl.spanComplete (c : Ctl) (n : CardNo) (x : SlabNo) : Ctl :=
  match (c.slab x).file.bind c.file? with
  | none => c
  | some f =>
    let len := (c.slab x).len
    let c := (c.fillSlab n x f).modCard n fun p => { p with reader := none }
    let done := f.readOffset + len == f.len
    let c := c.modFile f.ref fun g =>
      { g with readOffset := g.readOffset + len, state := if done then .draining else g.state }
    let c := c.modJob n fun j => { j with bytesRead := (j.bytesRead + len) % 2 ^ 64 }
    (if done then (c.testComplete f.ref).promote n else c).pumpAll

/-- The reader's span read fails: the slab is freed, the reader is idle, the file's source is FAILED (R123, R45). -/
def Ctl.readFails (c : Ctl) (n : CardNo) (x : SlabNo) : Ctl :=
  match (c.slab x).file with
  | none => c.dropReader n
  | some r => (c.dropReader n).sourceFail r .failed

/-- A READ of the reader's span in slab x ends (R122, R126). -/
def Ctl.readerEnd (c : Ctl) (n : CardNo) (r : Reader) (f : Flight) (o : TxnOutcome) : Ctl :=
  let s := c.slab r.slab
  let c :=
    if c.readerMayGoOn n r.slab then
      match o.sort with
      | .success =>
        let c := (c.closeAttempts n .success).modCard n fun p =>
          { p with reader := some { r with next := r.next + f.count } }
        if r.next + f.count < endBlock s.offset s.len then c.issueSpanRead n else c.spanComplete n r.slab
      | .failed =>
        if (c.card n).ladderGoesOn then c.ladderStep n f else (c.closeAttempts n .failed).readFails n r.slab
      | .atOnce => (c.closeAttempts n .atOnce).readFails n r.slab
    else (c.closeAttempts n o.sort).dropReader n
  c.settle n

/-! ## Residue scans (09) -/

/-- The next block of the range in scan order not yet examined (R170, R171). -/
def Scan.nextUnexamined (s : Scan) : Nat :=
  match s.direction with
  | .up => s.first + s.examined
  | .down => s.first + s.count - s.examined - 1

/-- Form the next chunk (R167). -/
def Scan.formChunk (s : Scan) : Scan :=
  let size := min 128 (s.count - s.examined)
  let start :=
    match s.direction with
    | .up => s.first + s.examined
    | .down => s.first + s.count - s.examined - size
  { s with phase := .awaitingSlab, chunkStart := start, chunkSize := size }

/-- Form a chunk and raise its slab request (R167, R72). -/
def Ctl.nextChunk (c : Ctl) (n : CardNo) : Ctl :=
  (c.modCard n fun p => { p with scan := p.scan.formChunk }).raise n .scan

/-- The scan ends (R172): FOUND sets the residue flag and clears the cleared flag (R109); SCAN_DONE is queued while
enabled; the record returns to phase NONE with no slab. -/
def Ctl.scanEnd (c : Ctl) (n : CardNo) (o : ScanOutcome) (addr examined : Nat) : Ctl :=
  let p := c.card n
  let c := if o = .found then c.setMarks n false true p.unclean else c
  let c := if c.notices.scanDone then c.pushNotice (.scanDone n) (scanDonePayload n o addr examined) else c
  c.modCard n fun p => { p with scan := { p.scan with phase := .none, slab := none } }

/-- The scan's slab, if it holds one, goes to FREE (R70). -/
def Ctl.dropScanSlab (c : Ctl) (n : CardNo) : Ctl :=
  match (c.card n).scan.slab with
  | none => c
  | some x => (c.modCard n fun p => { p with scan := { p.scan with slab := none } }).freePoolSlab x

/-- The scan ends STOPPED or CARD_GONE, at the next unexamined block (R170, R171). -/
def Ctl.scanBreak (c : Ctl) (n : CardNo) (o : ScanOutcome) : Ctl :=
  let s := (c.card n).scan
  (c.dropScanSlab n).scanEnd n o s.nextUnexamined s.examined

/-- A chunk's READ ends (R168, R170). -/
def Ctl.scanReadEnd (c : Ctl) (n : CardNo) (f : Flight) (o : TxnOutcome) : Ctl :=
  let s := (c.card n).scan
  if s.phase = .ending then (c.closeAttempts n o.sort).scanBreak n .stopped
  else
    match o.sort, s.slab with
    | .success, some x =>
      ((c.closeAttempts n .success).modSlab x fun t => { t with state := .filled }).modCard n fun p =>
        { p with scan := { p.scan with phase := .checking } }
    | .failed, _ =>
      if (c.card n).ladderGoesOn then c.ladderStep n f
      else ((c.closeAttempts n .failed).dropScanSlab n).scanEnd n .readFailed s.chunkStart s.examined
    | a, _ => ((c.closeAttempts n a).dropScanSlab n).scanEnd n .readFailed s.chunkStart s.examined

/-- All `n` bytes from an address have the value v. -/
def allBytes (m : List Host.Cell) (v : Byte) : Nat → Nat → Bool
  | _, 0 => true
  | addr, k + 1 => readByte m addr == v && allBytes m v (addr + 1) k

/-- The block at an address is blank under the pattern (R169). -/
def blockBlank (m : List Host.Cell) (p : BlankPattern) (addr : Nat) : Bool :=
  match p with
  | .zero => allBytes m 0x00 addr 512
  | .ones => allBytes m 0xFF addr 512
  | .either => allBytes m 0x00 addr 512 || allBytes m 0xFF addr 512

/-- Place in the chunk of the i-th block in scan order (R169). -/
def Scan.place (s : Scan) (i : Nat) : Nat :=
  match s.direction with
  | .up => i
  | .down => s.chunkSize - 1 - i

/-- Position in scan order of the chunk's first block that is not blank (R169). -/
def Scan.firstResidue (s : Scan) (m : List Host.Cell) (x : SlabNo) : Option Nat :=
  (List.range s.chunkSize).find? fun i => !blockBlank m s.pattern (slabAddr x (s.place i * 512))

/-- The examination of a chunk ends (R169): at a block that is not blank, with blocks remaining, or with the range
blank. `hit` is the position in scan order of the first block that is not blank. -/
def Ctl.examinationEnd (c : Ctl) (n : CardNo) (hit : Option Nat) : Ctl :=
  let s := (c.card n).scan
  match hit with
  | some i =>
    let examined := s.examined + i + 1
    let c := c.modCard n fun p => { p with scan := { p.scan with examined := examined } }
    (c.dropScanSlab n).scanEnd n .found (s.chunkStart + s.place i) examined
  | none =>
    let examined := s.examined + s.chunkSize
    let c := (c.modCard n fun p => { p with scan := { p.scan with examined := examined } }).dropScanSlab n
    if examined < s.count then c.nextChunk n else c.scanEnd n .blank 0 s.count

/-- The blank checker breaks off the examination of a chunk in CHECKING (R169, R170, R171): it has examined some blocks
by then, how many is free (log 36), but fewer than the chunk and none beyond a block that is not blank, at either of
which the examination would have ended. -/
def Ctl.examinePart (dram : List Host.Cell) (c : Ctl) (n : CardNo) : Ctl :=
  let s := (c.card n).scan
  match s.phase, s.slab with
  | .checking, some x =>
    let most := (s.firstResidue dram x).getD (s.chunkSize - 1)
    let k := min (Config.examinedBefore c.freeDraws) most
    ({ c with freeDraws := c.freeDraws + 1 } : Ctl).modCard n fun p =>
      { p with scan := { p.scan with examined := p.scan.examined + k } }
  | _, _ => c

/-! ## Identification (6.3) -/

/-- Enter IDENTIFYING and issue the first IDENTIFY (R116, R118). -/
def Ctl.cardIdentifying (c : Ctl) (n : CardNo) : Ctl :=
  let c := c.modCard n fun p => { p with state := .identifying, attempts := 1 }
  ((c.cardIdentify n).notifyPort (.card n)).lampUpdate n

/-- An IDENTIFY ends (R118, R119, R120). -/
def Ctl.cardIdentified (c : Ctl) (n : CardNo) (o : TxnOutcome) (capacity : Nat) (serial : Serial) : Ctl :=
  if o = .good ∧ 0 < capacity then
    let c := c.modCard n fun p =>
      { p with state := .ready, attempts := 0, capacity := capacity, serial := serial }
    (((c.cardReturned n).notifyPort (.card n)).lampUpdate n).settle n
  else if (c.card n).attempts < 3 then
    (c.modCard n fun p => { p with attempts := p.attempts + 1 }).cardIdentify n
  else ((c.modCard n fun p => { p with state := .error }).notifyPort (.card n)).lampUpdate n

/-- A transaction of card port n ends with an outcome (R118, R122, R168). -/
def Ctl.cardTxnEnd (c : Ctl) (n : CardNo) (f : Flight) (o : TxnOutcome) (capacity : Nat) (serial : Serial) : Ctl :=
  match f.kind with
  | .identify => c.cardIdentified n o capacity serial
  | .read =>
    match (c.card n).reader with
    | some r => c.readerEnd n r f o
    | none => if (c.card n).scan.phase = .none then c else c.scanReadEnd n f o
  | .write => c

/-! ## Presence (6.2) -/

/-- A removal (R117): the transaction in flight is abandoned with a link reset and its slab freed, the port is EMPTY
with its record, grade and counts cleared, the marks are cleared, the job unit is told, a running scan ends
CARD_GONE. What the freed slab lets follow of the job, an end and its clearance among it, comes after step 5 (DESIGN
CHOICE, log 35). -/
def Ctl.cardRemoved (c : Ctl) (n : CardNo) : Ctl :=
  let inFlight := (c.card n).link.flight.isSome
  let c := c.setWait n none
  let c := if inFlight then c.modCard n fun p => { p with link := p.link.assertReset } else c
  let c := c.modCard n fun p =>
    { p with
      state := .empty, highRun := 0, lowRun := 0, attempts := 0, capacity := 0, serial := zeroSerial, grade := 0,
      attemptsAtGrade := 0 }
  let c := (((c.dropReader n).dropScanSlab n).setMarks n false false false).notifyPort (.card n)
  let c := (c.lampUpdate n).cardGone n
  let c := if (c.card n).scan.phase = .none then c else c.scanBreak n .cardGone
  c.settle n

/-- One sample of PRESENT at card port n (R116). -/
def Ctl.cardSample (c : Ctl) (n : CardNo) (high : Bool) : Ctl :=
  let big := c.debounce
  let c := c.modCard n fun p =>
    if high then { p with highRun := min big (p.highRun + 1), lowRun := 0 }
    else { p with lowRun := min big (p.lowRun + 1), highRun := 0 }
  let p := c.card n
  match p.state with
  | .empty =>
    if high then
      ((c.modCard n fun p => { p with state := .settling, highRun := 1 }).notifyPort (.card n)).lampUpdate n
    else c
  | .settling =>
    if high then (if big ≤ p.highRun then c.cardIdentifying n else c)
    else if big ≤ p.lowRun then c.cardRemoved n else c
  | .identifying | .ready | .error => if !high && decide (big ≤ p.lowRun) then c.cardRemoved n else c

/-- The next low sample removes the card (R117). -/
def Ctl.removalDue (c : Ctl) (n : CardNo) : Bool :=
  (c.card n).state != .empty && decide (c.debounce ≤ (c.card n).lowRun + 1)

/-- One low sample at card port n; a removal breaks off an examination (R171). -/
def Ctl.cardLow (dram : List Host.Cell) (c : Ctl) (n : CardNo) : Ctl :=
  (if c.removalDue n then c.examinePart dram n else c).cardSample n false

end Sys2Proof.Machine
end

