-- ==== Sys2Proof/Machine/DriveEvents.lean ====
section
/-! DEFINITION. Events at a drive port (07): identification and the return of a drive, the end of a WRITE or of a
read-back READ, loss and absence, samples of PRESENT. -/

namespace Sys2Proof.Machine

/-! ## Loss and absence -/

/-- The third failed attempt of one transaction: the port enters LOST (R149). -/
def Ctl.driveLost (c : Ctl) (d : DriveNo) (kind : TxnKind) (o : TxnOutcome) : Ctl :=
  let c := c.modDrive d fun p =>
    { p with state := .lost, loss := some { kind := kind, outcome := o }, link := p.link.assertReset }
  let c := (c.dropWork d).modDrive d fun p => { p with capacity := 0, serial := zeroSerial }
  (c.notifyPort (.drive d)).driveGone d

/-- Absence (R136): a transaction in flight is abandoned with a link reset, the record and run counts are cleared, and
a port that leaves READY drops its work and tells the job unit. -/
def Ctl.driveAbsent (c : Ctl) (d : DriveNo) : Ctl :=
  let wasReady := (c.drive d).state == .ready
  let c := c.modDrive d fun p =>
    { p with
      state := .absent, highRun := 0, lowRun := 0
      link := if p.link.flight.isSome then p.link.assertReset else p.link }
  let c := if wasReady then c.dropWork d else c
  let c := c.modDrive d fun p => { p with capacity := 0, serial := zeroSerial, attempts := 0 }
  let c := c.notifyPort (.drive d)
  if wasReady then c.driveGone d else c

/-! ## Identification and the return of a drive -/

/-- The write entries of the jobs in `ns` join the write queue by age (R151); a slab whose file has retired is only
purged of d (log 18). -/
def Ctl.requeueWrites (c : Ctl) (d : DriveNo) (ns : List CardNo) : Ctl :=
  let ns := ns.filter fun n => (c.job n).state != .stopping
  let xs := c.slabsWhere fun s => ns.any (fun n => s.isFilledOf n) && s.pendingWrites[d]
  let gone := xs.filter c.fileGone
  let kept := xs.filter fun x => !c.fileGone x
  (c.modDrive d fun p => { p with writeQueue := p.writeQueue ++ c.sortByAge kept }).purgeDest d gone

/-- The verify entries of the jobs in `ns` join the verify queue, in file queue order, jobs in number order (R151). -/
def Ctl.requeueVerifies (c : Ctl) (d : DriveNo) (ns : List CardNo) : Ctl :=
  let ns := ns.filter fun n => (c.job n).state != .stopping && (c.job n).verify == .readback
  let rs := ns.flatMap fun n => ((c.queue n).filter fun f => f.resultOn d == some .written).map (·.ref)
  c.modDrive d fun p => { p with verifyQueue := p.verifyQueue ++ rs }

/-- The port enters READY and hands the drive on (R138, R15, R151). The writes are placed, and the first is chosen,
before the verifies are placed (7.8's second example). -/
def Ctl.driveReady (c : Ctl) (d : DriveNo) (capacity : Nat) (serial : Serial) : Ctl :=
  let c := c.modDrive d fun p =>
    { p with state := .ready, attempts := 0, capacity := capacity, serial := serial, loss := none }
  let ns := (List.finRange 8).filter fun n => c.driveMatches d n
  let c := eachJob (Ctl.driveReturnedFor d) c
  let c := ((c.requeueWrites d ns).choose d).requeueVerifies d ns
  eachJob Ctl.settle ((c.pump d).notifyPort (.drive d))

/-- Enter IDENTIFYING and issue the first IDENTIFY (R135, R137). -/
def Ctl.driveIdentifying (c : Ctl) (d : DriveNo) : Ctl :=
  let c := c.modDrive d fun p => { p with state := .identifying, attempts := 1 }
  (c.driveIssue d .identify 0 0).notifyPort (.drive d)

/-- An IDENTIFY ends (R137). -/
def Ctl.driveIdentified (c : Ctl) (d : DriveNo) (o : TxnOutcome) (capacity : Nat) (serial : Serial) : Ctl :=
  if o = .good ∧ 0 < capacity then c.driveReady d capacity serial
  else if (c.drive d).attempts < 3 then
    (c.modDrive d fun p => { p with attempts := p.attempts + 1 }).driveIssue d .identify 0 0
  else (c.modDrive d fun p => { p with state := .error }).notifyPort (.drive d)

/-! ## The end of a WRITE -/

/-- Settle the job that owns slab s, if it is a source slab. -/
def Ctl.settleOwner (c : Ctl) (s : Slab) : Ctl :=
  match s.job with
  | some n => c.settle n
  | none => c

/-- Every WRITE of the span in slab x has ended GOOD on d (R49): bytes written rises, d leaves the pending-write set,
and at L the result becomes WRITTEN, to be read back or, under verify mode OFF, final. -/
def Ctl.writeDone (c : Ctl) (d : DriveNo) (n : CardNo) (r : FileRef) (len : Nat) : Ctl :=
  let c := c.modFile r fun f =>
    f.modDest d fun e =>
      { e with
        bytesWritten := e.bytesWritten + len
        result := if e.bytesWritten + len = f.len then .written else e.result }
  let c := c.endWriting d true
  if c.resultOn r d = some .written then
    match (c.job n).verify with
    | .readback => c.modDrive d fun p => { p with verifyQueue := p.verifyQueue ++ [r] }
    | .off => c.testComplete r
  else c

/-- A WRITE of file r fails at once on d (R150, R50): the result, the withdrawal of the file's work on d, the purge of
its slabs with their tests in ascending order, the test of the file. -/
def Ctl.writeFails (c : Ctl) (d : DriveNo) (r : FileRef) : Ctl :=
  let c := c.modFile r fun f =>
    f.modDest d fun e => if e.result = .pending then { e with result := .writeFailed } else e
  let c := (c.leaveWriting d).withdrawFile d r
  (c.purgeDest d (c.slabsWhere fun s => s.isFilledOfFile r)).testComplete r

/-- A WRITE of writing entry w that will not be retried ends (R142, R147, R150). -/
def Ctl.writeClose (c : Ctl) (d : DriveNo) (w : Writing) (f : Flight) (good : Bool) : Ctl :=
  let s := c.slab w.slab
  match s.job, s.file with
  | some n, some r =>
    if (c.job n).state = .stopping ∨ (c.job n).isLive d = false then c.endWriting d false
    else if good then
      if c.resultOn r d ≠ some .pending then c.endWriting d true
      else if w.next + f.count < endBlock s.offset s.len then
        c.modDrive d fun p => { p with writing := some { w with next := w.next + f.count } }
      else c.writeDone d n r s.len
    else c.writeFails d r
  | _, _ => c.endWriting d false

/-- Another attempt of the transaction that failed, at once (R147). -/
def Ctl.retry (c : Ctl) (d : DriveNo) (f : Flight) : Ctl :=
  (c.modDrive d fun p => { p with failed := p.failed + 1 }).driveIssue d f.kind f.start f.count

/-- A WRITE ends (R147). -/
def Ctl.writeEnd (c : Ctl) (d : DriveNo) (f : Flight) (o : TxnOutcome) : Ctl :=
  match (c.drive d).writing with
  | none => c.pump d
  | some w =>
    match o.sort with
    | .failed => if (c.drive d).failed + 1 < 3 then c.retry d f else c.driveLost d .write o
    | a =>
      let s := c.slab w.slab
      let c := c.modDrive d fun p => { p with failed := 0 }
      ((c.writeClose d w f (a == .success)).pump d).settleOwner s

/-! ## The end of a read-back READ -/

/-- The read-back of d fails at once (R100): the verify slab is freed, a WRITTEN result becomes UNREADABLE, the context
is IDLE. -/
def Ctl.readBackFails (c : Ctl) (d : DriveNo) (r : FileRef) : Ctl :=
  let c := c.freeVerifySlab d
  let c := c.modFile r fun f =>
    f.modDest d fun e => if e.result = .written then { e with result := .unreadable } else e
  (c.modDrive d fun p => { p with context := none }).testComplete r

/-- A read-back READ of span sp ends GOOD: the next block advances, and with the span whole the verify slab is FILLED
and joins the digest FIFO (R99, R100). -/
def Ctl.readBackGood (c : Ctl) (d : DriveNo) (k : Context) (sp : Span) (f : Flight) : Ctl :=
  let next := k.nextBlock + f.count
  if next < endBlock sp.offset sp.len then
    c.modDrive d fun p => { p with context := some { k with nextBlock := next } }
  else
    let c := (c.modSlab (verifySlab d) fun s => { s with state := .filled }).fifoPush (verifySlab d)
    c.modDrive d fun p => { p with context := some { k with nextBlock := next, nextOffset := k.nextOffset + sp.len } }

/-- A read-back READ ends (R100, R147, R148). -/
def Ctl.readBackEnd (c : Ctl) (d : DriveNo) (f : Flight) (o : TxnOutcome) : Ctl :=
  let p := c.drive d
  if p.readAbandoned then
    let owner := (c.slab (verifySlab d)).file
    let c := (c.freeVerifySlab d).modDrive d fun p => { p with readAbandoned := false, failed := 0 }
    let c := c.pump d
    match owner with
    | some r => c.settle r.job
    | none => c
  else
    match p.context with
    | none => c.pump d
    | some k =>
      match k.span, o.sort with
      | some _, .failed => if p.failed + 1 < 3 then c.retry d f else c.driveLost d .read o
      | some sp, .success =>
        let c := c.modDrive d fun p => { p with failed := 0 }
        ((c.readBackGood d k sp f).pump d).settle k.file.job
      | some _, .atOnce =>
        let c := c.modDrive d fun p => { p with failed := 0 }
        ((c.readBackFails d k.file).pump d).settle k.file.job
      | none, _ => c.pump d

/-- A transaction of drive port d ends with an outcome (R137, R147). -/
def Ctl.driveTxnEnd (c : Ctl) (d : DriveNo) (f : Flight) (o : TxnOutcome) (capacity : Nat) (serial : Serial) : Ctl :=
  match f.kind with
  | .identify => c.driveIdentified d o capacity serial
  | .write => c.writeEnd d f o
  | .read => c.readBackEnd d f o

/-! ## Presence (7.2) -/

/-- One sample of PRESENT at drive port d (R135). -/
def Ctl.driveSample (c : Ctl) (d : DriveNo) (high : Bool) : Ctl :=
  let big := c.debounce
  let c := c.modDrive d fun p =>
    if high then { p with highRun := min big (p.highRun + 1), lowRun := 0 }
    else { p with lowRun := min big (p.lowRun + 1), highRun := 0 }
  let p := c.drive d
  match p.state with
  | .absent =>
    if high then (c.modDrive d fun p => { p with state := .settling, highRun := 1 }).notifyPort (.drive d) else c
  | .settling =>
    if high then (if big ≤ p.highRun then c.driveIdentifying d else c)
    else if big ≤ p.lowRun then c.driveAbsent d else c
  | .identifying | .ready | .lost | .error => if !high && decide (big ≤ p.lowRun) then c.driveAbsent d else c

end Sys2Proof.Machine
end

