-- ==== Sys2Proof/Machine/DigestUnit.lean ====
section
/-! DEFINITION. The digest unit (04): the partial digest of a span, the fold, the start and the end of a computation. -/

namespace Sys2Proof.Machine

/-! ## Arithmetic -/

/-- The 16-bit words of a run of bytes, the first byte of each pair low; a lone last byte has a zero high byte (R81). -/
def wordsOf : List Byte → List Nat
  | [] => []
  | [b] => [b.toNat]
  | lo :: hi :: rest => (lo.toNat + 256 * hi.toNat) :: wordsOf rest

/-- The running sums over words (R82). -/
def runSums : Nat → Nat → List Nat → Nat × Nat
  | a, b, [] => (a, b)
  | a, b, w :: rest =>
    let a' := (a + w) % Config.modulus
    runSums a' ((b + a') % Config.modulus) rest

/-- The partial digest of a span's words (R82). -/
def partialDigest (words : List Nat) : Nat × Nat := runSums 0 0 words

/-- Fold a partial of m words and reduced trailer count t' into an accumulator (R84). -/
def Acc.fold (acc : Acc) (m t a b : Nat) : Acc where
  a := (acc.a + a) % Config.modulus
  b := (acc.b + b + t * a % Config.modulus) % Config.modulus
  words := acc.words + m

/-- The fold would raise the words folded above W (R87). -/
def Acc.overFold (acc : Acc) (m w : Nat) : Bool := decide (w < acc.words + m)

/-! ## Start and end of a computation -/

/-- Fold target of a slab (R89). -/
def Slab.foldTarget (s : Slab) : Option FoldTarget :=
  match s.purpose, s.file, s.port with
  | .source, some r, _ => some (.source r)
  | .verify, _, some (.drive d) => some (.verify d)
  | _, _, _ => none

/-- The idle unit takes the head of the FIFO and starts on it (R89, R83). -/
def Ctl.digestBegin (c : Ctl) : Ctl :=
  match c.digest.busy, c.digest.fifo with
  | none, x :: rest =>
    let s := c.slab x
    let o := s.offset / 2
    let m := (s.len + 1) / 2
    let w := ((s.file.bind c.file?).map (·.wordCount)).getD 0
    c.modDigest fun _ =>
      { fifo := rest, busy := some x, target := s.foldTarget, o := o, m := m, t := (w - o - m) % Config.modulus,
        a := 0, b := 0, words := 0, discard := false }
  | _, _ => c

/-- A source computation ends unmarked: over-fold check, fold, and a complete accumulator makes the source GOOD (R91,
R87, R48). A source already FAILED or UNREADABLE takes no fold (R60). -/
def Ctl.foldSource (c : Ctl) (r : FileRef) (m t a b : Nat) : Ctl :=
  match c.file? r with
  | none => c
  | some f =>
    if f.result = .failed ∨ f.result = .unreadable then c
    else if f.acc.overFold m f.wordCount then (if f.result = .pending then c.sourceFail r .unreadable else c)
    else
      let c := c.modFile r fun g => { g with acc := g.acc.fold m t a b }
      if f.acc.words + m = f.wordCount ∧ f.result = .pending then c.sourceGood r else c

/-- A verify computation ends unmarked (R92, R101): an over-fold makes a WRITTEN result UNREADABLE and the context IDLE;
a complete accumulator is stored as the verify digest and compared, the context IDLE; otherwise the next span is ready. -/
def Ctl.foldVerify (c : Ctl) (d : DriveNo) (m t a b : Nat) : Ctl :=
  match (c.drive d).context, c.contextFile d with
  | some k, some f =>
    if k.acc.overFold m f.wordCount then
      let c := c.modFile k.file fun g =>
        g.modDest d fun e => if e.result = .written then { e with result := .unreadable } else e
      (c.modDrive d fun p => { p with context := none }).testComplete k.file
    else
      let acc := k.acc.fold m t a b
      if acc.words = f.wordCount then
        let c := c.modFile k.file fun g =>
          FileRec.compare (g.modDest d fun e => { e with verA := acc.a, verB := acc.b, stored := true })
        (c.modDrive d fun p => { p with context := none }).testComplete k.file
      else c.modDrive d fun p => { p with context := some { k with acc := acc, span := none } }
  | _, _ => c

/-- The computation of slab x ends with partial digest (a, b) (R91, R92): the fold is applied, refused or, under the
discard mark, discarded; a source slab becomes digested and is tested for release; a verify slab returns to FREE. -/
def Ctl.digestFinish (c : Ctl) (x : SlabNo) (a b : Nat) : Ctl :=
  let u := c.digest
  let s := c.slab x
  let c := c.modDigest fun u => { u with busy := none, target := none, a := a, b := b, words := u.m }
  match u.target with
  | some (.source r) =>
    let c := if u.discard then c else c.foldSource r u.m u.t a b
    (((c.modSlab x fun s => { s with digested := true }).testRelease x)).settle r.job
  | some (.verify d) =>
    let c := if u.discard then c else c.foldVerify d u.m u.t a b
    let c := (c.freeVerifySlab d).pump d
    match s.file with
    | some r => c.settle r.job
    | none => c
  | none => c

/-- The words of slab x: its first `length` bytes of DRAM (R81). -/
def slabWords (m : List Host.Cell) (x : SlabNo) (len : Nat) : List Nat := wordsOf (readBytes m (slabAddr x 0) len)

end Sys2Proof.Machine
end

