-- ==== Sys2Proof/Machine/Handler.lean ====
section
/-! DEFINITION. The request handler (10.3): when it takes a frame, the one reply of a request, and the job number and
state checks of R3. -/

namespace Sys2Proof.Machine

/-! ## Reset and running -/

/-- The part is held in reset (R173, R187). -/
def ResetCtl.holds (r : ResetCtl) : Bool := r.pinLow || r.supplyBad || r.timer

/-- The part is held in reset. -/
def State.inReset (s : State) : Bool := s.resetCtl.holds

/-- A step of the running part; in reset nothing but the reset's own events happens (R173, R188). -/
def State.run (s : State) (f : State → State) : State := if s.inReset then s else f s

/-- A step of the running part that changes the shared state alone. -/
def State.runCtl (s : State) (f : Ctl → Ctl) : State := s.run fun s => { s with ctl := f s.ctl }

/-! ## Taking a frame -/

/-- What a request answers: a refusal, or the new shared state with the fields of its DONE reply. -/
abbrev Answer := Except Reason (Ctl × List Byte)

/-- The frame the handler takes next: the head of the input buffer, while the output queue holds fewer than 8 replies
and no PART_RESET has been taken (R178). -/
def State.nextFrame (s : State) : Option RxFrame :=
  if s.inReset || s.handlerStopped || !decide (s.ctl.replyCount < Config.replyLimit) then none else s.inbuf.head?

/-- The entry of a reply (R179): DONE with the request's fields, or REFUSED with its reason. -/
def RxFrame.done (f : RxFrame) (fields : List Byte) : OutEntry :=
  { kind := .done f.kind, tag := f.tag, payload := f.kind :: fields }

/-- REFUSED (R179). -/
def RxFrame.refused (f : RxFrame) (r : Reason) : OutEntry :=
  { kind := .refused f.kind, tag := f.tag, payload := [f.kind, r.code] }

/-- The frame leaves the buffer, the request acts, and its reply joins the queue after the notices of its action; a
refused request changes no block (R178, R179). -/
def State.answer (s : State) (f : RxFrame) (a : Answer) : State :=
  match a with
  | .ok (c, fields) => { s with ctl := c.pushEntry (f.done fields), inbuf := s.inbuf.tail }
  | .error r => { s with ctl := s.ctl.pushEntry (f.refused r), inbuf := s.inbuf.tail }

/-- Take a request of the given kind, if the next frame is one (R178, log 6). -/
def State.request (s : State) (k : MsgKind) (act : List Byte → Ctl → Answer) : State :=
  match s.nextFrame with
  | some f => if f.kind = k.code then s.answer f (act f.payload s.ctl) else s
  | none => s

/-! ## The checks of a job request (R3) -/

/-- The rows of the availability table of 1.3, by state: the requests that are taken, subject to their own checks. -/
def JobState.takes : JobState → MsgKind → Bool
  | .free, k => k == .jobQuery
  | .opened, k => k ∈ [.fileAdd, .jobStart, .jobClose, .jobDrop, .jobStop, .jobFree, .jobQuery]
  | .running, k => k ∈ [.fileAdd, .jobClose, .jobSuspend, .jobDrop, .jobStop, .jobQuery]
  | .held, k => k ∈ [.fileAdd, .jobClose, .jobSuspend, .jobResume, .jobDrop, .jobStop, .jobQuery]
  | .suspending, k => k ∈ [.fileAdd, .jobClose, .jobSuspend, .jobDrop, .jobStop, .jobQuery]
  | .suspended, k => k ∈ [.fileAdd, .jobClose, .jobResume, .jobDrop, .jobStop, .jobQuery]
  | .stopping, k => k ∈ [.jobStop, .jobQuery]
  | .faulted, k => k ∈ [.jobStop, .jobClear, .jobQuery]
  | .ended, k => k ∈ [.jobFree, .jobQuery]

/-- The refusal a state gives where it does not take a request (1.3). -/
def JobState.reason : JobState → Reason
  | .free => .noJob
  | .faulted => .locked
  | _ => .wrongState

/-- The first two checks of R3, then the request's own. -/
def Ctl.forJob (c : Ctl) (k : MsgKind) (b : Byte) (act : CardNo → Answer) : Answer :=
  match cardNo? b with
  | none => .error .badField
  | some n => if (c.job n).state.takes k then act n else .error (c.job n).state.reason

/-- A request whose payload is the job number alone. -/
def jobRequest (k : MsgKind) (act : Ctl → CardNo → Answer) (payload : List Byte) (c : Ctl) : Answer :=
  match payload with
  | [b] => c.forJob k b (act c)
  | _ => .error .badLength

end Sys2Proof.Machine
end

