-- ==== Sys2Proof/Machine/JobRequests.lean ====
section
/-! DEFINITION. The job requests and FILE_ADD (01, 02): the checks each makes of its own and what it does when taken. -/

namespace Sys2Proof.Machine

/-! ## JOB_OPEN -/

/-- Drive port numbers each within 0 to 3, none twice (R4). -/
def drivePorts? : List Byte → Option (List DriveNo)
  | [] => some []
  | b :: rest =>
    match driveNo? b, drivePorts? rest with
    | some d, some ds => if d ∈ ds then none else some (d :: ds)
    | _, _ => none

/-- The quota in force for a quota field (R4). -/
def quotaOf (b : Byte) : Nat :=
  if b.toNat = 0 then 48 else if b.toNat < 8 then 8 else if 128 < b.toNat then 128 else b.toNat

/-- The checked fields of a JOB_OPEN. -/
structure OpenReq where
  dests : List DriveNo
  clearance : Nat
  verify : VerifyMode
  quota : Nat
  cardRelease : Release
  driveAction : GoneAction
  driveRelease : Release
  deriving DecidableEq, Repr

/-- The record of a job opened on a card and its drives (R5, R35, R106). -/
def Ctl.openedJob (c : Ctl) (n : CardNo) (o : OpenReq) : Job :=
  { Job.freeValues with
    state := .opened
    serial := (c.card n).serial
    dests := o.dests.map fun d =>
      { port := d, serial := (c.drive d).serial, live := true, capacity := (c.drive d).capacity }
    clearance := o.clearance, verify := o.verify, quota := o.quota
    cardRelease := o.cardRelease, driveAction := o.driveAction, driveRelease := o.driveRelease
    cardCapacity := (c.card n).capacity, firstFile := c.nextFile }

/-- JOB_OPEN is taken (R5, R108): the record is filled, the port is bound, its cleared flag and unclean-end mark are
cleared, PORT_EVENT (R131) and JOB_STATE are queued. -/
def Ctl.openJob (c : Ctl) (n : CardNo) (o : OpenReq) : Ctl :=
  let job := c.openedJob n o
  let c := (c.modJob n fun _ => job).setMarks n false (c.card n).residue false
  ((c.lampUpdate n).notifyPort (.card n)).notifyJob n

/-- The checks of R4, in order, on the fields of a JOB_OPEN. -/
def Ctl.checkOpen (c : Ctl) (job count : Byte) (ports : List Byte) (clr ver quota cr da dr : Byte) :
    Except Reason (CardNo × OpenReq) :=
  match cardNo? job with
  | none => .error .badField
  | some n =>
    if count.toNat < 1 ∨ 4 < count.toNat then .error .badField
    else
      match drivePorts? (ports.take count.toNat) with
      | none => .error .badField
      | some ds =>
        if clr.toNat < 1 ∨ count.toNat < clr.toNat then .error .badField
        else
          match verifyMode? ver, release? cr, goneAction? da, release? dr with
          | some v, some cg, some act, some dg =>
            if (c.job n).state ≠ .free then .error .slotInUse
            else if (c.card n).state ≠ .ready then .error .portNotReady
            else if !ds.all (fun d => (c.drive d).state == .ready) then .error .portNotReady
            else
              .ok (n, { dests := ds, clearance := clr.toNat, verify := v, quota := quotaOf quota, cardRelease := cg,
                        driveAction := act, driveRelease := dg })
          | _, _, _, _ => .error .badField

/-- JOB_OPEN (R4, R5). -/
def reqJobOpen (payload : List Byte) (c : Ctl) : Answer :=
  match payload with
  | [job, count, p0, p1, p2, p3, clr, ver, quota, cr, da, dr] =>
    match c.checkOpen job count [p0, p1, p2, p3] clr ver quota cr da dr with
    | .error r => .error r
    | .ok (n, o) => .ok (c.openJob n o, [BitVec.ofNat 8 n.val, BitVec.ofNat 8 o.quota])
  | _ => .error .badLength

/-! ## JOB_START, JOB_CLOSE -/

/-- RUNNING with an empty hold set, HELD with a cause of any mark (R6, R23, R30). -/
def Job.runOrHold (j : Job) : JobState := if j.holds.isEmpty then .running else .held

/-- JOB_START is taken (R6): the move, then the READING file, then the end condition or the reader's request. -/
def Ctl.startJob (c : Ctl) (n : CardNo) : Ctl :=
  ((c.updJob n fun j => { j with state := j.runOrHold }).promote n).settle n

/-- JOB_START's own check: no scan runs on the port (R6). -/
def Ctl.answerStart (c : Ctl) (n : CardNo) : Answer :=
  if (c.card n).scan.phase = .none then .ok (c.startJob n, []) else .error .portBusy

/-- JOB_START (R6). -/
def reqJobStart : List Byte → Ctl → Answer := jobRequest .jobStart Ctl.answerStart

/-- Evaluate the end condition (R8). -/
def Ctl.evaluateEnd (c : Ctl) (n : CardNo) : Ctl := if c.endCondition n then c.endJob n .complete else c

/-- JOB_CLOSE is taken (R7). -/
def Ctl.closeJob (c : Ctl) (n : CardNo) : Ctl :=
  if (c.job n).closed then c else (c.modJob n fun j => { j with closed := true }).evaluateEnd n

/-- JOB_CLOSE (R7). -/
def reqJobClose : List Byte → Ctl → Answer := jobRequest .jobClose fun c n => .ok (c.closeJob n, [])

/-! ## FILE_ADD -/

/-- The structure check of R36: at most 8 extents in a list, no empty extent, one list per destination entry. -/
def FileAddReq.structureOk (q : FileAddReq) (j : Job) : Bool :=
  let listOk := fun (l : Nat × List Extent) => decide (l.1 ≤ 8) && l.2.all fun e => decide (0 < e.count)
  listOk q.source && q.dests.all listOk && q.dests.length == j.dests.length

/-- Blocks of an extent list, summed exactly (R37). -/
def listBlocks (l : List Extent) : Nat := l.foldl (fun n e => n + e.count) 0

/-- Check 4 of R37 on one list. -/
def listMatches (len : Nat) (l : List Extent) : Bool := l.isEmpty == (len == 0) && listBlocks l == blocksFor len

/-- Every extent lies within a device of `capacity` blocks (R38). -/
def listInRange (capacity : Nat) (l : List Extent) : Bool := l.all fun e => decide (e.start + e.count ≤ capacity)

/-- The lists of the LIVE destinations, with their capacities (R36, R38). -/
def FileAddReq.liveLists (q : FileAddReq) (j : Job) : List (Nat × List Extent) :=
  ((j.dests.zip q.dests).filter fun p => p.1.live).map fun p => (p.1.capacity, p.2.2)

/-- The checks of a FILE_ADD's own, in order (R37). -/
def Ctl.checkFile (c : Ctl) (n : CardNo) (q : FileAddReq) : Option Reason :=
  let j := c.job n
  let lists := q.liveLists j
  if !q.structureOk j then some .badField
  else if j.closed then some .closed
  else if (c.queue n).any (fun f => f.id == q.id) then some .duplicateId
  else if !(listMatches q.len q.source.2 && lists.all fun l => listMatches q.len l.2) then some .extentMismatch
  else if !(listInRange j.cardCapacity q.source.2 && lists.all fun l => listInRange l.1 l.2) then some .outOfRange
  else if Config.queueLimit ≤ (c.queue n).length then some .queueFull
  else if Config.tableLimit ≤ c.files.length then some .tableFull
  else none

/-- The record a taken FILE_ADD gets (R39). A DROPPED destination's list is not stored (R36). -/
def Ctl.newFile (c : Ctl) (n : CardNo) (q : FileAddReq) : FileRec where
  ref := { job := n, num := c.nextFile }
  id := q.id
  len := q.len
  source := q.source.2
  readOffset := 0
  state := .queued
  acc := { a := 0, b := 0, words := 0 }
  result := .pending
  dests := ((c.job n).dests.zip q.dests).map fun p =>
    { port := p.1.port, extents := if p.1.live then p.2.2 else [], bytesWritten := 0, verA := 0, verB := 0,
      stored := false, result := if p.1.live then .pending else .dropped }

/-- A FILE_ADD joins the queue (R39). -/
def Ctl.joinFile (c : Ctl) (n : CardNo) (q : FileAddReq) : Ctl :=
  let f := c.newFile n q
  { c with files := c.files ++ [f], nextFile := c.nextFile + 1 }.modJob n fun j =>
    { j with accepted := (j.accepted + 1) % 2 ^ 32 }

/-- FILE_ADD's own checks and its taking (R36 to R39, R42). The reply counts the entries just after the file joined
(log 21). -/
def Ctl.answerFile (c : Ctl) (n : CardNo) (q : FileAddReq) : Answer :=
  match c.checkFile n q with
  | some r => .error r
  | none =>
    let c := c.joinFile n q
    let fields := [BitVec.ofNat 8 n.val] ++ leBytes 4 q.id ++ [BitVec.ofNat 8 (c.queue n).length]
      ++ leBytes 2 (Config.tableLimit - c.files.length)
    .ok ((c.promote n).settle n, fields)

/-- FILE_ADD (R191, R3, R37). -/
def reqFileAdd (payload : List Byte) (c : Ctl) : Answer :=
  match parseFileAdd payload with
  | none => .error .badLength
  | some q => c.forJob .fileAdd q.job fun n => c.answerFile n q

/-! ## JOB_SUSPEND, JOB_RESUME -/

/-- The mode in force after a JOB_SUSPEND (R19): upward only from FINISH to PROMPT. -/
def Job.modeAfter (j : Job) (m : SuspendMode) : SuspendMode :=
  if j.state = .suspending ∧ j.suspend = .prompt then .prompt else m

/-- JOB_SUSPEND is taken (R19, R20, R21). -/
def Ctl.suspendJob (c : Ctl) (n : CardNo) (m : SuspendMode) : Ctl :=
  let j := c.job n
  let mode := j.modeAfter m
  if j.state = .suspending ∧ j.suspend = mode then c
  else
    let c := c.updJob n fun j => { j with state := .suspending, suspend := mode }
    let c := if mode = .prompt then (eachDrive (Ctl.promptDrive n) c).pumpAll else c
    c.settle n

/-- JOB_SUSPEND (R19). -/
def reqJobSuspend (payload : List Byte) (c : Ctl) : Answer :=
  match payload with
  | [b, mode] =>
    c.forJob .jobSuspend b fun n =>
      match suspendMode? mode with
      | none => .error .badField
      | some m => .ok (c.suspendJob n m, [BitVec.ofNat 8 n.val, ((c.job n).modeAfter m).code])
  | _ => .error .badLength

/-- The hold set without its ready causes (R17). -/
def HoldSet.withoutReady (h : HoldSet) : HoldSet where
  cardGone := h.cardGone.filter (· != .ready)
  destGone := h.destGone.map fun m => m.filter (· != .ready)

/-- A cause is marked ready. -/
def HoldSet.anyReady (h : HoldSet) : Bool :=
  h.cardGone == some .ready || h.destGone.toList.any fun m => m == some .ready

/-- The last cause in removal order among those marked ready (R10, R17). -/
def Job.lastReady (j : Job) : ReleaseCause :=
  j.dests.foldl (fun r e => if j.holds.destGone[e.port] = some .ready then .destGone e.port else r) .cardGone

/-- The removed and the left causes, as the JOB_RESUME reply lays them out (R191). -/
def resumeFields (n : CardNo) (before after : HoldSet) : List Byte :=
  let gone := fun (a b : Option Mark) => boolByte (a.isSome && b.isNone)
  [BitVec.ofNat 8 n.val, gone before.cardGone after.cardGone, gone before.destGone[0] after.destGone[0],
    gone before.destGone[1] after.destGone[1], gone before.destGone[2] after.destGone[2],
    gone before.destGone[3] after.destGone[3], markCode after.cardGone, markCode after.destGone[0],
    markCode after.destGone[1], markCode after.destGone[2], markCode after.destGone[3]]

/-- JOB_RESUME in HELD (R17). -/
def Ctl.resumeHeld (c : Ctl) (n : CardNo) : Ctl :=
  (c.updJob n fun j => ({ j with holds := j.holds.withoutReady }).releaseIfEmpty j.lastReady).settle n

/-- JOB_RESUME in SUSPENDED (R23). -/
def Ctl.resumeSuspended (c : Ctl) (n : CardNo) : Ctl :=
  (((c.updJob n fun j => { j with state := j.runOrHold, suspend := .none }).pumpAll).promote n).settle n

/-- JOB_RESUME by the job's state (R17, R23). -/
def Ctl.answerResume (c : Ctl) (n : CardNo) : Answer :=
  let h := (c.job n).holds
  if (c.job n).state = .held then
    if h.anyReady then .ok (c.resumeHeld n, resumeFields n h h.withoutReady) else .error .holdPersists
  else .ok (c.resumeSuspended n, resumeFields n h h)

/-- JOB_RESUME (R17, R23). -/
def reqJobResume : List Byte → Ctl → Answer := jobRequest .jobResume Ctl.answerResume

/-! ## JOB_DROP, JOB_STOP, JOB_CLEAR, JOB_FREE -/

/-- JOB_DROP's own checks and its taking (R18). -/
def Ctl.answerDrop (c : Ctl) (n : CardNo) (b : Byte) : Answer :=
  match (driveNo? b).bind (c.job n).dest? with
  | none => .error .badField
  | some e => .ok (if e.live then (c.dropDest n e.port).settle n else c, [])

/-- JOB_DROP (R18). -/
def reqJobDrop (payload : List Byte) (c : Ctl) : Answer :=
  match payload with
  | [b, d] => c.forJob .jobDrop b fun n => c.answerDrop n d
  | _ => .error .badLength

/-- JOB_STOP is taken (R24, R25); in STOPPING it changes nothing (R26). -/
def Ctl.stopJob (c : Ctl) (n : CardNo) : Ctl :=
  if (c.job n).state = .stopping then c else (c.enterStopping n .stopped).settle n

/-- JOB_STOP (R24, R25). -/
def reqJobStop : List Byte → Ctl → Answer := jobRequest .jobStop fun c n => .ok (c.stopJob n, [])

/-- JOB_CLEAR of a job faulted CARD_REPLACED: HELD with CARD_GONE pending (R30). -/
def Job.clearReplaced (j : Job) : Job :=
  { j with state := .held, holds := j.holds.setCard (some .pending), faultCause := .none, failures := 0 }

/-- JOB_CLEAR of a job faulted CARD_UNREADABLE (R30). -/
def Job.clearUnreadable (j : Job) : Job := { j with state := j.runOrHold, faultCause := .none, failures := 0 }

/-- JOB_CLEAR is taken (R30, R42). -/
def Ctl.clearJob (c : Ctl) (n : CardNo) : Ctl :=
  let c := c.updJob n fun j => if j.faultCause = .cardReplaced then j.clearReplaced else j.clearUnreadable
  ((c.promote n).pumpAll).settle n

/-- JOB_CLEAR's own check (R30). -/
def Ctl.answerClear (c : Ctl) (n : CardNo) : Answer :=
  if (c.job n).faultCause = .cardReplaced ∧ (c.card n).state ≠ .empty then .error .portBusy
  else .ok (c.clearJob n, [])

/-- JOB_CLEAR (R30). -/
def reqJobClear : List Byte → Ctl → Answer := jobRequest .jobClear Ctl.answerClear

/-- JOB_FREE is taken (R31, R35, R57, R61): the job's files are discarded, the record returns to its free values, the
port is unbound with its marks kept. -/
def Ctl.freeJob (c : Ctl) (n : CardNo) : Ctl :=
  let c : Ctl := { c with files := c.files.filter fun f => f.ref.job != n }
  let c := (c.setFileDoneWaiting n false).modJob n fun _ => Job.freeValues
  ((c.lampUpdate n).notifyPort (.card n)).notifyJob n

/-- JOB_FREE (R31). -/
def reqJobFree : List Byte → Ctl → Answer := jobRequest .jobFree fun c n => .ok (c.freeJob n, [])

/-! ## JOB_QUERY -/

/-- A destination entry as JOB_QUERY lays it out (R191): membership 0 LIVE, 1 DROPPED. -/
def Dest.queryBytes (e : Dest) : List Byte := BitVec.ofNat 8 e.port.val :: e.serial.toList ++ [boolByte (!e.live)]

/-- The reply to JOB_QUERY (R32, R191). -/
def Ctl.jobReport (c : Ctl) (n : CardNo) : List Byte :=
  let j := c.job n
  c.jobStatePayload n ++ j.serial.toList ++ [BitVec.ofNat 8 j.dests.length] ++ (j.dests.map Dest.queryBytes).flatten
    ++ [BitVec.ofNat 8 j.clearance, j.verify.code, BitVec.ofNat 8 j.quota, j.cardRelease.code, j.driveAction.code,
        j.driveRelease.code, BitVec.ofNat 8 j.failures]
    ++ j.counterBytes ++ [BitVec.ofNat 8 (c.queue n).length, BitVec.ofNat 8 (c.sourceCount n)]

/-- JOB_QUERY (R32). -/
def reqJobQuery : List Byte → Ctl → Answer := jobRequest .jobQuery fun c n => .ok (c, c.jobReport n)

end Sys2Proof.Machine
end

