-- ==== Sys2Proof/Machine/Requests.lean ====
section
/-! DEFINITION. The requests that are not job requests: IDENT, PART_RESET, NOTICE_SET, PORT_QUERY, LAMP_SET, SCAN_START
and SCAN_STOP (10.5, 5.4, 9). -/

namespace Sys2Proof.Machine

/-! ## IDENT, NOTICE_SET -/

/-- The reply to IDENT (R184, R191). -/
def Ctl.identReport (c : Ctl) : List Byte :=
  leBytes 2 0x3A71 ++ leBytes 2 0x0840 ++ [1] ++ leBytes 2 512
    ++ [8, 4, BitVec.ofNat 8 c.rateCode, BitVec.ofNat 8 c.debounce, faultKindCode c.linkFault.kind]
    ++ leBytes 2 c.linkFault.count

/-- IDENT (R184). -/
def reqIdent (payload : List Byte) (c : Ctl) : Answer :=
  match payload with
  | [] => .ok (c, c.identReport)
  | _ => .error .badLength

/-- One setting of NOTICE_SET (R183): the switchable kinds by their codes, any other code ignored. -/
def NoticeSettings.switch (s : NoticeSettings) (kind : Byte) (on : Bool) : NoticeSettings :=
  if kind = 0xC1 then { s with portEvent := on }
  else if kind = 0xC2 then { s with jobState := on }
  else if kind = 0xC5 then { s with scanDone := on }
  else if kind = 0xC6 then { s with linkFault := on }
  else s

/-- The settings in payload order; a lone last byte makes the length wrong (R183, R191). -/
def NoticeSettings.apply (s : NoticeSettings) : List Byte → Option NoticeSettings
  | [] => some s
  | [_] => none
  | kind :: on :: rest => (s.switch kind (on != 0)).apply rest

/-- The switches and the step, as NOTICE_SET's reply lays them out (R191). -/
def NoticeSettings.report (s : NoticeSettings) : List Byte :=
  [boolByte s.portEvent, boolByte s.jobState, boolByte s.scanDone, boolByte s.linkFault, BitVec.ofNat 8 s.step]

/-- NOTICE_SET (R183). -/
def reqNoticeSet (payload : List Byte) (c : Ctl) : Answer :=
  match payload with
  | [] => .error .badLength
  | k :: settings =>
    match c.notices.apply settings with
    | none => .error .badLength
    | some s =>
      let s := { s with step := min 8 k.toNat }
      .ok ({ c with notices := s }, s.report)

/-- PART_RESET's own part: no payload, nothing changed but the handler (R187). -/
def reqPartReset (payload : List Byte) (c : Ctl) : Answer :=
  match payload with
  | [] => .ok (c, [])
  | _ => .error .badLength

/-! ## PORT_QUERY -/

/-- A transaction as PORT_QUERY lays it out: kind, start block, count, failed attempts (R191). IDENTIFY has no start
block and no count (R157); the fields of no transaction are not stated (log 11, log 12). -/
def txnBytes (f : Option Flight) (failed : List Byte) : List Byte :=
  match f with
  | none => 0 :: unstatedBytes 6 .startOfAbsentTransaction ++ unstatedBytes 1 .countOfAbsentTransaction
      ++ unstatedBytes 1 .failedOfAbsentTransaction
  | some f =>
    (if f.kind = .identify then
      f.kind.code :: unstatedBytes 6 .startOfAbsentTransaction ++ unstatedBytes 1 .countOfAbsentTransaction
     else f.kind.code :: leBytes 6 f.start ++ [BitVec.ofNat 8 f.count]) ++ failed

/-- The reader's condition, slab number and byte offset (R133). -/
def Ctl.readerBytes (c : Ctl) (n : CardNo) : List Byte :=
  match (c.card n).reader with
  | none => 0 :: unstatedBytes 2 .slabOfIdleReader ++ unstatedBytes 5 .offsetOfIdleReader
  | some r => 1 :: leBytes 2 r.slab.val ++ leBytes 5 (c.slab r.slab).offset

/-- The reply to PORT_QUERY for a card port (R133, R191). -/
def Ctl.cardReport (c : Ctl) (n : CardNo) : List Byte :=
  let p := c.card n
  c.cardEventPayload n ++ [BitVec.ofNat 8 p.attempts, BitVec.ofNat 8 p.attemptsAtGrade]
    ++ txnBytes p.link.flight (unstatedBytes 1 .failedOfCardTransaction) ++ c.readerBytes n
    ++ [boolByte (p.scan.phase != .none), boolByte (c.waits n).isSome] ++ leBytes 2 c.freePool
    ++ [p.lampMode.code, p.pattern.code]

/-- Failed attempts of a drive port's transaction: an IDENTIFY's are the attempts before the one in flight (log 28). -/
def DrivePort.failedAttempts (p : DrivePort) : Nat := if p.link.carries .identify then p.attempts - 1 else p.failed

/-- The staged transaction, or none (R154). It has made no attempt. -/
def Ctl.stagedBytes (c : Ctl) (d : DriveNo) : List Byte :=
  match (c.drive d).staged with
  | none => unstatedBytes 2 .slabOfNoStage ++ txnBytes none []
  | some g =>
    let (start, count) := (c.writeTxn d g.slab g.block).getD (0, 0)
    leBytes 2 g.slab.val ++ TxnKind.write.code :: leBytes 6 start ++ [BitVec.ofNat 8 count, 0]

/-- The verify state R96 lists: queue entries, context state, and an ACTIVE context's job, file id and next offset. -/
def Ctl.verifyBytes (c : Ctl) (d : DriveNo) : List Byte :=
  let p := c.drive d
  leBytes 2 p.verifyQueue.length ++
    match p.context with
    | none => 0 :: unstatedBytes 1 .jobOfIdleContext ++ unstatedBytes 4 .fileOfIdleContext
        ++ unstatedBytes 5 .offsetOfIdleContext
    | some k => 1 :: BitVec.ofNat 8 k.file.job.val :: leBytes 4 (((c.file? k.file).map (·.id)).getD 0)
        ++ leBytes 5 k.nextOffset

/-- The reply to PORT_QUERY for a drive port (R154, R191). -/
def Ctl.driveReport (c : Ctl) (d : DriveNo) : List Byte :=
  let p := c.drive d
  c.driveEventPayload d ++ [BitVec.ofNat 8 p.attempts] ++ leBytes 2 p.writeQueue.length
    ++ (match p.writing with
        | none => unstatedBytes 2 .slabOfNoWritingEntry ++ unstatedBytes 6 .blockOfNoWritingEntry
        | some w => leBytes 2 w.slab.val ++ leBytes 6 w.next)
    ++ txnBytes p.link.flight [BitVec.ofNat 8 p.failedAttempts] ++ c.stagedBytes d ++ c.verifyBytes d

/-- The reply to PORT_QUERY (R185). -/
def Ctl.portReport (c : Ctl) : PortId → List Byte
  | .card n => c.cardReport n
  | .drive d => c.driveReport d

/-- PORT_QUERY (R185). -/
def reqPortQuery (payload : List Byte) (c : Ctl) : Answer :=
  match payload with
  | [b] =>
    match portId? b with
    | none => .error .badField
    | some p => .ok (c, c.portReport p)
  | _ => .error .badLength

/-! ## LAMP_SET -/

/-- LAMP_SET is taken (R113). -/
def Ctl.setLamp (c : Ctl) (n : CardNo) (mode : Release) (pattern : Byte) : Ctl :=
  match mode with
  | .auto => (c.modCard n fun p => { p with lampMode := .auto }).lampUpdate n
  | .host =>
    c.modCard n fun p =>
      let p := { p with lampMode := .host }
      match pattern? pattern with
      | some q => p.show q
      | none => p

/-- LAMP_SET (R113). -/
def reqLampSet (payload : List Byte) (c : Ctl) : Answer :=
  match payload with
  | [port, mode, pattern] =>
    match cardNo? port, release? mode with
    | some n, some m =>
      let c := c.setLamp n m pattern
      .ok (c, [m.code, (c.card n).pattern.code])
    | _, _ => .error .badField
  | _ => .error .badLength

/-! ## SCAN_START, SCAN_STOP -/

/-- A scan may start under the job of the port: unbound, OPEN or ENDED (R166). -/
def JobState.allowsScan : JobState → Bool
  | .free | .opened | .ended => true
  | _ => false

/-- Checks 2 to 5 of R166. -/
def Ctl.checkScan (c : Ctl) (n : CardNo) (first count : Nat) : Option Reason :=
  let p := c.card n
  if p.state ≠ .ready then some .portNotReady
  else if p.scan.phase ≠ .none then some .portBusy
  else if !(c.job n).state.allowsScan then some .portBusy
  else if p.capacity < first + count then some .outOfRange
  else none

/-- SCAN_START is taken (R166): the record, then the first chunk (R167). -/
def Ctl.startScan (c : Ctl) (n : CardNo) (first count : Nat) (dir : Direction) (pat : BlankPattern) : Ctl :=
  (c.modCard n fun p =>
    { p with scan := { p.scan with first := first, count := count, direction := dir, pattern := pat, examined := 0 } }
    ).nextChunk n

/-- SCAN_START on its parsed fields (R166). -/
def Ctl.answerScan (c : Ctl) (port : Byte) (first count : List Byte) (dir pat : Byte) : Answer :=
  match cardNo? port, direction? dir, blankPattern? pat with
  | some n, some d, some b =>
    if ofLe count = 0 then .error .badField
    else
      match c.checkScan n (ofLe first) (ofLe count) with
      | some r => .error r
      | none => .ok (c.startScan n (ofLe first) (ofLe count) d b, port :: first ++ count)
  | _, _, _ => .error .badField

/-- SCAN_START (R166). -/
def reqScanStart (payload : List Byte) (c : Ctl) : Answer :=
  match payload with
  | [port, f0, f1, f2, f3, f4, f5, n0, n1, n2, n3, n4, n5, dir, pat] =>
    c.answerScan port [f0, f1, f2, f3, f4, f5] [n0, n1, n2, n3, n4, n5] dir pat
  | _ => .error .badLength

/-- SCAN_STOP by the phase (R170). -/
def Ctl.stopScan (dram : List Host.Cell) (c : Ctl) (n : CardNo) : Ctl :=
  match (c.card n).scan.phase with
  | .none | .ending => c
  | .awaitingSlab => (c.setWait n none).scanBreak n .stopped
  | .reading => c.modCard n fun p => { p with scan := { p.scan with phase := .ending } }
  | .checking => (c.examinePart dram n).scanBreak n .stopped

/-- SCAN_STOP (R170). The last byte is yes when the phase was READING (log 34). -/
def reqScanStop (dram : List Host.Cell) (payload : List Byte) (c : Ctl) : Answer :=
  match payload with
  | [b] =>
    match cardNo? b with
    | none => .error .badField
    | some n =>
      let phase := (c.card n).scan.phase
      .ok (c.stopScan dram n, [b, boolByte (phase != .none), boolByte (phase == .reading)])
  | _ => .error .badLength

end Sys2Proof.Machine
end

