-- ==== Sys2Proof/Machine/Line.lean ====
section
/-! DEFINITION. The line: the receiver (R175), the input buffer (R177), the transmitter (R180), and resets (R173, R187,
R188, R189). -/

namespace Sys2Proof.Machine

/-! ## The receiver -/

/-- Discard the frame being received, with a fault kind, and return to HUNT (R175, R176). -/
def State.discard (s : State) (k : LineFault) : State := { s with ctl := s.ctl.lineFault k, rx := .hunt }

/-- Offer a checked frame to the input buffer (R177). -/
def State.offerFrame (s : State) (f : RxFrame) : State :=
  if s.inbuf.length < Config.inputLimit then { s with inbuf := s.inbuf ++ [f], rx := .hunt } else s.discard .overrun

/-- The frame whose LEN through PAYLOAD are `body` (R174). -/
def frameOf : List Byte → RxFrame
  | _ :: _ :: kind :: tag :: payload => { kind := kind, tag := tag, payload := payload }
  | _ => { kind := 0, tag := 0, payload := [] }

/-- The last CHK byte has come: `got` is LEN through CHK (R175). -/
def State.checkFrame (s : State) (len : Nat) (got : List Byte) : State :=
  let body := got.take (4 + len)
  if crcBytes (crc16 body) = got.drop (4 + len) then s.offerFrame (frameOf body) else s.discard .check

/-- A byte without framing error in a phase from LENGTH on (R175). -/
def State.rxData (s : State) (b : Byte) : State :=
  match s.rx with
  | .hunt => if b = 0xA5 then { s with rx := .length [] } else s
  | .length got =>
    let got := got ++ [b]
    if got.length < 2 then { s with rx := .length got }
    else if Config.maxPayload < ofLe got then s.discard .length
    else { s with rx := .header (ofLe got) got }
  | .header len got =>
    let got := got ++ [b]
    if got.length < 4 then { s with rx := .header len got }
    else if len = 0 then { s with rx := .check len got }
    else { s with rx := .payload len got }
  | .payload len got =>
    let got := got ++ [b]
    if got.length < 4 + len then { s with rx := .payload len got } else { s with rx := .check len got }
  | .check len got =>
    let got := got ++ [b]
    if got.length < 6 + len then { s with rx := .check len got } else s.checkFrame len got

/-- One byte from RXD (R175): in HUNT a byte with a framing error is dropped, elsewhere it discards the frame. -/
def State.rxByte (s : State) (b : RxByte) : State :=
  if b.framingError then (if s.rx = .hunt then s else s.discard .framing) else s.rxData b.data

/-- More than 20 ms since the frame's last byte (R175). -/
def State.gapExpired (s : State) : State := if s.rx = .hunt then s else s.discard .gap

/-! ## The transmitter -/

/-- What the leaving of an entry does: a LINK_FAULT returns the record's count to 0 (R176), a FILE_DONE's room is
granted to the next waiting job in turn (R57). -/
def Ctl.afterLeaving (c : Ctl) (e : OutEntry) : Ctl :=
  match e.kind with
  | .notice .linkFault => { c with linkFault := { c.linkFault with count := 0 } }
  | .notice (.fileDone _) =>
    match c.grantRoom with
    | none => c
    | some n => (c.testRetire n).settle n
  | _ => c

/-- The entry is the DONE of a PART_RESET (R187). -/
def OutEntry.isResetDone (e : OutEntry) : Bool := e.kind == .done MsgKind.partReset.code

/-- With the line idle, the head entry becomes a frame and leaves the queue (R180). -/
def State.transmit (s : State) : State :=
  match s.tx, s.ctl.outq with
  | none, e :: rest =>
    { s with ctl := (s.ctl.setOutq rest).afterLeaving e, tx := some { bytes := e.frame, resetAfter := e.isResetDone } }
  | _, _ => s

/-! ## Resets -/

/-- Rate code of the strap pins (R173): 2 x RATE1 + RATE0, the row of 10.1's table counted from 0. 10.1 pairs the levels with
line rates and 10.7 gives no codes for the field (DEDUCED, log 40). -/
def strapRate (p : StrapPins) : Nat := 2 * p.rate1.toNat + p.rate0.toNat

/-- Debounce count N of the strap pins (R173). -/
def strapDebounce (p : StrapPins) : Nat := if p.deb1 then 10 else if p.deb0 then 8 else 6

/-- A reset begins (R188): every block takes its reset values, the straps' values are held (log 26), the DRAM stands. -/
def State.beginReset (s : State) (r : ResetCtl) : State where
  ctl := { Ctl.resetValues s.ctl.rateCode s.ctl.debounce with freeDraws := s.ctl.freeDraws }
  rx := .hunt
  inbuf := []
  handlerStopped := false
  tx := none
  resetCtl := r
  dram := s.dram
  pending := s.pending

/-- The reset ends: the straps are sampled and READY is queued (R173, R188, R189). -/
def State.endReset (s : State) (p : StrapPins) : State :=
  let s := s.beginReset s.resetCtl
  let payload := readyPayload s.resetCtl.cause (strapRate p) (strapDebounce p)
  { s with ctl := { Ctl.resetValues (strapRate p) (strapDebounce p) with
      outq := [{ kind := .notice .ready, tag := 0, payload := payload }], freeDraws := s.ctl.freeDraws } }

/-- Change what holds the reset; with the last cause gone, the reset ends (R173). -/
def State.release (s : State) (r : ResetCtl) (p : StrapPins) : State :=
  let s := { s with resetCtl := r }
  if r.holds then s else s.endReset p

/-- The reset pin falls (R173): a reset begins, or the one that goes on takes its cause, unless the supply holds it, and
ends when the pin rises. -/
def State.pinFalls (s : State) : State :=
  let r := s.resetCtl
  let cause := if r.supplyBad then .powerOn else .resetPin
  s.beginReset { pinLow := true, supplyBad := r.supplyBad, timer := false, cause := cause }

/-- The supply falls below its valid level (R173). The millisecond of a PART_RESET goes on beside it (R187); the cause is
POWER_ON (DEDUCED, log 26). -/
def State.supplyFalls (s : State) : State :=
  s.beginReset { s.resetCtl with supplyBad := true, cause := .powerOn }

/-- The last byte of the frame has been sent (R180); after the DONE of a PART_RESET a reset begins (R187). -/
def State.sent (s : State) : State :=
  match s.tx with
  | none => s
  | some t =>
    if t.resetAfter then s.beginReset { s.resetCtl with timer := true, cause := .request } else { s with tx := none }

end Sys2Proof.Machine
end

