-- ==== Sys2Proof/Machine/LineCommands.lean ====
section
/-! DEFINITION. Meanings of the commands at the control line: bytes in, the receive gap, frames out. -/

namespace Sys2Proof.Machine

/-- FRAME_RECEIVED (R175, R177, log 7): the bytes of a frame, or any run of bytes, taken from RXD in order. -/
def execFrameReceived (bytes : List RxByte) (s : State) : Host.Outcome State Fault Refusal :=
  .next (s.run fun s => bytes.foldl State.rxByte s)

/-- RECEIVE_GAP_TIMEOUT (R175). -/
def execReceiveGapTimeout (s : State) : Host.Outcome State Fault Refusal :=
  .next (s.run State.gapExpired)

/-- TRANSMIT_START (R180, R176, R57). -/
def execTransmitStart (s : State) : Host.Outcome State Fault Refusal :=
  .next (s.run State.transmit)

/-- FRAME_SENT (R180, R187). -/
def execFrameSent (s : State) : Host.Outcome State Fault Refusal :=
  .next (s.run State.sent)

end Sys2Proof.Machine
end

