-- ==== Sys2Proof/Machine/LinkEvents.lean ====
section
/-! DEFINITION. What arrives on a block link and how a transaction ends there (08). -/

namespace Sys2Proof.Machine

/-- A transaction's end is handed to the port that owns the link (R155, R162, R163). -/
def Ctl.endTxn (c : Ctl) (p : PortId) (f : Flight) (o : TxnOutcome) (capacity : Nat) (serial : Serial) : Ctl :=
  let c := c.setLink p (c.link p).finish
  match p with
  | .card n => c.cardTxnEnd n f o capacity serial
  | .drive d => c.driveTxnEnd d f o capacity serial

/-! ## Data blocks -/

/-- Slab and place in it, in blocks, of the next block a READ in flight delivers: the reader's span, the scan's chunk,
or the span read back by an ACTIVE context (R160, R125, R99; log 24). -/
def Ctl.blockPlace (c : Ctl) (p : PortId) (f : Flight) : Option (SlabNo × Nat) :=
  match p with
  | .card n =>
    match (c.card n).reader with
    | some r => some (r.slab, r.next - firstBlock (c.slab r.slab).offset + f.blocks)
    | none => (c.card n).scan.slab.map fun x => (x, f.blocks)
  | .drive d =>
    if (c.drive d).readAbandoned then none
    else (c.drive d).context.bind fun k => k.span.map fun sp => (verifySlab d, k.nextBlock - firstBlock sp.offset + f.blocks)

/-- Place a block of data in its slab (R160). A place lies within the slab's 128 blocks. -/
def State.placeBlock (s : State) (p : PortId) (f : Flight) (data : List Byte) : State :=
  match s.ctl.blockPlace p f with
  | none => s
  | some (x, i) => if i < 128 then { s with dram := writeBytes s.dram (slabAddr x (i * 512)) (data.take 512) } else s

/-- The check of a data block is right (R158, R160): over its 512 bytes (log 9). -/
def blockCheckOk (data : List Byte) (check : BitVec 16) : Bool := data.length == 512 && crc16 data == check

/-- Replace the flight of a port's link. -/
def Ctl.setFlight (c : Ctl) (p : PortId) (f : Flight) : Ctl := c.setLink p { c.link p with cond := .inFlight f }

/-- A data block arrives (R159, R160). -/
def State.dataBlock (s : State) (p : PortId) (seq : Byte) (data : List Byte) (check : BitVec 16) : State :=
  match (s.ctl.link p).flight with
  | none => s
  | some f =>
    let ok := blockCheckOk data check
    if ok ∧ seq ≠ f.seq then s
    else if f.kind = .read ∧ f.blocks < f.count then
      let s := s.placeBlock p f data
      { s with ctl := s.ctl.setFlight p { f with blocks := f.blocks + 1, checkFailed := f.checkFailed || !ok } }
    else { s with ctl := s.ctl.setFlight p { f with checkFailed := true } }

/-! ## Status records -/

/-- The fields a status record's check covers, in the table's order (R158, 8.5; byte layout log 10). -/
def statusFields (seq code : Byte) (identity : Option (BitVec 48 × Serial)) : List Byte :=
  [seq, code] ++
    match identity with
    | none => []
    | some (capacity, serial) => leBytes 6 capacity.toNat ++ serial.toList

/-- The outcome a status record forms (R162). -/
def statusOutcome (f : Flight) (checkOk : Bool) (code : Byte) : TxnOutcome :=
  if !checkOk then .linkCheck
  else
    match statusCode? code with
    | none => .linkCheck
    | some o =>
      if f.checkFailed then .linkCheck
      else if f.kind = .read ∧ o = .good ∧ f.blocks < f.count then .linkCheck
      else o

/-- A status record arrives (R159, R162). -/
def Ctl.statusRecord (c : Ctl) (p : PortId) (seq code : Byte) (identity : Option (BitVec 48 × Serial))
    (check : BitVec 16) : Ctl :=
  match (c.link p).flight with
  | none => c
  | some f =>
    let ok := crc16 (statusFields seq code identity) == check
    if ok ∧ seq ≠ f.seq then c
    else
      let id := identity.getD (0, zeroSerial)
      c.endTxn p f (statusOutcome f ok code) id.1.toNat id.2

/-! ## Timers -/

/-- The timer of the transaction in flight expires (R163). -/
def Ctl.linkTimeout (c : Ctl) (p : PortId) : Ctl :=
  match (c.link p).flight with
  | none => c
  | some f => c.endTxn p f .timeout 0 zeroSerial

/-- Issue the IDENTIFY of a port that entered IDENTIFYING while its link was RESETTING (log 23). -/
def Ctl.identifyIfWaiting (c : Ctl) (p : PortId) : Ctl :=
  match p with
  | .card n => if (c.card n).state = .identifying then c.cardIdentify n else c
  | .drive d => if (c.drive d).state = .identifying then c.driveIssue d .identify 0 0 else c

/-- A link has been RESETTING for 2 ms (R164, R155). -/
def Ctl.linkResetEnds (c : Ctl) (p : PortId) : Ctl :=
  if (c.link p).cond = .resetting then (c.setLink p { c.link p with cond := .idle }).identifyIfWaiting p else c

/-! ## What a WRITE sends -/

/-- The data blocks of the WRITE in flight on drive port d, each with its check (R161, R141). -/
def State.writeData (s : State) (d : DriveNo) : List (List Byte × BitVec 16) :=
  match (s.ctl.drive d).link.flight, (s.ctl.drive d).writing with
  | some f, some w =>
    if f.kind = .write then
      (List.range f.count).map fun i =>
        let place := w.next - firstBlock (s.ctl.slab w.slab).offset + i
        let block := readBytes s.dram (slabAddr w.slab (place * 512)) 512
        (block, crc16 block)
    else []
  | _, _ => []

end Sys2Proof.Machine
end

