-- ==== Sys2Proof/Machine/LinkCommands.lean ====
section
/-! DEFINITION. Meanings of the commands on the block links (08). -/

namespace Sys2Proof.Machine

/-- LINK_RESET_EXPIRY (R164, R155). -/
def execLinkResetExpiry (port : PortId) (s : State) : Host.Outcome State Fault Refusal :=
  .next (s.runCtl fun c => c.linkResetEnds port)

/-- DATA_BLOCK_RECEIVED (R159, R160). -/
def execDataBlockReceived (port : PortId) (seq : Byte) (data : List Byte) (check : BitVec 16) (s : State) : Host.Outcome State Fault Refusal :=
  .next (s.run fun s => s.dataBlock port seq data check)

/-- STATUS_RECORD_RECEIVED (R159, R162). -/
def execStatusRecordReceived (port : PortId) (seq code : Byte) (identity : Option (BitVec 48 × Serial))
    (check : BitVec 16) (s : State) : Host.Outcome State Fault Refusal :=
  .next (s.runCtl fun c => c.statusRecord port seq code identity check)

/-- LINK_TIMEOUT (R163). -/
def execLinkTimeout (port : PortId) (s : State) : Host.Outcome State Fault Refusal :=
  .next (s.runCtl fun c => c.linkTimeout port)

end Sys2Proof.Machine
end

