-- ==== Sys2Proof/Machine/PresenceCommands.lean ====
section
/-! DEFINITION. Meanings of the samples of PRESENT and of what a sample brings about (6.2, 7.2). Each named command is a sample whose
condition holds; where it does not hold, the command changes nothing (log 1, log 8). -/

namespace Sys2Proof.Machine

/-- CARD_INSERTION_BEGIN (R116): a high sample at an EMPTY port. -/
def execCardInsertionBegin (n : CardNo) (s : State) : Host.Outcome State Fault Refusal :=
  .next (s.runCtl fun c => if (c.card n).state = .empty then c.cardSample n true else c)

/-- CARD_SETTLED (R116): the high sample that brings the high run to N in SETTLING. -/
def execCardSettled (n : CardNo) (s : State) : Host.Outcome State Fault Refusal :=
  .next (s.runCtl fun c =>
    if (c.card n).state = .settling ∧ c.debounce ≤ (c.card n).highRun + 1 then c.cardSample n true else c)

/-- CARD_REMOVAL (R117): the low sample that brings the low run to N in any state but EMPTY. -/
def execCardRemoval (n : CardNo) (s : State) : Host.Outcome State Fault Refusal :=
  .next (s.runCtl fun c =>
    if c.removalDue n then c.cardLow s.dram n else c)

/-- DRIVE_ATTACH_BEGIN (R135): a high sample at an ABSENT port. -/
def execDriveAttachBegin (d : DriveNo) (s : State) : Host.Outcome State Fault Refusal :=
  .next (s.runCtl fun c => if (c.drive d).state = .absent then c.driveSample d true else c)

/-- DRIVE_SETTLED (R135): the high sample that brings the high run to N in SETTLING. -/
def execDriveSettled (d : DriveNo) (s : State) : Host.Outcome State Fault Refusal :=
  .next (s.runCtl fun c =>
    if (c.drive d).state = .settling ∧ c.debounce ≤ (c.drive d).highRun + 1 then c.driveSample d true else c)

/-- DRIVE_ABSENCE (R136): the low sample that brings the low run to N in any state but ABSENT. -/
def execDriveAbsence (d : DriveNo) (s : State) : Host.Outcome State Fault Refusal :=
  .next (s.runCtl fun c =>
    if (c.drive d).state ≠ .absent ∧ c.debounce ≤ (c.drive d).lowRun + 1 then c.driveSample d false else c)

/-- PRESENT_SAMPLE (R116, R135): one sample at one port, with all it brings about. -/
def execPresentSample (port : PortId) (high : Bool) (s : State) : Host.Outcome State Fault Refusal :=
  .next (s.runCtl fun c =>
    match port with
    | .card n => if high then c.cardSample n true else c.cardLow s.dram n
    | .drive d => c.driveSample d high)

end Sys2Proof.Machine
end

