-- ==== Sys2Proof/Machine/RequestCommands.lean ====
section
/-! DEFINITION. Meanings of the requests: the handler takes the head frame, if it is of the command's kind (R178, log 6). -/

namespace Sys2Proof.Machine

/-- BAD_KIND_REQUEST: a frame whose KIND names no request is refused BAD_KIND (R178, R179). -/
def execBadKindRequest (s : State) : Host.Outcome State Fault Refusal :=
  .next <|
    match s.nextFrame with
    | some f => if isRequestCode f.kind then s else s.answer f (.error .badKind)
    | none => s

/-- IDENT (R184). -/
def execIdent (s : State) : Host.Outcome State Fault Refusal :=
  .next (s.request .ident reqIdent)

/-- PART_RESET (R187): DONE is queued and the handler stops; a payload makes it BAD_LENGTH (R190). -/
def execPartReset (s : State) : Host.Outcome State Fault Refusal :=
  .next <|
    match s.nextFrame with
    | some f =>
      if f.kind = MsgKind.partReset.code then
        { s.answer f (reqPartReset f.payload s.ctl) with handlerStopped := f.payload.isEmpty }
      else s
    | none => s

/-- NOTICE_SET (R183). -/
def execNoticeSet (s : State) : Host.Outcome State Fault Refusal :=
  .next (s.request .noticeSet reqNoticeSet)

/-- PORT_QUERY (R185, R133, R154). -/
def execPortQuery (s : State) : Host.Outcome State Fault Refusal :=
  .next (s.request .portQuery reqPortQuery)

/-- LAMP_SET (R113). -/
def execLampSet (s : State) : Host.Outcome State Fault Refusal :=
  .next (s.request .lampSet reqLampSet)

/-- JOB_OPEN (R4, R5). -/
def execJobOpen (s : State) : Host.Outcome State Fault Refusal :=
  .next (s.request .jobOpen reqJobOpen)

/-- JOB_START (R6). -/
def execJobStart (s : State) : Host.Outcome State Fault Refusal :=
  .next (s.request .jobStart reqJobStart)

/-- FILE_ADD (R36 to R39, R42). -/
def execFileAdd (s : State) : Host.Outcome State Fault Refusal :=
  .next (s.request .fileAdd reqFileAdd)

/-- JOB_CLOSE (R7). -/
def execJobClose (s : State) : Host.Outcome State Fault Refusal :=
  .next (s.request .jobClose reqJobClose)

/-- JOB_SUSPEND (R19 to R21). -/
def execJobSuspend (s : State) : Host.Outcome State Fault Refusal :=
  .next (s.request .jobSuspend reqJobSuspend)

/-- JOB_RESUME (R17, R23). -/
def execJobResume (s : State) : Host.Outcome State Fault Refusal :=
  .next (s.request .jobResume reqJobResume)

/-- JOB_DROP (R18, R27). -/
def execJobDrop (s : State) : Host.Outcome State Fault Refusal :=
  .next (s.request .jobDrop reqJobDrop)

/-- JOB_STOP (R24 to R26). -/
def execJobStop (s : State) : Host.Outcome State Fault Refusal :=
  .next (s.request .jobStop reqJobStop)

/-- JOB_CLEAR (R30). -/
def execJobClear (s : State) : Host.Outcome State Fault Refusal :=
  .next (s.request .jobClear reqJobClear)

/-- JOB_FREE (R31). -/
def execJobFree (s : State) : Host.Outcome State Fault Refusal :=
  .next (s.request .jobFree reqJobFree)

/-- JOB_QUERY (R32). -/
def execJobQuery (s : State) : Host.Outcome State Fault Refusal :=
  .next (s.request .jobQuery reqJobQuery)

/-- SCAN_START (R166, R167). -/
def execScanStart (s : State) : Host.Outcome State Fault Refusal :=
  .next (s.request .scanStart reqScanStart)

/-- SCAN_STOP (R170). -/
def execScanStop (s : State) : Host.Outcome State Fault Refusal :=
  .next (s.request .scanStop (reqScanStop s.dram))

end Sys2Proof.Machine
end

