-- ==== Sys2Proof/Machine/ResetCommands.lean ====
section
/-! DEFINITION. Meanings of the commands that begin and end a reset (R173, R187 to R189). -/

namespace Sys2Proof.Machine

/-- PART_RESET_TIMER_EXPIRY (R187): the millisecond of a PART_RESET is over. -/
def execPartResetTimerExpiry (straps : StrapPins) (s : State) : Host.Outcome State Fault Refusal :=
  .next (if s.resetCtl.timer then s.release { s.resetCtl with timer := false } straps else s)

/-- RESET_PIN_ASSERT (R173). -/
def execResetPinAssert (s : State) : Host.Outcome State Fault Refusal :=
  .next (if s.resetCtl.pinLow then s else s.pinFalls)

/-- RESET_PIN_RELEASE (R173). -/
def execResetPinRelease (straps : StrapPins) (s : State) : Host.Outcome State Fault Refusal :=
  .next (if s.resetCtl.pinLow then s.release { s.resetCtl with pinLow := false } straps else s)

/-- SUPPLY_FAIL (R173). -/
def execSupplyFail (s : State) : Host.Outcome State Fault Refusal :=
  .next (if s.resetCtl.supplyBad then s else s.supplyFalls)

/-- SUPPLY_VALID (R173). -/
def execSupplyValid (straps : StrapPins) (s : State) : Host.Outcome State Fault Refusal :=
  .next (if s.resetCtl.supplyBad then s.release { s.resetCtl with supplyBad := false } straps else s)

end Sys2Proof.Machine
end

