-- ==== Sys2Proof/Machine/UnitCommands.lean ====
section
/-! DEFINITION. Meanings of the commands of the digest unit (04), the blank checker (09) and the lamps (5.4). -/

namespace Sys2Proof.Machine

/-- DIGEST_START (R89). -/
def execDigestStart (s : State) : Host.Outcome State Fault Refusal :=
  .next (s.runCtl Ctl.digestBegin)

/-- DIGEST_COMPUTATION_END (R91, R92): the sums are taken over the slab's first *length* bytes (R81, R82, log 25). -/
def execDigestComputationEnd (s : State) : Host.Outcome State Fault Refusal :=
  .next (s.runCtl fun c =>
    match c.digest.busy with
    | none => c
    | some x =>
      let sums := partialDigest (slabWords s.dram x (c.slab x).len)
      c.digestFinish x sums.1 sums.2)

/-- BLANK_CHECK_END (R169): the blank checker finishes with the slab of a scan in CHECKING (log 25). -/
def execBlankCheckEnd (n : CardNo) (s : State) : Host.Outcome State Fault Refusal :=
  .next (s.runCtl fun c =>
    match (c.card n).scan.phase, (c.card n).scan.slab with
    | .checking, some x => c.examinationEnd n ((c.card n).scan.firstResidue s.dram x)
    | _, _ => c)

/-- LAMP_BLINK_TOGGLE (R112). -/
def execLampBlinkToggle (n : CardNo) (s : State) : Host.Outcome State Fault Refusal :=
  .next (s.runCtl fun c => c.modCard n CardPort.toggle)

end Sys2Proof.Machine
end

