-- ==== Sys2Proof/Machine/Dispatch.lean ====
section
/-! DEFINITION. One arm per command: its meaning. -/

namespace Sys2Proof.Machine

def exec (i : Instr) (s : State) : Host.Outcome State Fault Refusal :=
  match i with
  | .frameReceived bytes => Sys2Proof.Machine.execFrameReceived bytes s
  | .receiveGapTimeout => Sys2Proof.Machine.execReceiveGapTimeout s
  | .badKindRequest => Sys2Proof.Machine.execBadKindRequest s
  | .ident => Sys2Proof.Machine.execIdent s
  | .partReset => Sys2Proof.Machine.execPartReset s
  | .noticeSet => Sys2Proof.Machine.execNoticeSet s
  | .portQuery => Sys2Proof.Machine.execPortQuery s
  | .lampSet => Sys2Proof.Machine.execLampSet s
  | .jobOpen => Sys2Proof.Machine.execJobOpen s
  | .jobStart => Sys2Proof.Machine.execJobStart s
  | .fileAdd => Sys2Proof.Machine.execFileAdd s
  | .jobClose => Sys2Proof.Machine.execJobClose s
  | .jobSuspend => Sys2Proof.Machine.execJobSuspend s
  | .jobResume => Sys2Proof.Machine.execJobResume s
  | .jobDrop => Sys2Proof.Machine.execJobDrop s
  | .jobStop => Sys2Proof.Machine.execJobStop s
  | .jobClear => Sys2Proof.Machine.execJobClear s
  | .jobFree => Sys2Proof.Machine.execJobFree s
  | .jobQuery => Sys2Proof.Machine.execJobQuery s
  | .scanStart => Sys2Proof.Machine.execScanStart s
  | .scanStop => Sys2Proof.Machine.execScanStop s
  | .transmitStart => Sys2Proof.Machine.execTransmitStart s
  | .frameSent => Sys2Proof.Machine.execFrameSent s
  | .partResetTimerExpiry straps => Sys2Proof.Machine.execPartResetTimerExpiry straps s
  | .resetPinAssert => Sys2Proof.Machine.execResetPinAssert s
  | .resetPinRelease straps => Sys2Proof.Machine.execResetPinRelease straps s
  | .supplyFail => Sys2Proof.Machine.execSupplyFail s
  | .supplyValid straps => Sys2Proof.Machine.execSupplyValid straps s
  | .linkResetExpiry port => Sys2Proof.Machine.execLinkResetExpiry port s
  | .cardInsertionBegin n => Sys2Proof.Machine.execCardInsertionBegin n s
  | .cardSettled n => Sys2Proof.Machine.execCardSettled n s
  | .cardRemoval n => Sys2Proof.Machine.execCardRemoval n s
  | .driveAttachBegin d => Sys2Proof.Machine.execDriveAttachBegin d s
  | .driveSettled d => Sys2Proof.Machine.execDriveSettled d s
  | .driveAbsence d => Sys2Proof.Machine.execDriveAbsence d s
  | .dataBlockReceived port seq data check => Sys2Proof.Machine.execDataBlockReceived port seq data check s
  | .statusRecordReceived port seq code identity check => Sys2Proof.Machine.execStatusRecordReceived port seq code identity check s
  | .linkTimeout port => Sys2Proof.Machine.execLinkTimeout port s
  | .digestStart => Sys2Proof.Machine.execDigestStart s
  | .digestComputationEnd => Sys2Proof.Machine.execDigestComputationEnd s
  | .blankCheckEnd n => Sys2Proof.Machine.execBlankCheckEnd n s
  | .lampBlinkToggle n => Sys2Proof.Machine.execLampBlinkToggle n s
  | .presentSample port high => Sys2Proof.Machine.execPresentSample port high s

end Sys2Proof.Machine
end

