-- ==== Sys2Proof/Safety.lean ====
section
/-! DEFINITION. The terms in which the statements speak: what it is for the handler to take a request, the two replies,
the availability table of 1.3 row by row, and the invariants of the part. -/

namespace Sys2Proof.Machine

/-! ## Requests -/

/-- The handler takes frame f next (R178), and f is a request of kind k. -/
def State.Takes (s : State) (k : MsgKind) (f : RxFrame) : Prop :=
  s.inReset = false ∧ s.handlerStopped = false ∧ s.ctl.replyCount < 8 ∧ s.inbuf.head? = some f ∧ f.kind = k.code

/-- f leaves the buffer and a reply of the given kind with its tag joins the tail of the queue; nothing else changes. -/
def State.replied (s : State) (f : RxFrame) (k : EntryKind) (payload : List Byte) : State :=
  { s with
    ctl := { s.ctl with outq := s.ctl.outq ++ [{ kind := k, tag := f.tag, payload := payload }] }
    inbuf := s.inbuf.tail }

/-- f is answered REFUSED with a reason, and no block changes (R179). -/
def State.refusedFor (s : State) (f : RxFrame) (r : Reason) : State := s.replied f (.refused f.kind) [f.kind, r.code]

/-- f is answered DONE with these fields, and nothing else changes. -/
def State.doneOnly (s : State) (f : RxFrame) (fields : List Byte) : State :=
  s.replied f (.done f.kind) (f.kind :: fields)

/-- In t the reply to f is DONE with these fields, at the tail of the queue, f has left the buffer, and outside the
shared state nothing differs from s. -/
def State.DoneIn (s t : State) (f : RxFrame) (fields : List Byte) : Prop :=
  t.ctl.outq.getLast? = some { kind := .done f.kind, tag := f.tag, payload := f.kind :: fields }
    ∧ t = { s with ctl := t.ctl, inbuf := s.inbuf.tail }

/-- The commands that are requests, with their kinds. -/
def requestKind : Instr → Option MsgKind
  | .ident => some .ident
  | .partReset => some .partReset
  | .noticeSet => some .noticeSet
  | .portQuery => some .portQuery
  | .lampSet => some .lampSet
  | .jobOpen => some .jobOpen
  | .jobStart => some .jobStart
  | .fileAdd => some .fileAdd
  | .jobClose => some .jobClose
  | .jobSuspend => some .jobSuspend
  | .jobResume => some .jobResume
  | .jobDrop => some .jobDrop
  | .jobStop => some .jobStop
  | .jobClear => some .jobClear
  | .jobFree => some .jobFree
  | .jobQuery => some .jobQuery
  | .scanStart => some .scanStart
  | .scanStop => some .scanStop
  | _ => none

/-- The availability table of 1.3, one row per request; `none` is taken, subject to the request's own checks. JOB_OPEN
and the requests that name no job are not in the table. -/
def availability : MsgKind → JobState → Option Reason
  | k, .free => if k = .jobQuery then none else some .noJob
  | .fileAdd, .stopping | .fileAdd, .ended => some .wrongState
  | .fileAdd, .faulted => some .locked
  | .fileAdd, _ => none
  | .jobStart, .opened => none
  | .jobStart, .faulted => some .locked
  | .jobStart, _ => some .wrongState
  | .jobClose, .stopping | .jobClose, .ended => some .wrongState
  | .jobClose, .faulted => some .locked
  | .jobClose, _ => none
  | .jobSuspend, .running | .jobSuspend, .held | .jobSuspend, .suspending => none
  | .jobSuspend, .faulted => some .locked
  | .jobSuspend, _ => some .wrongState
  | .jobResume, .held | .jobResume, .suspended => none
  | .jobResume, .faulted => some .locked
  | .jobResume, _ => some .wrongState
  | .jobDrop, .stopping | .jobDrop, .ended => some .wrongState
  | .jobDrop, .faulted => some .locked
  | .jobDrop, _ => none
  | .jobStop, .ended => some .wrongState
  | .jobStop, _ => none
  | .jobClear, .faulted => none
  | .jobClear, _ => some .wrongState
  | .jobFree, .opened | .jobFree, .ended => none
  | .jobFree, .faulted => some .locked
  | .jobFree, _ => some .wrongState
  | _, _ => none

/-- Payload lengths of the requests that name a job, but FILE_ADD (10.7). -/
def jobPayloadLength : MsgKind → Option Nat
  | .jobStart | .jobClose | .jobResume | .jobStop | .jobClear | .jobFree | .jobQuery => some 1
  | .jobSuspend | .jobDrop => some 2
  | _ => none

/-- An extent list as FILE_ADD carries it: its count, then its extents (R190). -/
def listBytes (l : Nat × List Extent) : List Byte :=
  BitVec.ofNat 8 l.1 :: l.2.flatMap fun e => leBytes 6 e.start ++ leBytes 4 e.count

/-- The payload of a FILE_ADD (R191): job 1, file id 4, L 5, the source list, the destination lists. -/
def FileAddReq.payload (q : FileAddReq) : List Byte :=
  q.job :: leBytes 4 q.id ++ leBytes 5 q.len ++ listBytes q.source ++ q.dests.flatMap listBytes

/-- The values of a FILE_ADD fit their fields (R190, R191). -/
def FileAddReq.Fits (q : FileAddReq) : Prop :=
  q.id < 2 ^ 32 ∧ q.len < 2 ^ 40
    ∧ ∀ l ∈ q.source :: q.dests, l.1 = l.2.length ∧ l.1 < 256 ∧ ∀ e ∈ l.2, e.start < 2 ^ 48 ∧ e.count < 2 ^ 32

/-- The last switch the settings of a NOTICE_SET give to a notice kind, or the value it had (R183). -/
def lastSwitch (kind : Byte) : Bool → List (Byte × Byte) → Bool
  | old, [] => old
  | old, (k, v) :: rest => lastSwitch kind (if k = kind then v != 0 else old) rest

/-! ## Frames over the shared state -/

/-- Every job but n, every file of another job, and every block that no job request reaches are the same. -/
def Ctl.OtherJobsSame (c c' : Ctl) (n : CardNo) : Prop :=
  (∀ m, m ≠ n → c'.job m = c.job m ∧ c'.queue m = c.queue m)
    ∧ c'.notices = c.notices ∧ c'.linkFault = c.linkFault ∧ c'.rateCode = c.rateCode ∧ c'.debounce = c.debounce

/-- The drives, the digest unit and the other card ports are the same. -/
def Ctl.OtherPortsSame (c c' : Ctl) (n : CardNo) : Prop :=
  (∀ m, m ≠ n → c'.card m = c.card m) ∧ c'.drives = c.drives ∧ c'.digest = c.digest ∧ c'.fillSeq = c.fillSeq

/-! ## Outcomes of transactions and what follows them -/

/-- A failed attempt (R122, R147). -/
def TxnOutcome.IsFailedAttempt (o : TxnOutcome) : Prop := o = .linkCheck ∨ o = .notReady ∨ o = .timeout

/-- A failure at once (R122, R147). -/
def TxnOutcome.IsFailureAtOnce (o : TxnOutcome) : Prop := o = .mediaError ∨ o = .rangeError ∨ o = .protectedMedium

/-- A link on which a command of the kind was just sent (R157). The blocks of a WRITE count as sent with it (log 37). -/
def Link.sent (l : Link) (kind : TxnKind) (start count grade period : Nat) : Link where
  cond := .inFlight
    { kind := kind, seq := l.seq + 1, start := start, count := count, grade := grade
      blocks := if kind = .write then count else 0, checkFailed := false, period := period }
  seq := l.seq + 1

/-- The job lets a span read that has begun go on, and drives work for it (R2, R126). -/
def Job.LetsWorkGoOn (j : Job) : Prop :=
  j.state = .running ∨ j.state = .held ∨ j.state = .faulted ∨ (j.state = .suspending ∧ j.suspend = .finish)

/-- The job record as ENDED(COMPLETE) leaves it (R8). -/
def Job.endedComplete (j : Job) : Job :=
  { j with
    state := .ended, endReason := .complete, holds := HoldSet.empty, suspend := .none, faultCause := .none }

/-- Block i of the chunk in slab x, counted in scan order, is blank under the scan's pattern (R169). -/
def Scan.BlankAt (q : Scan) (m : List Host.Cell) (x : SlabNo) (i : Nat) : Prop :=
  let place := if q.direction = .up then i else q.chunkSize - 1 - i
  let bytes := readBytes m (65536 * x.val + 512 * place) 512
  match q.pattern with
  | .zero => ∀ v ∈ bytes, v = 0x00
  | .ones => ∀ v ∈ bytes, v = 0xFF
  | .either => (∀ v ∈ bytes, v = 0x00) ∨ ∀ v ∈ bytes, v = 0xFF

/-- A stop or a removal may find k further blocks of the range examined: none outside CHECKING, and in CHECKING fewer
than the chunk and none but blank ones (R169, R170, R171; how many, log 36). -/
def Scan.MayHaveExamined (q : Scan) (m : List Host.Cell) (k : Nat) : Prop :=
  k = 0 ∨ ∃ x, q.phase = .checking ∧ q.slab = some x ∧ k < q.chunkSize ∧ ∀ i, i < k → q.BlankAt m x i

/-- The next block in scan order with `examined` blocks of the range examined (R170, R171). -/
def Scan.nextAfter (q : Scan) (examined : Nat) : Nat :=
  if q.direction = .up then q.first + examined else q.first + q.count - examined - 1

/-- No drive port holds a write entry, waiting or staged, of a slab of job n. -/
def Ctl.NoEntriesOf (c : Ctl) (n : CardNo) : Prop :=
  ∀ d, (∀ x ∈ (c.drive d).writeQueue, (c.slab x).job ≠ some n)
    ∧ ∀ g, (c.drive d).staged = some g → (c.slab g.slab).job ≠ some n

/-- Names of the files in the table are distinct and older than the next one (log 20). -/
def Ctl.FileNamesFresh (c : Ctl) : Prop :=
  (c.files.map (·.ref)).Nodup ∧ ∀ f ∈ c.files, f.ref.num < c.nextFile

/-! ## What an event makes of jobs and files

Each relates the shared state before the event to the one after it. -/

/-- Drive port d is lost or absent: what becomes of each job (R13, R14, R27, R103). Of an active job that holds d LIVE under
DROP, d is dropped: its results on d that are not final are DROPPED, its slabs owe d nothing, and with no LIVE destination
left it stops. Under HOLD it holds DEST_GONE(d) pending, a RUNNING job is HELD, its slabs still owe d what they did, and the
stored digests of its files WRITTEN on d are cleared. Every other job keeps its destinations and its hold set. -/
def Ctl.LosesDrive (c t : Ctl) (d : DriveNo) : Prop :=
  ∀ m : CardNo,
    let j := c.job m
    let j' := t.job m
    let loses := j.state ≠ .free ∧ j.state ≠ .ended ∧ ∃ e ∈ j.dests, e.port = d ∧ e.live = true
    let dests := j.dests.map fun e => if e.port = d then { e with live := false } else e
    let drained := j.state = .suspending ∧ j'.state = .suspended
    (¬loses → j'.dests = j.dests ∧ (j'.state = .ended ∨ j'.holds = j.holds))
      ∧ (loses → j.driveAction = .drop → j'.dests = dests ∧ j'.holds.destGone[d] = none
          ∧ (c.FileNamesFresh → ∀ g ∈ t.queue m, ∃ g0 ∈ c.queue m, g0.ref = g.ref ∧ (g0.isComplete = true → g = g0)
              ∧ (g0.isComplete = false → g.dests = g0.dests.map fun e =>
                  if e.port = d ∧ (e.result = .pending ∨ (e.result = .written ∧ j.verify = .readback)) then
                    { e with result := .dropped }
                  else e))
          ∧ (∀ x, (c.slab x).isFilledOf m = true → (t.slab x).pendingWrites[d] = false)
          ∧ ((∀ e ∈ dests, e.live = false) → j.state ≠ .stopping →
              (j'.state = .stopping ∨ j'.state = .ended) ∧ j'.endReason = .noDestination)
          ∧ ((∃ e ∈ dests, e.live = true) → j.holds.destGone[d] = none →
              j'.state = j.state ∨ j'.state = .ended ∨ drained))
      ∧ (loses → j.driveAction = .hold → j'.dests = j.dests
          ∧ (j'.state = .ended ∨ j'.holds = j.holds.setDest d (some .pending))
          ∧ (j'.state = (if j.state = .running then .held else j.state) ∨ j'.state = .ended ∨ drained)
          ∧ (j'.state = .ended → j.state = .stopping ∨ j.closed = true)
          ∧ (∀ g ∈ t.queue m, ∃ g0 ∈ c.queue m, g0.ref = g.ref ∧ g.dests = g0.dests.map fun e =>
              if e.port = d ∧ e.result = .written then { e with verA := 0, verB := 0, stored := false } else e)
          ∧ (j.state ≠ .stopping → ∀ x : SlabNo, x.val < 508 → (c.slab x).isFilledOf m = true →
              (c.slab x).pendingWrites[d] = true → (t.slab x).pendingWrites[d] = true))

/-- The source of file r has failed and its remaining work is withdrawn (R47, R79): from the verify queue and the context of
every drive port, and for each of its pool slabs from the digest FIFO and from every write queue and stage; a slab owes no
drive a write any more but one whose writing of it is in flight. -/
def Ctl.WithdrawsFile (c t : Ctl) (r : FileRef) : Prop :=
  ∀ d : DriveNo,
    let q := t.drive d
    r ∉ q.verifyQueue ∧ (∀ k, q.context = some k → k.file ≠ r)
      ∧ ∀ y : SlabNo, y.val < 508 → (c.slab y).isFilledOfFile r = true →
          y ∉ t.digest.fifo ∧ y ∉ q.writeQueue ∧ (∀ g, q.staged = some g → g.slab ≠ y)
            ∧ ((t.slab y).pendingWrites[d] = true → (c.slab y).pendingWrites[d] = true ∧ (t.slab y).inFlight[d] = true)

/-- From c to t the files named in `gone` retire from job n's queue, one after the other (R53, R56, R106). Each is COMPLETE
when it goes, with the id and length it was accepted with and, if it was COMPLETE in c, the outcome it had there; each puts
its FILE_DONE behind those that wait, of which at most one has left at the head. Files retired rises by their number, and
the clean mark stands while every outcome is GOOD. -/
def Ctl.Retires (c t : Ctl) (n : CardNo) (gone : List FileRef) : Prop :=
  ∃ files : List (FileRec × FileOutcome),
    files.map (·.1.ref) = gone
      ∧ (∀ p ∈ files, p.1.state = .complete p.2 ∧ ∀ g ∈ c.queue n, g.ref = p.1.ref →
          p.1.id = g.id ∧ p.1.len = g.len ∧ ∀ o, g.state = .complete o → p.2 = o)
      ∧ (∃ left, left ≤ 1 ∧ t.outq.filter (fun e => e.kind == .notice (.fileDone n)) =
          (c.outq.filter fun e => e.kind == .notice (.fileDone n)).drop left
            ++ files.map fun p =>
              { kind := .notice (.fileDone n), tag := 0, payload := p.1.donePayload p.2 (c.job n).verify })
      ∧ (t.job n).retired % 2 ^ 32 = ((c.job n).retired + files.length) % 2 ^ 32
      ∧ (t.job n).clean = ((c.job n).clean && files.all fun p => p.2 == .good)

/-- A notice of subject x with these contents waits in the output queue. -/
def Ctl.Tells (c : Ctl) (x : Subject) (payload : List Byte) : Prop :=
  ∃ e ∈ c.outq, e.kind = .notice x ∧ e.payload = payload

/-! ## What a drive port takes next -/

/-- The read of span sp of f, from file block `block`, is the ready verify read of d: of the span in hand, or of the span
at the context's next byte offset while the verify slab is FREE (R99, R144). -/
def Ctl.VerifyReadIs (c : Ctl) (d : DriveNo) (k : Context) (f : FileRec) (sp : Span) (block : Nat) : Prop :=
  (c.drive d).context = some k ∧ c.file? k.file = some f
    ∧ ((k.span = some sp ∧ block = k.nextBlock ∧ block < sp.offset / 512 + (sp.len + 511) / 512
          ∧ (c.drive d).link.carries .read = false)
        ∨ (k.span = none ∧ k.nextOffset < f.len ∧ (c.slab (verifySlab d)).state = .free
            ∧ sp = { offset := k.nextOffset, len := min 65536 (f.len - k.nextOffset) } ∧ block = k.nextOffset / 512))

/-- The writing entry of d, in slab x, goes on (R142) and has blocks left from file block `block`, which is the first not
written and not in the WRITE in flight (R143). -/
def Ctl.NextWriteIs (c : Ctl) (d : DriveNo) (x : SlabNo) (block : Nat) : Prop :=
  let s := c.slab x
  let sent := match (c.drive d).link.cond with
    | .inFlight f => if f.kind = .write then f.count else 0
    | _ => 0
  (∃ w, (c.drive d).writing = some w ∧ w.slab = x ∧ block = w.next + sent)
    ∧ block < s.offset / 512 + (s.len + 511) / 512
    ∧ ∃ n g e, s.job = some n ∧ s.file.bind c.file? = some g ∧ (c.job n).state ≠ .stopping
        ∧ (∃ m ∈ (c.job n).dests, m.port = d ∧ m.live = true)
        ∧ (g.dests.find? fun e => e.port == d) = some e ∧ e.result = .pending

/-- A write entry of slab x is eligible (R140). -/
def Ctl.EntryMayGo (c : Ctl) (x : SlabNo) : Prop := ∃ n, (c.slab x).job = some n ∧ (c.job n).LetsWorkGoOn

/-- The oldest eligible entry of d's write queue is x, between `pre` and `post` (R140). -/
def Ctl.OldestEntryIs (c : Ctl) (d : DriveNo) (pre : List SlabNo) (x : SlabNo) (post : List SlabNo) : Prop :=
  (c.drive d).writeQueue = pre ++ x :: post ∧ c.EntryMayGo x ∧ ∀ y ∈ pre, ¬c.EntryMayGo y

/-! ## Digests in any order -/

/-- Fold a list of partials, each with its word count and trailer count, into an accumulator. -/
def foldSpans (acc : Acc) (l : List (List Nat × Nat)) : Acc :=
  l.foldl (fun acc p => acc.fold p.1.length (p.2 % 65519) (partialDigest p.1).1 (partialDigest p.1).2) acc

/-- The spans of a file, each with the number of the words that follow it (R83). -/
def withTrailers : List (List Nat) → List (List Nat × Nat)
  | [] => []
  | w :: rest => (w, rest.flatten.length) :: withTrailers rest

/-! ## Invariants -/

/-- The DRAM list is canonical (Memory of INVENTORY.md). -/
def State.dramCanonical (s : State) : Bool := memWf s.dram

/-- Entries of the output queue about a subject. -/
def noticesOf (q : List OutEntry) (x : Subject) : Nat := q.countP fun e => e.kind == .notice x

/-- The output queue keeps the limits of R181: at most 64 entries, 16 FILE_DONE, 8 replies, and one entry for each
subject of every other kind. -/
def OutputLimits (q : List OutEntry) : Prop :=
  q.length ≤ 64 ∧ q.countP OutEntry.isFileDone ≤ 16 ∧ q.countP OutEntry.isReply ≤ 8
    ∧ (∀ n, noticesOf q (.jobState n) ≤ 1 ∧ noticesOf q (.progress n) ≤ 1 ∧ noticesOf q (.scanDone n) ≤ 1)
    ∧ (∀ p, noticesOf q (.portEvent p) ≤ 1) ∧ noticesOf q .linkFault ≤ 1 ∧ noticesOf q .ready ≤ 1

/-- Slabs 508 to 511 serve only as verify slabs, slabs 0 to 507 only as source or scan slabs, and what a reader or a
scan holds is a pool slab (R62). -/
def Ctl.SlabUseKept (c : Ctl) : Prop :=
  (∀ x : SlabNo, (c.slab x).purpose = .verify → 508 ≤ x.val)
    ∧ (∀ x : SlabNo, (c.slab x).purpose = .source ∨ (c.slab x).purpose = .scan → x.val < 508)
    ∧ (∀ n r, (c.card n).reader = some r → r.slab.val < 508)
    ∧ (∀ n x, (c.card n).scan.slab = some x → x.val < 508)

/-- What slabs a job may hold (R63, R76): none before it runs and after it has ended, else at most its quota. -/
def Job.slabLimit (j : Job) : Nat :=
  match j.state with
  | .free | .opened | .ended => 0
  | _ => j.quota

/-- A FREE slab serves no purpose; no FREE pool slab stands beside a waiting card port (R73); no job holds more source
slabs than it may (R76). -/
def Ctl.PoolShared (c : Ctl) : Prop :=
  (∀ x, (c.slab x).state = .free → (c.slab x).purpose = .none)
    ∧ (∀ x : SlabNo, x.val < 508 → (c.slab x).state = .free → ∀ n, c.waits n = none)
    ∧ ∀ n, c.sourceCount n ≤ (c.job n).slabLimit

/-- No WRITE on a card link (R128). -/
def Ctl.CardLinksOnlyRead (c : Ctl) : Prop := ∀ n, (c.card n).link.carries .write = false

/-- Every lamp in AUTO mode shows the pattern of R111's table. -/
def Ctl.LampsShown (c : Ctl) : Prop := ∀ n, (c.card n).lampMode = .auto → (c.card n).pattern = c.lampAuto n

end Sys2Proof.Machine
end

