-- ==== Sys2Proof/Certificates/Slice0/Obligations.lean ====
section
/-! DEFINITION. The statements for the provers. Each docstring says which part of the spec a statement formalises. -/

open Sys2Proof Sys2Proof.Machine

/-! ## The whole part -/

/-- A step runs the front command on the rest of the queue, and idles on an empty queue; the idling is the model's choice
(log 2). No command touches the queue of those that wait. -/
def Obligations.StepRunsTheFrontCommand : Prop :=
  (∀ (c : Instr) (rest : List Instr) (s : State), s.pending = c :: rest → step s = exec c { s with pending := rest })
    ∧ (∀ s : State, s.pending = [] → step s = .next s)
    ∧ ∀ (c : Instr) (s t : State), exec c s = .next t → t.pending = s.pending

/-- Memory is written by data blocks alone: every other command, resets and releases included, leaves every byte of
the DRAM as it was (R62, R188). -/
def Obligations.OnlyDataBlocksWriteMemory : Prop :=
  ∀ (c : Instr) (s t : State), (∀ p q d k, c ≠ .dataBlockReceived p q d k) → exec c s = .next t →
    ∀ a, readByte t.dram a = readByte s.dram a

/-- The DRAM list keeps its canonical form: an invariant of the model's representation (log 5). -/
def Obligations.DramFormKept : Prop :=
  ∀ s t : State, s.dramCanonical = true → step s = .next t → t.dramCanonical = true

/-- The limits of the output queue are kept by every step, from every state that meets them (R181). -/
def Obligations.OutputLimitsKept : Prop :=
  ∀ s t : State, OutputLimits s.ctl.outq → step s = .next t → OutputLimits t.ctl.outq

/-- Names of file records stay distinct (the model's own numbering, log 20, for R60). -/
def Obligations.FileNamesStayDistinct : Prop :=
  ∀ s t : State, s.ctl.FileNamesFresh → step s = .next t → t.ctl.FileNamesFresh

/-- Verify slabs and pool slabs keep their uses (R62). -/
def Obligations.SlabUseStaysApart : Prop :=
  ∀ s t : State, s.ctl.SlabUseKept → step s = .next t → t.ctl.SlabUseKept

/-- The wait list and the quota (R73, R76, R63): where no FREE pool slab stands beside a waiting port and each job holds
at most its quota of source slabs (and none while FREE, OPEN or ENDED), a step leaves it so. -/
def Obligations.PoolIsSharedByTheRules : Prop :=
  ∀ s t : State, s.ctl.PoolShared → step s = .next t → t.ctl.PoolShared

/-- A card link never carries a WRITE (R128). -/
def Obligations.CardsAreNeverWritten : Prop :=
  ∀ s t : State, s.ctl.CardLinksOnlyRead → step s = .next t → t.ctl.CardLinksOnlyRead

/-- Right after reset (State.reset) the six invariants hold. -/
def Obligations.ResetMeetsTheInvariants : Prop :=
  State.reset.dramCanonical = true ∧ OutputLimits State.reset.ctl.outq ∧ State.reset.ctl.FileNamesFresh
    ∧ State.reset.ctl.SlabUseKept ∧ State.reset.ctl.PoolShared ∧ State.reset.ctl.CardLinksOnlyRead

/-- A card port's speed grade never rises (takes a lower number) during one insertion, which is while the port stays
out of EMPTY (R121). -/
def Obligations.SpeedGradeNeverRises : Prop :=
  ∀ (s t : State) (n : CardNo), step s = .next t → (s.ctl.card n).state ≠ .empty → (t.ctl.card n).state ≠ .empty →
    (s.ctl.card n).grade ≤ (t.ctl.card n).grade

/-- Clearance (R107, R106). A job that enters ENDED with its four conditions met sets its port's cleared flag and clears
the unclean-end mark; one that enters ENDED with any of them failing leaves the cleared flag clear and sets the unclean-end
mark; and a step sets a cleared flag in no other way. Where a removal itself lets the job end, that the mark stands after
the step is the model's choice: the job is settled after the removal has cleared the marks (log 35). -/
def Obligations.ClearedOnlyAtACompleteEnd : Prop :=
  ∀ (s t : State) (n : CardNo), step s = .next t →
    let j := t.ctl.job n
    let p := t.ctl.card n
    let enters := (s.ctl.job n).state ≠ .ended ∧ j.state = .ended
    let all := j.endReason = .complete ∧ j.clean = true ∧ (p.state = .ready ∧ p.serial = j.serial) ∧ p.residue = false
    ((s.ctl.card n).cleared = false → p.cleared = true → enters ∧ all ∧ p.unclean = false)
      ∧ (enters → all → p.cleared = true ∧ p.unclean = false)
      ∧ (enters → ¬all → p.cleared = false ∧ p.unclean = true)

/-- A job's files leave its queue from the head alone and join at the tail alone, whatever the step: what a queue holds
after it is what it held with files added behind, each named newer than every file before the step, less some files in
front (R35, R56; JOB_FREE and a reset take all). While the job stays other than FREE, which leaves out JOB_FREE and a reset,
the files that leave are those that retire, and Ctl.Retires says what that does (R53, R56, R106). The test of a job's head
(R56, R57): without a COMPLETE head the job does not wait for room; with one and 16 FILE_DONE queued it waits; with fewer,
the head alone leaves the queue, its FILE_DONE joins the output queue, the turn is that job, files retired rises by one, the
clean mark follows the outcome, no other job or queue changes, and the new head is tested in the same way. -/
def Obligations.FilesLeaveFromTheHead : Prop :=
  (∀ (s t : State) (n : CardNo), s.ctl.FileNamesFresh → step s = .next t →
    ∃ added k,
      let held := ((s.ctl.queue n).map (·.ref)) ++ added
      (t.ctl.queue n).map (·.ref) = held.drop k ∧ (∀ r ∈ added, s.ctl.nextFile ≤ r.num)
        ∧ ((s.ctl.job n).state ≠ .free → (t.ctl.job n).state ≠ .free → s.ctl.Retires t.ctl n (held.take k)))
    ∧ ∀ (c : Ctl) (n : CardNo), c.FileNamesFresh →
      ((∀ f more, c.queue n = f :: more → f.isComplete = false) → c.testRetire n = c.setFileDoneWaiting n false)
        ∧ ∀ (f : FileRec) (more : List FileRec) (o : FileOutcome), c.queue n = f :: more → f.state = .complete o →
          (16 ≤ c.fileDoneCount → c.testRetire n = c.setFileDoneWaiting n true)
            ∧ (c.fileDoneCount < 16 →
                let t := c.retire f o
                let j := c.job n
                c.testRetire n = t.testRetire n ∧ t.queue n = more ∧ t.fileDoneTurn = n
                  ∧ t.outq.filter OutEntry.isFileDone = c.outq.filter OutEntry.isFileDone
                      ++ [{ kind := .notice (.fileDone n), tag := 0, payload := f.donePayload o j.verify }]
                  ∧ (t.job n).retired = (j.retired + 1) % 2 ^ 32 ∧ (t.job n).clean = (j.clean && o == .good)
                  ∧ ∀ m, m ≠ n → t.queue m = c.queue m ∧ t.job m = c.job m)

/-! ## The digest -/

/-- A span's partial digest (R82): both sums start at 0; a word w makes a the remainder of a + w and then b the remainder
of b and the new a; the result is the closed forms, word j of m carrying weight m − j + 1, each below P. -/
def Obligations.PartialDigestIsTheClosedForm : Prop :=
  (partialDigest [] = (0, 0)
    ∧ ∀ (ws : List Nat) (w : Nat),
        let a := ((partialDigest ws).1 + w) % 65519
        partialDigest (ws ++ [w]) = (a, ((partialDigest ws).2 + a) % 65519))
    ∧ ∀ ws : List Nat,
        partialDigest ws =
            (ws.sum % 65519, ((List.range ws.length).map fun j => (ws.length - j) * ws.getD j 0).sum % 65519)
          ∧ (partialDigest ws).1 < 65519 ∧ (partialDigest ws).2 < 65519

/-- When every span of a file has been folded once, in any order, into an accumulator at 0, 0, 0, it holds the digest
taken in one pass over all the words (R85). -/
def Obligations.DigestDoesNotDependOnFoldOrder : Prop :=
  ∀ (spans : List (List Nat)) (order : List (List Nat × Nat)), order.Perm (withTrailers spans) →
    foldSpans { a := 0, b := 0, words := 0 } order =
      { a := (partialDigest spans.flatten).1, b := (partialDigest spans.flatten).2, words := spans.flatten.length }

/-- DIGEST_START (R89, R83): the idle unit takes the head of the FIFO, with o, m and t' from the slab and file records
and its sums at 0. A busy unit or an empty FIFO: nothing changes (log 1). -/
def Obligations.DigestStartTakesTheHead : Prop :=
  (∀ (s : State) (x : SlabNo) (rest : List SlabNo) (r : FileRef) (f : FileRec), s.inReset = false →
    s.ctl.digest.busy = none → s.ctl.digest.fifo = x :: rest → (s.ctl.slab x).file = some r →
    s.ctl.file? r = some f →
    ∃ target, exec .digestStart s = .next { s with ctl := { s.ctl with digest :=
        { fifo := rest, busy := some x, target := target, o := (s.ctl.slab x).offset / 2,
          m := ((s.ctl.slab x).len + 1) / 2,
          t := ((f.len + 1) / 2 - (s.ctl.slab x).offset / 2 - ((s.ctl.slab x).len + 1) / 2) % 65519,
          a := 0, b := 0, words := 0, discard := false } } }
      ∧ ((s.ctl.slab x).purpose = .source → target = some (.source r))
      ∧ (∀ d, (s.ctl.slab x).purpose = .verify → (s.ctl.slab x).port = some (.drive d) → target = some (.verify d)))
    ∧ ∀ s : State, s.ctl.digest.busy ≠ none ∨ s.ctl.digest.fifo = [] → exec .digestStart s = .next s

/-- DIGEST_COMPUTATION_END on a source slab of a job that is not stopping (R91, R84, R87, R48, R60). Under the discard mark,
for a source already FAILED or UNREADABLE, and for a fold past W on a GOOD source, no record changes. A fold on a PENDING
source that stays below W is taken into the accumulator; one that reaches W makes the source GOOD, compares every stored
WRITTEN copy and returns the failure count to 0; one past W is refused, the source is UNREADABLE and every result that is
not final SKIPPED (R46, R47); this last of a file that is not QUEUED, since a file with a slab has been READING (R65). The
unit is idle in every case; that it names no target then is log 31. -/
def Obligations.SourceFoldIsAppliedRefusedOrDiscarded : Prop :=
  ∀ (s : State) (x : SlabNo) (r : FileRef) (f : FileRec), s.ctl.FileNamesFresh → s.inReset = false →
    s.ctl.digest.busy = some x → s.ctl.digest.target = some (.source r) → s.ctl.file? r = some f →
    (s.ctl.job r.job).state ≠ .stopping →
    let sums := partialDigest (wordsOf (readBytes s.dram (65536 * x.val) (s.ctl.slab x).len))
    let m := s.ctl.digest.m
    let acc : Acc :=
      { a := (f.acc.a + sums.1) % 65519
        b := (f.acc.b + sums.2 + s.ctl.digest.t * sums.1 % 65519) % 65519
        words := f.acc.words + m }
    let w := (f.len + 1) / 2
    let v := (s.ctl.job r.job).verify
    ∃ t, exec .digestComputationEnd s = .next t ∧ t.ctl.digest.busy = none ∧ t.ctl.digest.target = none
      ∧ (s.ctl.digest.discard = true → t.ctl.file? r = some f ∧ t.ctl.digest.fifo = s.ctl.digest.fifo)
      ∧ (s.ctl.digest.discard = false →
          (f.result = .failed ∨ f.result = .unreadable ∨ (f.result = .good ∧ w < f.acc.words + m) →
              t.ctl.file? r = some f)
            ∧ (f.result = .pending → f.acc.words + m < w → t.ctl.file? r = some { f with acc := acc })
            ∧ (f.result = .pending → f.acc.words + m = w →
                (t.ctl.job r.job).failures = 0
                  ∧ ∀ g, t.ctl.file? r = some g → g.result = .good ∧ g.acc = acc
                    ∧ g.dests = f.dests.map fun e =>
                        if e.result = .written ∧ e.stored = true then
                          { e with result := if acc.a = e.verA ∧ acc.b = e.verB then .verified else .mismatch }
                        else e)
            ∧ (f.result = .pending → w < f.acc.words + m → f.state ≠ .queued →
                ∀ g, t.ctl.file? r = some g → g.result = .unreadable ∧ g.acc = f.acc ∧ g.state ≠ .reading
                  ∧ g.dests = f.dests.map fun e =>
                      if e.result = .pending ∨ (e.result = .written ∧ v = .readback) then { e with result := .skipped }
                      else e))

/-- DIGEST_COMPUTATION_END on a verify slab (R92, R101, R84, R87, R104). Under the discard mark no result changes. Otherwise
a fold below W goes into the context's accumulator and its next span may follow; one that reaches W is stored as the
verify digest, compared at once when the source is GOOD, and ends the context; one past W is refused, makes a WRITTEN
result UNREADABLE and ends the context. Records are told of as far as the file has not retired. -/
def Obligations.VerifyFoldIsAppliedRefusedOrDiscarded : Prop :=
  ∀ (s : State) (x : SlabNo) (d : DriveNo), s.ctl.FileNamesFresh → s.inReset = false →
    s.ctl.digest.busy = some x → s.ctl.digest.target = some (.verify d) →
    ∃ t, exec .digestComputationEnd s = .next t ∧ t.ctl.digest.busy = none
      ∧ (t.ctl.slab (verifySlab d)).state ≠ .filled
      ∧ (s.ctl.digest.discard = true →
          ∀ q f g, s.ctl.file? q = some f → t.ctl.file? q = some g → g.dests = f.dests ∧ g.acc = f.acc)
      ∧ ∀ (k : Context) (f : FileRec), s.ctl.digest.discard = false → (s.ctl.drive d).context = some k →
          s.ctl.file? k.file = some f → k.file ∉ (s.ctl.drive d).verifyQueue →
          let sums := partialDigest (wordsOf (readBytes s.dram (65536 * x.val) (s.ctl.slab x).len))
          let m := s.ctl.digest.m
          let acc : Acc :=
            { a := (k.acc.a + sums.1) % 65519
              b := (k.acc.b + sums.2 + s.ctl.digest.t * sums.1 % 65519) % 65519
              words := k.acc.words + m }
          let w := (f.len + 1) / 2
          let left := ∀ k', (t.ctl.drive d).context = some k' → k'.file ≠ k.file
          (k.acc.words + m < w →
              (∃ k', (t.ctl.drive d).context = some k' ∧ k'.file = k.file ∧ k'.acc = acc ∧ k'.nextOffset = k.nextOffset)
                ∧ ∀ g, t.ctl.file? k.file = some g → g.dests = f.dests)
            ∧ (k.acc.words + m = w → left ∧ ∀ g, t.ctl.file? k.file = some g →
                g.dests = f.dests.map fun e =>
                  let e := if e.port = d then { e with verA := acc.a, verB := acc.b, stored := true } else e
                  if f.result = .good ∧ e.result = .written ∧ e.stored = true then
                    { e with result := if f.acc.a = e.verA ∧ f.acc.b = e.verB then .verified else .mismatch }
                  else e)
            ∧ (w < k.acc.words + m → left ∧ ∀ g, t.ctl.file? k.file = some g →
                g.dests = f.dests.map fun e =>
                  if e.port = d ∧ e.result = .written then { e with result := .unreadable } else e)

/-- The comparison of a GOOD file (R104): each destination that is WRITTEN with a stored digest becomes VERIFIED on
equal digests and MISMATCH otherwise; every other entry, and all else of the record, stays. The outcome fixed at COMPLETE
(R54): a good copy is VERIFIED, or WRITTEN under verify mode OFF. The test for completion (R53): a file that is not COMPLETE,
whose source result and every destination result are final, becomes COMPLETE with that outcome, all else of its record and
every other file as it stood, and its job's head is tested for retirement; it leaves any other file, and everything else, as
it stands. -/
def Obligations.DigestsAndCopiesDecideTheOutcome : Prop :=
  (∀ f : FileRec,
    (f.result ≠ .good → f.compare = f)
      ∧ (f.result = .good → { f.compare with dests := f.dests } = f ∧ f.compare.dests.length = f.dests.length
          ∧ ∀ (i : Nat) (h : i < f.dests.length) (h' : i < f.compare.dests.length),
              let e := f.dests[i]
              (e.result = .written ∧ e.stored = true →
                f.compare.dests[i] =
                  { e with result := if e.verA = f.acc.a ∧ e.verB = f.acc.b then .verified else .mismatch })
              ∧ (¬(e.result = .written ∧ e.stored = true) → f.compare.dests[i] = e))
      ∧ ∀ j : Job,
          let good := f.dests.countP fun e => e.result == .verified || (e.result == .written && j.verify == .off)
          (f.result = .good → j.clearance ≤ good → f.outcome j = .good)
            ∧ (f.result = .good → good < j.clearance → f.outcome j = .short)
            ∧ (f.result = .failed ∨ f.result = .unreadable → f.outcome j = .sourceFailed))
    ∧ ∀ (c : Ctl) (r : FileRef), c.FileNamesFresh →
      (c.file? r = none → c.testComplete r = c)
        ∧ ∀ f : FileRec, c.file? r = some f →
          let j := c.job r.job
          let final := f.result ≠ .pending
            ∧ ∀ e ∈ f.dests, e.result ≠ .pending ∧ (e.result = .written → j.verify = .off)
          (f.isComplete = true ∨ ¬final → c.testComplete r = c)
            ∧ (f.isComplete = false → final →
                ∃ before after, c.files = before ++ f :: after ∧ c.testComplete r =
                  ({ c with files := before ++ { f with state := .complete (f.outcome j) } :: after } : Ctl).testRetire
                    r.job)

/-! ## The line -/

/-- Encode and decode agree on the line: the bytes of any frame, taken from HUNT, put exactly its KIND, TAG and payload
at the tail of an input buffer with room (R174, R175, R177). With the buffer full the frame is discarded OVERRUN. -/
def Obligations.FrameBytesAreReceivedWhole : Prop :=
  ∀ (s : State) (kind tag : Byte) (payload : List Byte), s.inReset = false → s.rx = .hunt → payload.length ≤ 480 →
    let bytes := (frameBytes kind tag payload).map fun b => ({ data := b, framingError := false } : RxByte)
    (s.inbuf.length < 4 →
        exec (.frameReceived bytes) s =
          .next { s with inbuf := s.inbuf ++ [{ kind := kind, tag := tag, payload := payload }] })
      ∧ (4 ≤ s.inbuf.length →
        exec (.frameReceived bytes) s = .next { s with ctl := s.ctl.lineFault .overrun })

/-- A damaged frame is discarded whole: a frame whose two CHK bytes are not its check is a CHECK fault, one whose LEN is
above 480 a LENGTH fault at its second byte, and a framing error in any phase from LENGTH on a FRAMING fault; the receiver
is in HUNT again (R175). In HUNT a byte other than 0xA5, and any byte with a framing error, is dropped without trace. A
RECEIVE_GAP_TIMEOUT from LENGTH on is a GAP fault; in HUNT, where its timer does not run, it changes nothing (log 1). The
LINK_FAULT record (R176): a discard sets the kind, raises the count to at most 65,535, and while LINK_FAULT notices are
enabled updates the waiting notice in place or queues one; disabled, it queues nothing. -/
def Obligations.DamagedFramesAreDiscarded : Prop :=
  (∀ (s : State) (kind tag hi lo : Byte) (payload : List Byte), s.inReset = false → s.rx = .hunt →
    let clean := fun (b : Byte) => ({ data := b, framingError := false } : RxByte)
    let body := leBytes 2 payload.length ++ [kind, tag] ++ payload
    (payload.length ≤ 480 → [hi, lo] ≠ crcBytes (crc16 body) →
        exec (.frameReceived ((0xA5 :: body ++ [hi, lo]).map clean)) s = .next { s with ctl := s.ctl.lineFault .check })
      ∧ (480 < lo.toNat + 256 * hi.toNat →
        exec (.frameReceived ([0xA5, lo, hi].map clean)) s = .next { s with ctl := s.ctl.lineFault .length })
      ∧ (kind ≠ 0xA5 → exec (.frameReceived [clean kind]) s = .next s)
      ∧ exec (.frameReceived [{ data := kind, framingError := true }]) s = .next s
      ∧ exec .receiveGapTimeout s = .next s
      ∧ ∀ r : RxPhase, r ≠ .hunt →
          exec .receiveGapTimeout { s with rx := r } = .next { s with ctl := s.ctl.lineFault .gap }
            ∧ exec (.frameReceived [{ data := kind, framingError := true }]) { s with rx := r } =
                .next { s with ctl := s.ctl.lineFault .framing })
    ∧ ∀ (c : Ctl) (k : LineFault),
      let count := if c.linkFault.count < 65535 then c.linkFault.count + 1 else 65535
      let payload := faultKindCode (some k) :: [BitVec.ofNat 8 count, BitVec.ofNat 8 (count / 256)]
      let waiting := c.outq.any fun e => e.kind == .notice .linkFault
      (c.notices.linkFault = false → c.lineFault k = { c with linkFault := { kind := some k, count := count } })
        ∧ (c.notices.linkFault = true → waiting = false →
            c.lineFault k = { c with
              linkFault := { kind := some k, count := count }
              outq := c.outq ++ [{ kind := .notice .linkFault, tag := 0, payload := payload }] })
        ∧ (c.notices.linkFault = true → waiting = true →
            c.lineFault k = { c with
              linkFault := { kind := some k, count := count }
              outq := c.outq.map fun e => if e.kind = .notice .linkFault then { e with payload := payload } else e })

/-- TRANSMIT_START (R180, R176, R57): with the line idle the head entry leaves the queue and its frame is sent as it
stands. A LINK_FAULT's leaving returns the record's count to 0 and keeps the kind; the leaving of a FILE_DONE for whose
room no job waits, and of any other entry, changes nothing more. A busy line or an empty queue: nothing
changes (log 1). -/
def Obligations.TransmitterSendsTheHead : Prop :=
  (∀ (s : State) (e : OutEntry) (rest : List OutEntry), s.inReset = false → s.tx = none → s.ctl.outq = e :: rest →
    (e.kind ≠ .notice .linkFault →
      (e.isFileDone = true → ∀ n : CardNo, s.ctl.fileDoneWaiting[n] = false) →
        exec .transmitStart s = .next { s with
          ctl := { s.ctl with outq := rest }
          tx := some { bytes := frameBytes e.kind.code e.tag e.payload, resetAfter := e.kind == .done 0x02 } })
      ∧ (e.kind = .notice .linkFault →
        exec .transmitStart s = .next { s with
          ctl := { s.ctl with outq := rest, linkFault := { s.ctl.linkFault with count := 0 } }
          tx := some { bytes := frameBytes 0xC6 e.tag e.payload, resetAfter := false } }))
    ∧ ∀ s : State, s.tx ≠ none ∨ s.ctl.outq = [] → exec .transmitStart s = .next s

/-- The room of a FILE_DONE that leaves goes to the waiting job that comes next after the turn, wrapping from 7 to 0, in
whatever state that job is; its head file alone retires, the turn is that job, and its FILE_DONE is the last of the queue's
with the bytes of R58 (R57, R56, R191). The job's clean mark becomes no at an outcome of SHORT, SOURCE_FAILED or ABANDONED,
and stands as it is at GOOD (R106). A STOPPING job with nothing under way ends with its last file (11.5), and so does
a closed job that is RUNNING or HELD and holds no slab. No other job, and no other queue, changes. -/
def Obligations.FileDoneRoomGoesRoundTheJobs : Prop :=
  ∀ (s : State) (e : OutEntry) (rest : List OutEntry) (m n : CardNo) (f : FileRec) (more : List FileRec)
    (o : FileOutcome), s.ctl.FileNamesFresh → s.inReset = false → s.tx = none → s.ctl.outq = e :: rest →
    e.kind = .notice (.fileDone m) → s.ctl.fileDoneCount = 16 →
    s.ctl.fileDoneWaiting[n] = true →
    (∀ j : CardNo, (j - s.ctl.fileDoneTurn - 1).val < (n - s.ctl.fileDoneTurn - 1).val →
      s.ctl.fileDoneWaiting[j] = false) →
    s.ctl.queue n = f :: more → f.state = .complete o →
    let j := s.ctl.job n
    let good := f.result = .good
    let shown := fun (r : DestResult) =>
      if r = .pending ∨ (r = .written ∧ j.verify = .readback) then DestResult.skipped else r
    let copies := f.dests.countP fun e => e.result == .verified || (e.result == .written && j.verify == .off)
    let payload := [BitVec.ofNat 8 n.val] ++ leBytes 4 f.id ++ leBytes 5 f.len ++ [o.code]
      ++ leBytes 2 (if good then f.acc.a else 0) ++ leBytes 2 (if good then f.acc.b else 0)
      ++ [BitVec.ofNat 8 (if good then copies else 0), BitVec.ofNat 8 f.dests.length]
      ++ f.dests.flatMap fun e => [BitVec.ofNat 8 e.port.val, (shown e.result).code]
          ++ (if e.result = .mismatch then leBytes 2 e.verA ++ leBytes 2 e.verB else [0, 0, 0, 0])
    ∃ t, exec .transmitStart s = .next t ∧ (t.ctl.queue n).map (·.ref) = more.map (·.ref)
      ∧ (j.state ≠ .stopping → t.ctl.queue n = more) ∧ t.ctl.fileDoneTurn = n
      ∧ (t.ctl.job n).retired = (j.retired + 1) % 2 ^ 32 ∧ (t.ctl.job n).clean = (j.clean && o == FileOutcome.good)
      ∧ t.ctl.outq.filter OutEntry.isFileDone =
          rest.filter OutEntry.isFileDone ++ [{ kind := .notice (.fileDone n), tag := 0, payload := payload }]
      ∧ (j.state = .stopping → more = [] → s.ctl.NoEntriesOf n → s.ctl.txnOf n = false → s.ctl.digestOf n = false →
          (t.ctl.job n).state = .ended ∧ (t.ctl.job n).endReason = j.endReason)
      ∧ (j.state = .running ∨ j.state = .held → j.closed = true → more = [] → s.ctl.sourceCount n = 0 →
          (t.ctl.job n).state = .ended ∧ (t.ctl.job n).endReason = .complete)
      ∧ ∀ i, i ≠ n → t.ctl.queue i = s.ctl.queue i ∧ t.ctl.job i = s.ctl.job i

/-! ## Resets -/

/-- How a reset begins and ends (R173, R187, R188, R189). PART_RESET queues DONE and stops the request handler; with a
payload it is refused BAD_LENGTH. RESET_PIN_ASSERT, SUPPLY_FAIL and the FRAME_SENT that ends the DONE of a PART_RESET begin a
reset: every block is at its reset values, the DRAM stays, the cause is RESET_PIN, POWER_ON or REQUEST. Any other FRAME_SENT
frees the line (R180), or changes nothing where no frame is being sent (log 1). RESET_PIN_RELEASE, SUPPLY_VALID and
PART_RESET_TIMER_EXPIRY end the reset when nothing else holds it: the straps fix the rate code and N (6, 8 or 10; code 1, 1
gives 10), and the queue holds READY alone; held by another cause it goes on. A command whose cause holds, or
holds not, already changes nothing (log 1). A pin that falls in a reset of PART_RESET ends it when it rises, and the supply
that fails in one leaves its millisecond running. The model's reading (log 26): strap values are kept while the reset holds,
and the supply gives POWER_ON whatever reset it falls into. That the rate code is 2 x RATE1 + RATE0 is its reading too
(log 40). freeDraws is the model's own (log 36). -/
def Obligations.ResetsBeginAndEnd : Prop :=
  (∀ (s : State) (f : RxFrame), s.Takes .partReset f →
    (f.payload = [] → exec .partReset s = .next { s.doneOnly f [] with handlerStopped := true })
      ∧ (f.payload ≠ [] → exec .partReset s = .next (s.refusedFor f .badLength)))
    ∧ (∀ s : State,
      let held := fun (r : ResetCtl) =>
        ({ ctl := { Ctl.resetValues s.ctl.rateCode s.ctl.debounce with freeDraws := s.ctl.freeDraws }
           rx := .hunt, inbuf := [], handlerStopped := false, tx := none, resetCtl := r, dram := s.dram
           pending := s.pending } : State)
      (s.resetCtl.pinLow = false →
        exec .resetPinAssert s = .next (held
          { pinLow := true, supplyBad := s.resetCtl.supplyBad, timer := false,
            cause := if s.resetCtl.supplyBad then .powerOn else .resetPin }))
        ∧ (s.resetCtl.supplyBad = false →
          exec .supplyFail s = .next (held
            { pinLow := s.resetCtl.pinLow, supplyBad := true, timer := s.resetCtl.timer, cause := .powerOn }))
        ∧ (s.inReset = false → ∀ bytes : List Byte,
            (s.tx = some { bytes := bytes, resetAfter := true } →
              exec .frameSent s = .next (held { s.resetCtl with timer := true, cause := .request }))
            ∧ (s.tx = some { bytes := bytes, resetAfter := false } → exec .frameSent s = .next { s with tx := none })
            ∧ (s.tx = none → exec .frameSent s = .next s))
        ∧ (s.resetCtl.pinLow = true → exec .resetPinAssert s = .next s)
        ∧ (s.resetCtl.supplyBad = true → exec .supplyFail s = .next s))
    ∧ ∀ (s : State) (p : StrapPins),
      let rate := (if p.rate1 then 2 else 0) + (if p.rate0 then 1 else 0)
      let n := if p.deb1 then 10 else if p.deb0 then 8 else 6
      let payload : List Byte := [s.resetCtl.cause.code, BitVec.ofNat 8 rate, BitVec.ofNat 8 n]
      let ended :=
        ({ ctl := { Ctl.resetValues rate n with
             outq := [{ kind := .notice .ready, tag := 0, payload := payload }], freeDraws := s.ctl.freeDraws }
           rx := .hunt, inbuf := [], handlerStopped := false, tx := none,
           resetCtl := { pinLow := false, supplyBad := false, timer := false, cause := s.resetCtl.cause },
           dram := s.dram, pending := s.pending } : State)
      let r := s.resetCtl
      (r.pinLow = true → r.supplyBad = false → r.timer = false → exec (.resetPinRelease p) s = .next ended)
        ∧ (r.pinLow = false → r.supplyBad = true → r.timer = false → exec (.supplyValid p) s = .next ended)
        ∧ (r.pinLow = false → r.supplyBad = false → r.timer = true → exec (.partResetTimerExpiry p) s = .next ended)
        ∧ (r.pinLow = true → r.supplyBad = true ∨ r.timer = true →
            exec (.resetPinRelease p) s = .next { s with resetCtl := { r with pinLow := false } })
        ∧ (r.supplyBad = true → r.pinLow = true ∨ r.timer = true →
            exec (.supplyValid p) s = .next { s with resetCtl := { r with supplyBad := false } })
        ∧ (r.timer = true → r.pinLow = true ∨ r.supplyBad = true →
            exec (.partResetTimerExpiry p) s = .next { s with resetCtl := { r with timer := false } })
        ∧ (r.pinLow = false → exec (.resetPinRelease p) s = .next s)
        ∧ (r.supplyBad = false → exec (.supplyValid p) s = .next s)
        ∧ (r.timer = false → exec (.partResetTimerExpiry p) s = .next s)

/-- What every reset leaves in the blocks, value by value (R1, R35, R80, R95, R106, R115, R134, R155, R176, R183, R57):
jobs, file table, FILE_DONE turn and waiting set, slabs, wait list, digest unit, card and drive ports, links, output queue,
LINK_FAULT record and notice settings. -/
def Obligations.ResetValuesOfEveryBlock : Prop :=
  ∀ rate n : Nat,
    let c := Ctl.resetValues rate n
    (∀ j : CardNo, let r := c.job j
        r.state = .free ∧ r.serial = zeroSerial ∧ r.dests = [] ∧ r.clearance = 0 ∧ r.verify = .off ∧ r.quota = 48
          ∧ r.cardRelease = .auto ∧ r.driveAction = .drop ∧ r.driveRelease = .auto ∧ r.holds.isEmpty = true
          ∧ r.lastRelease = .none ∧ r.faultCause = .none ∧ r.failures = 0 ∧ r.closed = false ∧ r.suspend = .none
          ∧ r.accepted = 0 ∧ r.retired = 0 ∧ r.bytesRead = 0 ∧ r.released = 0 ∧ r.endReason = .none ∧ r.clean = true
          ∧ c.isBound j = false ∧ c.queue j = [] ∧ c.fileDoneWaiting[j] = false ∧ c.waits j = none
          ∧ c.sourceCount j = 0)
      ∧ c.files = [] ∧ c.fileDoneTurn = 7 ∧ c.fillSeq = 0 ∧ c.lastGranted = 7 ∧ c.freePool = 508 ∧ c.outq = []
      ∧ (∀ x, c.slab x =
          { state := .free, purpose := .none, job := none, port := none, file := none, offset := 0, len := 0
            fillSeq := 0, pendingWrites := noDrives, inFlight := noDrives, digested := false })
      ∧ c.digest =
          { fifo := [], busy := none, target := none, o := 0, m := 0, t := 0, a := 0, b := 0, words := 0
            discard := false }
      ∧ (∀ j : CardNo, let p := c.card j
          p.state = .empty ∧ p.highRun = 0 ∧ p.lowRun = 0 ∧ p.attempts = 0 ∧ p.capacity = 0 ∧ p.serial = zeroSerial
            ∧ p.grade = 0 ∧ p.attemptsAtGrade = 0 ∧ p.reader = none ∧ p.cleared = false ∧ p.residue = false
            ∧ p.unclean = false ∧ p.lampMode = .auto ∧ p.pattern = .off ∧ p.scan.phase = .none ∧ p.scan.slab = none
            ∧ p.scan.examined = 0)
      ∧ (∀ d : DriveNo, let p := c.drive d
          p.state = .absent ∧ p.highRun = 0 ∧ p.lowRun = 0 ∧ p.attempts = 0 ∧ p.capacity = 0 ∧ p.serial = zeroSerial
            ∧ p.writeQueue = [] ∧ p.writing = none ∧ p.failed = 0 ∧ p.staged = none ∧ p.verifyQueue = []
            ∧ p.context = none ∧ p.loss = none)
      ∧ (∀ p, (c.link p).cond = .resetting ∧ (c.link p).seq = 0)
      ∧ c.linkFault = { kind := none, count := 0 }
      ∧ c.notices = { portEvent := true, jobState := true, scanDone := true, linkFault := true, step := 4 }
      ∧ c.rateCode = rate ∧ c.debounce = n

/-! ## Notices -/

/-- The notices of ports, jobs and counters (R132, R153, R33, R34, R182). While its kind is enabled, a step outside a reset that
changes what a notice is queued for leaves one notice of that subject in the queue with the contents that stand after it: a
card port's state, grade, binding or marks and a drive port's state (PORT_EVENT); a job's state, hold set, suspend mode,
fault cause or end reason (JOB_STATE). Nothing else queues or updates a JOB_STATE; a PORT_EVENT that was queued or updated
shows the port as it stands; while a kind is disabled, what of it waits stays as it is. A waiting notice is updated in its
place: entries leave at the head, by TRANSMIT_START or a reset, and join at the tail. Slabs released rises one by one, and at
each whole multiple of 2^k, with k above 0, PROGRESS is queued or updated with the four counters as they stand; so after a
step it shows the last multiple the counter reached in it. That a change of the closed flag alone queues nothing is log 33. -/
def Obligations.NoticesFollowTheChanges : Prop :=
  (∀ (i : Instr) (s t : State), s.inReset = false → t.inReset = false → exec i s = .next t →
    let told := fun (j : Job) => (j.state, j.holds, j.suspend, j.faultCause, j.endReason)
    let shown := fun (c : Ctl) (n : CardNo) =>
      let p := c.card n
      (p.state, p.grade, decide ((c.job n).state = .free), p.cleared, p.residue, p.unclean)
    (s.ctl.notices.portEvent = true →
        (∀ n, shown s.ctl n ≠ shown t.ctl n →
            t.ctl.Tells (.portEvent (.card n)) (t.ctl.portEventPayload (.card n)))
          ∧ ∀ d, (s.ctl.drive d).state ≠ (t.ctl.drive d).state →
            t.ctl.Tells (.portEvent (.drive d)) (t.ctl.portEventPayload (.drive d)))
      ∧ (s.ctl.notices.jobState = true → ∀ n, told (s.ctl.job n) ≠ told (t.ctl.job n) →
          t.ctl.Tells (.jobState n) (t.ctl.jobStatePayload n))
      ∧ (∀ e ∈ t.ctl.outq, e ∉ s.ctl.outq →
          (∀ p, e.kind = .notice (.portEvent p) →
              s.ctl.notices.portEvent = true ∧ e.payload = t.ctl.portEventPayload p)
            ∧ (∀ n, e.kind = .notice (.jobState n) → s.ctl.notices.jobState = true
                ∧ told (s.ctl.job n) ≠ told (t.ctl.job n) ∧ e.payload = t.ctl.jobStatePayload n)
            ∧ (∀ n, e.kind = .notice (.progress n) → 0 < s.ctl.notices.step))
      ∧ (∃ k added, t.ctl.outq.map (·.kind) = (s.ctl.outq.map (·.kind)).drop k ++ added ∧ k ≤ 1
          ∧ (i ≠ .transmitStart → k = 0))
      ∧ ∀ n, (s.ctl.job n).state ≠ .free → (t.ctl.job n).state ≠ .free → 0 < s.ctl.notices.step →
          let at_ := fun (i : Nat) => ((s.ctl.job n).released + i) % 2 ^ 32
          let hits := fun (i : Nat) => at_ i % 2 ^ s.ctl.notices.step = 0
          ∃ m, (t.ctl.job n).released % 2 ^ 32 = at_ m
            ∧ ∀ i, 1 ≤ i → i ≤ m → hits i → (∀ l, i < l → l ≤ m → ¬hits l) →
              ∃ a r b, t.ctl.Tells (.progress n)
                (BitVec.ofNat 8 n.val :: leBytes 4 a ++ leBytes 4 r ++ leBytes 8 b ++ leBytes 4 (at_ i)))
    ∧ (∀ (c : Ctl) (n : CardNo) (x : SlabNo),
      let j := c.job n
      let r := (j.released + 1) % 2 ^ 32
      let t := c.releaseCounted n x
      let payload := BitVec.ofNat 8 n.val :: leBytes 4 j.accepted ++ leBytes 4 j.retired ++ leBytes 8 j.bytesRead ++ leBytes 4 r
      let waiting := c.outq.any fun e => e.kind == .notice (.progress n)
      let due := 0 < c.notices.step ∧ r % 2 ^ c.notices.step = 0
      t.job n = { j with released := r } ∧ (¬due → t.outq = c.outq)
        ∧ (due → waiting = false →
            t.outq = c.outq ++ [{ kind := .notice (.progress n), tag := 0, payload := payload }])
        ∧ (due → waiting = true →
            t.outq = c.outq.map fun e => if e.kind = .notice (.progress n) then { e with payload := payload } else e))
    ∧ ∀ (c : Ctl) (n : CardNo),
      let j := c.job n
      let g := j.holds.destGone
      c.jobStatePayload n = [BitVec.ofNat 8 n.val, j.state.code, j.endReason.code, j.faultCause.code, j.suspend.code,
        boolByte j.closed, j.lastRelease.code, markCode j.holds.cardGone, markCode g[0], markCode g[1], markCode g[2],
        markCode g[3]]

/-! ## Requests of the part -/

/-- IDENT (R184, R191): the fourteen bytes of its reply; nothing else changes. With a payload: BAD_LENGTH. -/
def Obligations.IdentReportsThePart : Prop :=
  ∀ (s : State) (f : RxFrame), s.Takes .ident f →
    (f.payload = [] → exec .ident s = .next (s.doneOnly f
        [0x71, 0x3A, 0x40, 0x08, 1, 0x00, 0x02, 8, 4, BitVec.ofNat 8 s.ctl.rateCode, BitVec.ofNat 8 s.ctl.debounce,
          faultKindCode s.ctl.linkFault.kind, BitVec.ofNat 8 s.ctl.linkFault.count,
          BitVec.ofNat 8 (s.ctl.linkFault.count / 256)]))
      ∧ (f.payload ≠ [] → exec .ident s = .next (s.refusedFor f .badLength))

/-- NOTICE_SET (R183): the last setting of each switchable kind stands, other codes are ignored, a step above 8 becomes
8; the reply carries switches and step; an even payload length is refused BAD_LENGTH. -/
def Obligations.NoticeSetTakesTheLastSettings : Prop :=
  ∀ (s : State) (f : RxFrame), s.Takes .noticeSet f →
    (∀ (k : Byte) (settings : List (Byte × Byte)),
      f.payload = k :: (settings.map fun p => [p.1, p.2]).flatten →
      let n : NoticeSettings :=
        { portEvent := lastSwitch 0xC1 s.ctl.notices.portEvent settings
          jobState := lastSwitch 0xC2 s.ctl.notices.jobState settings
          scanDone := lastSwitch 0xC5 s.ctl.notices.scanDone settings
          linkFault := lastSwitch 0xC6 s.ctl.notices.linkFault settings
          step := if k.toNat ≤ 8 then k.toNat else 8 }
      exec .noticeSet s = .next
        (({ s with ctl := { s.ctl with notices := n } } : State).doneOnly f
          [boolByte n.portEvent, boolByte n.jobState, boolByte n.scanDone, boolByte n.linkFault, BitVec.ofNat 8 n.step]))
      ∧ (f.payload.length % 2 = 0 → exec .noticeSet s = .next (s.refusedFor f .badLength))

/-- PORT_QUERY and JOB_QUERY change nothing but for their replies (R185, R32, R191). A port number above 11 is BAD_FIELD. A
card port's report is the 32 bytes of its PORT_EVENT (R132), then what R133 adds; a drive port's the 32 of its PORT_EVENT
(R153), then what R154 adds: each written out here in order. Fields whose value the manual does not state are free values
(log 11, layout log 12, failed attempts of an IDENTIFY log 28). A job's report, in every state, lays out its record in
R191's order. -/
def Obligations.QueriesReportWithoutChange : Prop :=
  ∀ (s : State) (f : RxFrame) (b : Byte), f.payload = [b] →
    let c := s.ctl
    let record := fun (ready : Bool) (cap : Nat) (ser : Serial) =>
      leBytes 6 (if ready then cap else 0) ++ (if ready then ser else zeroSerial).toList
    let txn := fun (l : Link) (failed : List Byte) =>
      match l.cond with
      | .inFlight g =>
        (match g.kind with
          | .identify => [1] ++ unstatedBytes 6 .startOfAbsentTransaction ++ unstatedBytes 1 .countOfAbsentTransaction
          | .write => [2] ++ leBytes 6 g.start ++ [BitVec.ofNat 8 g.count]
          | .read => [3] ++ leBytes 6 g.start ++ [BitVec.ofNat 8 g.count]) ++ failed
      | _ => [0] ++ unstatedBytes 6 .startOfAbsentTransaction ++ unstatedBytes 1 .countOfAbsentTransaction
          ++ unstatedBytes 1 .failedOfAbsentTransaction
    (s.Takes .portQuery f →
      (11 < b.toNat → exec .portQuery s = .next (s.refusedFor f .badField))
        ∧ (∀ n : CardNo, b.toNat = n.val →
            let p := c.card n
            let event := [b, p.state.code, BitVec.ofNat 8 p.grade]
              ++ (if (c.job n).state = .free then 0 :: unstatedBytes 1 (.boundJobOfUnboundPort n)
                  else [1, BitVec.ofNat 8 n.val])
              ++ record (p.state == .ready) p.capacity p.serial
              ++ [if p.cleared then 1 else 0, if p.residue then 1 else 0, if p.unclean then 1 else 0, 0, 0]
            let rest := [BitVec.ofNat 8 p.attempts, BitVec.ofNat 8 p.attemptsAtGrade]
              ++ txn p.link (unstatedBytes 1 .failedOfCardTransaction)
              ++ (match p.reader with
                  | none => 0 :: unstatedBytes 2 .slabOfIdleReader ++ unstatedBytes 5 .offsetOfIdleReader
                  | some r => 1 :: leBytes 2 r.slab.val ++ leBytes 5 (c.slab r.slab).offset)
              ++ [if p.scan.phase = .none then 0 else 1, if c.waits n = none then 0 else 1] ++ leBytes 2 c.freePool
              ++ [p.lampMode.code, p.pattern.code]
            c.portEventPayload (.card n) = event ∧ event.length = 32
              ∧ exec .portQuery s = .next (s.doneOnly f (event ++ rest)))
        ∧ ∀ d : DriveNo, b.toNat = 8 + d.val →
            let p := c.drive d
            let event := [b, p.state.code, 0] ++ unstatedBytes 1 (.boundFlagOfDrive d)
              ++ unstatedBytes 1 (.boundJobOfDrive d) ++ record (p.state == .ready) p.capacity p.serial ++ [0, 0, 0]
              ++ (match p.loss with
                  | none => 0 :: unstatedBytes 1 (.outcomeOfNoLoss d)
                  | some l => [match l.kind with | .identify => 1 | .write => 2 | .read => 3, l.outcome.code])
            let failed := if p.link.carries .identify then p.attempts - 1 else p.failed
            let rest := [BitVec.ofNat 8 p.attempts] ++ leBytes 2 p.writeQueue.length
              ++ (match p.writing with
                  | none => unstatedBytes 2 .slabOfNoWritingEntry ++ unstatedBytes 6 .blockOfNoWritingEntry
                  | some w => leBytes 2 w.slab.val ++ leBytes 6 w.next)
              ++ txn p.link [BitVec.ofNat 8 failed]
              ++ (match p.staged with
                  | none => unstatedBytes 2 .slabOfNoStage ++ txn { cond := .idle, seq := 0 } []
                  | some g =>
                    let at_ := (c.writeTxn d g.slab g.block).getD (0, 0)
                    leBytes 2 g.slab.val ++ [2] ++ leBytes 6 at_.1 ++ [BitVec.ofNat 8 at_.2, 0])
              ++ leBytes 2 p.verifyQueue.length
              ++ (match p.context with
                  | none => 0 :: unstatedBytes 1 .jobOfIdleContext ++ unstatedBytes 4 .fileOfIdleContext
                      ++ unstatedBytes 5 .offsetOfIdleContext
                  | some k => [1, BitVec.ofNat 8 k.file.job.val]
                      ++ leBytes 4 (match c.file? k.file with | some g => g.id | none => 0) ++ leBytes 5 k.nextOffset)
            c.portEventPayload (.drive d) = event ∧ event.length = 32
              ∧ exec .portQuery s = .next (s.doneOnly f (event ++ rest)))
      ∧ (s.Takes .jobQuery f → ∀ n : CardNo, b.toNat = n.val →
          let j := s.ctl.job n
          let g := j.holds.destGone
          exec .jobQuery s = .next (s.doneOnly f
            ([b, j.state.code, j.endReason.code, j.faultCause.code, j.suspend.code, boolByte j.closed, j.lastRelease.code,
                markCode j.holds.cardGone, markCode g[0], markCode g[1], markCode g[2], markCode g[3]]
              ++ j.serial.toList ++ [BitVec.ofNat 8 j.dests.length]
              ++ j.dests.flatMap (fun e => BitVec.ofNat 8 e.port.val :: e.serial.toList ++ [if e.live then 0 else 1])
              ++ [BitVec.ofNat 8 j.clearance, j.verify.code, BitVec.ofNat 8 j.quota, j.cardRelease.code,
                  j.driveAction.code, j.driveRelease.code, BitVec.ofNat 8 j.failures]
              ++ leBytes 4 j.accepted ++ leBytes 4 j.retired ++ leBytes 8 j.bytesRead ++ leBytes 4 j.released
              ++ [BitVec.ofNat 8 (s.ctl.queue n).length, BitVec.ofNat 8 (s.ctl.sourceCount n)])))

/-- Frames and refusals (R178, R179, R181, R187, R191). A KIND that names no request is refused BAD_KIND by
BAD_KIND_REQUEST, which leaves one that names a request to its own command (log 6). With a stopped handler, a queue of 8
replies, an empty buffer, or in reset, no command takes a frame. A request of fixed length with another payload length is
refused BAD_LENGTH. Whatever the reason, a REFUSED reply means that the request changed no state of any block: only the
reply joins the queue and the frame leaves the buffer. -/
def Obligations.RefusedRequestsChangeNothing : Prop :=
  (∀ (s : State) (f : RxFrame), s.inReset = false → s.handlerStopped = false → s.ctl.replyCount < 8 →
    s.inbuf.head? = some f →
    (f.kind = 0 ∨ 0x12 < f.kind.toNat → exec .badKindRequest s = .next (s.refusedFor f .badKind))
      ∧ (1 ≤ f.kind.toNat → f.kind.toNat ≤ 0x12 → exec .badKindRequest s = .next s))
    ∧ (∀ (s : State) (c : Instr), requestKind c ≠ none ∨ c = .badKindRequest →
      s.handlerStopped = true ∨ 8 ≤ s.ctl.replyCount ∨ s.inbuf = [] ∨ s.inReset = true → exec c s = .next s)
    ∧ (∀ (s : State) (c : Instr) (k : MsgKind) (f : RxFrame), requestKind c = some k → s.Takes k f →
    (match k with
     | .ident | .partReset => f.payload.length ≠ 0
     | .portQuery | .jobStart | .jobClose | .jobResume | .jobStop | .jobClear | .jobFree | .jobQuery | .scanStop =>
       f.payload.length ≠ 1
     | .jobSuspend | .jobDrop => f.payload.length ≠ 2
     | .lampSet => f.payload.length ≠ 3
     | .jobOpen => f.payload.length ≠ 12
     | .scanStart => f.payload.length ≠ 15
     | .noticeSet | .fileAdd => False) →
    exec c s = .next (s.refusedFor f .badLength))
    ∧ ∀ (s t : State) (c : Instr) (k : MsgKind) (f : RxFrame) (r : Reason), requestKind c = some k → s.Takes k f →
      exec c s = .next t →
      t.ctl.outq.getLast? = some { kind := .refused f.kind, tag := f.tag, payload := [f.kind, r.code] } →
      t = s.refusedFor f r

/-- LAMP_SET (R113): a port number above 7 or a mode above 1 is BAD_FIELD. AUTO shows the pattern of R111's table. HOST
with one of the six patterns shows it, a pattern newly taken starting lit (R112); HOST with another value keeps the
pattern shown and its cycle. That a steady pattern too is lit when newly shown is the model's choice (log 30). The reply
carries mode and pattern; nothing else changes. -/
def Obligations.LampSetSetsModeAndPattern : Prop :=
  ∀ (s : State) (f : RxFrame) (port mode pat : Byte), s.Takes .lampSet f → f.payload = [port, mode, pat] →
    (7 < port.toNat ∨ 1 < mode.toNat → exec .lampSet s = .next (s.refusedFor f .badField))
      ∧ (∀ n : CardNo, port.toNat = n.val →
          let p := s.ctl.card n
          let withPort := fun (q : CardPort) => ({ s with ctl := { s.ctl with cards := s.ctl.cards.set n q } } : State)
          let shows := fun (m : Release) (q : Pattern) =>
            { p with lampMode := m, pattern := q, lit := if q = p.pattern then p.lit else true }
          (mode = 0 → exec .lampSet s =
              .next ((withPort (shows .auto (s.ctl.lampAuto n))).doneOnly f [0, (s.ctl.lampAuto n).code]))
            ∧ (∀ q : Pattern, mode = 1 → pat = q.code →
                exec .lampSet s = .next ((withPort (shows .host q)).doneOnly f [1, q.code]))
            ∧ (mode = 1 → 5 < pat.toNat →
                exec .lampSet s = .next ((withPort { p with lampMode := .host }).doneOnly f [1, p.pattern.code])))

/-- The lamps (R111, R112). From every state in which each lamp of AUTO mode shows the pattern of R111's table, a step leaves
it so, and it is so after a reset. That pattern is the first row of the table whose condition holds. LAMP_BLINK_TOGGLE: a
blinking pattern changes between lit and dark, a steady one stays; no other lamp and nothing else changes. -/
def Obligations.LampsFollowTheTableAndBlink : Prop :=
  (∀ s t : State, s.ctl.LampsShown → step s = .next t → t.ctl.LampsShown)
    ∧ State.reset.ctl.LampsShown
    ∧ (∀ (c : Ctl) (n : CardNo),
    let p := c.card n
    let j := (c.job n).state
    (p.state = .empty ∨ p.state = .settling → c.lampAuto n = .off)
      ∧ (p.state ≠ .empty → p.state ≠ .settling →
          (p.cleared = true → c.lampAuto n = .green)
            ∧ (p.cleared = false →
                (p.state = .error ∨ j = .held ∨ j = .faulted ∨ p.unclean = true ∨ p.residue = true →
                  c.lampAuto n = .red)
                  ∧ (p.state ≠ .error → p.unclean = false → p.residue = false →
                      (j = .running ∨ j = .suspending ∨ j = .stopping → c.lampAuto n = .amberBlink)
                        ∧ (j = .free ∨ j = .opened ∨ j = .suspended ∨ j = .ended → c.lampAuto n = .amber)))))
    ∧ ∀ (s : State) (n : CardNo), s.inReset = false →
      let p := s.ctl.card n
      (p.pattern = .amberBlink ∨ p.pattern = .redBlink →
          exec (.lampBlinkToggle n) s =
            .next { s with ctl := { s.ctl with cards := s.ctl.cards.set n { p with lit := !p.lit } } })
        ∧ (p.pattern ≠ .amberBlink → p.pattern ≠ .redBlink → exec (.lampBlinkToggle n) s = .next s)

/-! ## Job requests -/

/-- The first two checks of R3 on every job request of fixed length: a job number above 7 is BAD_FIELD, and then the
state's refusal in the table of 1.3. -/
def Obligations.JobRequestsFollowTheAvailabilityTable : Prop :=
  ∀ (s : State) (c : Instr) (k : MsgKind) (f : RxFrame) (b : Byte) (more : List Byte), requestKind c = some k →
    s.Takes k f → jobPayloadLength k = some f.payload.length → f.payload = b :: more →
    (7 < b.toNat → exec c s = .next (s.refusedFor f .badField))
      ∧ ∀ (n : CardNo) (r : Reason), b.toNat = n.val → availability k (s.ctl.job n).state = some r →
          exec c s = .next (s.refusedFor f r)

/-- JOB_OPEN is refused for the first check of R4's table that fails. -/
def Obligations.JobOpenChecksInOrder : Prop :=
  ∀ (s : State) (f : RxFrame) (job cnt p0 p1 p2 p3 clr ver quo cr da dr : Byte), s.Takes .jobOpen f →
    f.payload = [job, cnt, p0, p1, p2, p3, clr, ver, quo, cr, da, dr] →
    let ports := [p0, p1, p2, p3].take cnt.toNat
    let badFields := 7 < job.toNat ∨ cnt.toNat = 0 ∨ 4 < cnt.toNat ∨ (∃ p ∈ ports, 3 < p.toNat) ∨ ¬ports.Nodup
      ∨ clr.toNat = 0 ∨ cnt.toNat < clr.toNat ∨ 1 < ver.toNat ∨ 1 < cr.toNat ∨ 1 < da.toNat ∨ 1 < dr.toNat
    (badFields → exec .jobOpen s = .next (s.refusedFor f .badField))
      ∧ (¬badFields → ∀ n : CardNo, job.toNat = n.val →
          ((s.ctl.job n).state ≠ .free → exec .jobOpen s = .next (s.refusedFor f .slotInUse))
            ∧ ((s.ctl.job n).state = .free → (s.ctl.card n).state ≠ .ready →
                exec .jobOpen s = .next (s.refusedFor f .portNotReady))
            ∧ ((s.ctl.job n).state = .free → (s.ctl.card n).state = .ready →
                (∃ d : DriveNo, BitVec.ofNat 8 d.val ∈ ports ∧ (s.ctl.drive d).state ≠ .ready) →
                exec .jobOpen s = .next (s.refusedFor f .portNotReady)))

/-- A JOB_OPEN that passes R4 (R5, R4's quota, R35, R106, R108): the record's values, the cleared flag and the
unclean-end mark cleared with the residue flag kept, DONE with the job and the quota in force; other jobs and ports,
files, slabs, memory and links stay. firstFile is the model's own (log 20). -/
def Obligations.JobOpenFillsTheRecord : Prop :=
  ∀ (s : State) (f : RxFrame) (n : CardNo) (ds : List DriveNo) (clr quo : Byte) (pad : List Byte) (v : VerifyMode)
    (cg dg : Release) (act : GoneAction), s.Takes .jobOpen f →
    f.payload = BitVec.ofNat 8 n.val :: BitVec.ofNat 8 ds.length :: (ds.map fun d => BitVec.ofNat 8 d.val) ++ pad
      ++ [clr, v.code, quo, cg.code, act.code, dg.code] →
    ds.length + pad.length = 4 → ds ≠ [] → ds.Nodup → 1 ≤ clr.toNat → clr.toNat ≤ ds.length →
    (s.ctl.job n).state = .free → (s.ctl.card n).state = .ready → (∀ d ∈ ds, (s.ctl.drive d).state = .ready) →
    let quota := if quo.toNat = 0 then 48 else if quo.toNat < 8 then 8 else if 128 < quo.toNat then 128 else quo.toNat
    ∃ t, exec .jobOpen s = .next t ∧ s.DoneIn t f [BitVec.ofNat 8 n.val, BitVec.ofNat 8 quota]
      ∧ t.ctl.job n = { Job.freeValues with
          state := .opened, serial := (s.ctl.card n).serial
          dests := ds.map fun d =>
            { port := d, serial := (s.ctl.drive d).serial, live := true, capacity := (s.ctl.drive d).capacity }
          clearance := clr.toNat, verify := v, quota := quota, cardRelease := cg, driveAction := act
          driveRelease := dg, cardCapacity := (s.ctl.card n).capacity, clean := true, firstFile := s.ctl.nextFile }
      ∧ (t.ctl.card n).cleared = false ∧ (t.ctl.card n).unclean = false
      ∧ (t.ctl.card n).residue = (s.ctl.card n).residue ∧ (t.ctl.card n).link = (s.ctl.card n).link
      ∧ s.ctl.OtherJobsSame t.ctl n ∧ s.ctl.OtherPortsSame t.ctl n ∧ t.ctl.files = s.ctl.files
      ∧ t.ctl.slabs = s.ctl.slabs ∧ t.ctl.waitList = s.ctl.waitList

/-- JOB_START of an OPEN job (R6, R8): PORT_BUSY while a scan runs, and nothing changes. Otherwise, of a job that holds no
slab, as an OPEN job holds none (R63), RUNNING with an empty hold set and HELD with a cause of any mark, but ENDED(COMPLETE)
when it is closed and its queue is empty. The hold set of a job that has not ended is kept, and its last release cause in
every case. A job that runs, with a file of bytes at the head of its queue, takes that file as READING and, its card READY
over an IDLE link, the lowest FREE pool slab for its first span, whose first READ is sent (R42, R65, R72, R73, R124, R125),
or waits for a slab where none is FREE. Other jobs stay, and so do drives and other card ports where no drive holds a write
entry of the job (of an OPEN job none does). -/
def Obligations.JobStartRunsHoldsOrEnds : Prop :=
  ∀ (s : State) (f : RxFrame) (n : CardNo), s.Takes .jobStart f → f.payload = [BitVec.ofNat 8 n.val] →
    (s.ctl.job n).state = .opened →
    ((s.ctl.card n).scan.phase ≠ .none → exec .jobStart s = .next (s.refusedFor f .portBusy))
      ∧ ((s.ctl.card n).scan.phase = .none → ∃ t, exec .jobStart s = .next t ∧ s.DoneIn t f []
          ∧ (t.ctl.job n).lastRelease = (s.ctl.job n).lastRelease
          ∧ (s.ctl.PoolShared →
              if (s.ctl.job n).closed = true ∧ t.ctl.queue n = [] then
                (t.ctl.job n).state = .ended ∧ (t.ctl.job n).endReason = .complete ∧ (t.ctl.job n).holds.isEmpty = true
              else
                (t.ctl.job n).state = (if (s.ctl.job n).holds.isEmpty then .running else .held)
                  ∧ (t.ctl.job n).holds = (s.ctl.job n).holds)
          ∧ (∀ (g : FileRec) (more : List FileRec) (e : Extent) (rest : List Extent), s.ctl.PoolShared →
              s.ctl.FileNamesFresh → (s.ctl.job n).holds.isEmpty = true → 0 < (s.ctl.job n).quota →
              s.ctl.queue n = g :: more → (∀ h ∈ g :: more, h.state = .queued) → 0 < g.len → g.readOffset = 0 →
              g.source = e :: rest → 0 < e.count →
              (s.ctl.card n).state = .ready → (s.ctl.card n).reader = none → (s.ctl.card n).link.cond = .idle →
              t.ctl.queue n = { g with state := .reading } :: more
                ∧ ((∀ x : SlabNo, x.val < 508 → (s.ctl.slab x).state ≠ .free) → s.ctl.waits n = none →
                    t.ctl.waits n = some .source ∧ (t.ctl.card n).reader = none)
                ∧ ∀ x : SlabNo, x.val < 508 → (s.ctl.slab x).state = .free →
                    (∀ y : SlabNo, y.val < x.val → (s.ctl.slab y).state ≠ .free) →
                    let len := min 65536 g.len
                    t.ctl.slab x = { Slab.freeValues with
                        state := .filling, purpose := .source, job := some n, file := some g.ref, offset := 0
                        len := len }
                      ∧ (t.ctl.card n).reader = some { slab := x, next := 0 } ∧ t.ctl.lastGranted = n
                      ∧ (t.ctl.card n).link = (s.ctl.card n).link.sent .read e.start
                          (min 128 (min ((len + 511) / 512) e.count)) (s.ctl.card n).grade 1000)
          ∧ s.ctl.OtherJobsSame t.ctl n ∧ (s.ctl.NoEntriesOf n → s.ctl.OtherPortsSame t.ctl n))

/-- FILE_ADD (R37, R191). A payload parses exactly when it is the layout of some fields that fit it, and then as those
fields; one that does not is refused BAD_LENGTH, the ten-byte head alone among them (the model's choice, log 27). Then the
request is refused for the first check that fails: the job number and state checks of R3, then those of R37's table. -/
def Obligations.FileAddChecksInOrder : Prop :=
  (∀ (bytes : List Byte) (q : FileAddReq), parseFileAdd bytes = some q ↔ q.Fits ∧ bytes = q.payload)
    ∧ ∀ (s : State) (f : RxFrame), s.Takes .fileAdd f →
      (parseFileAdd f.payload = none → exec .fileAdd s = .next (s.refusedFor f .badLength))
      ∧ ∀ q : FileAddReq, parseFileAdd f.payload = some q →
        (7 < q.job.toNat → exec .fileAdd s = .next (s.refusedFor f .badField))
          ∧ ∀ n : CardNo, q.job.toNat = n.val →
            (∀ r, availability .fileAdd (s.ctl.job n).state = some r → exec .fileAdd s = .next (s.refusedFor f r))
              ∧ (availability .fileAdd (s.ctl.job n).state = none →
                let j := s.ctl.job n
                let live := (j.dests.zip q.dests).filter fun p => p.1.live
                let badStructure := 8 < q.source.1 ∨ (∃ e ∈ q.source.2, e.count = 0)
                  ∨ (∃ l ∈ q.dests, 8 < l.1 ∨ ∃ e ∈ l.2, e.count = 0) ∨ q.dests.length ≠ j.dests.length
                let covers := fun (l : List Extent) =>
                  (q.len = 0 → l = []) ∧ (0 < q.len → l ≠ []) ∧ (l.map (·.count)).sum = (q.len + 511) / 512
                let fits := fun (cap : Nat) (l : List Extent) => ∀ e ∈ l, e.start + e.count ≤ cap
                let checks : List (Prop × Reason) :=
                  [(badStructure, .badField), (j.closed = true, .closed),
                    (∃ g ∈ s.ctl.queue n, g.id = q.id, .duplicateId),
                    (¬(covers q.source.2 ∧ ∀ p ∈ live, covers p.2.2), .extentMismatch),
                    (¬(fits j.cardCapacity q.source.2 ∧ ∀ p ∈ live, fits p.1.capacity p.2.2), .outOfRange),
                    (128 ≤ (s.ctl.queue n).length, .queueFull), (512 ≤ s.ctl.files.length, .tableFull)]
                ∀ (i : Nat) (h : i < checks.length), checks[i].1 → (∀ k (hk : k < i), ¬checks[k].1) →
                  exec .fileAdd s = .next (s.refusedFor f checks[i].2))

/-- A FILE_ADD that passes every check (R39, R42, R59). DONE carries job, file id, queue entries and free records (counted
just after the joining, log 21), and files accepted rises by one. The file is taken up at once when the job's state lets a
file become READING, none is READING and none QUEUED with bytes to read: of L above 0 it is then READING. Otherwise it waits
QUEUED. Either way the record at the queue's tail is as R39 gives it. Of L = 0 and taken up, it passes on: source GOOD, each
PENDING result WRITTEN or, under READBACK, VERIFIED with digest 0, 0 stored, COMPLETE; and the failure count is 0. -/
def Obligations.FileAddTakesTheFile : Prop :=
  ∀ (s : State) (f : RxFrame) (q : FileAddReq) (n : CardNo), s.ctl.FileNamesFresh → s.Takes .fileAdd f →
    parseFileAdd f.payload = some q → q.job.toNat = n.val → availability .fileAdd (s.ctl.job n).state = none →
    s.ctl.checkFile n q = none →
    let j := s.ctl.job n
    let takenUp := j.state ≠ .opened ∧ ∀ g ∈ s.ctl.queue n, g.state ≠ .reading ∧ (g.state = .queued → g.len = 0)
    let dests := (j.dests.zip q.dests).map fun p =>
      ({ port := p.1.port, extents := if p.1.live then p.2.2 else [], bytesWritten := 0, verA := 0, verB := 0,
         stored := false, result := if p.1.live then .pending else .dropped } : FileDest)
    let ref : FileRef := { job := n, num := s.ctl.nextFile }
    let joined := fun (x : FileState) =>
      ({ ref := ref, id := q.id, len := q.len, source := q.source.2, readOffset := 0, state := x,
         acc := { a := 0, b := 0, words := 0 }, result := .pending, dests := dests } : FileRec)
    ∃ t, exec .fileAdd s = .next t
      ∧ s.DoneIn t f ([BitVec.ofNat 8 n.val] ++ leBytes 4 q.id ++ [BitVec.ofNat 8 ((s.ctl.queue n).length + 1)]
          ++ leBytes 2 (511 - s.ctl.files.length))
      ∧ (t.ctl.job n).accepted = (j.accepted + 1) % 2 ^ 32
      ∧ (¬takenUp → (t.ctl.queue n).getLast? = some (joined .queued))
      ∧ (takenUp → 0 < q.len → (t.ctl.queue n).getLast? = some (joined .reading))
      ∧ (takenUp → q.len = 0 → (t.ctl.job n).failures = 0
          ∧ ∀ g, t.ctl.file? ref = some g → g.id = q.id ∧ g.len = 0 ∧ g.result = .good ∧ g.isComplete = true
            ∧ g.acc = { a := 0, b := 0, words := 0 }
            ∧ g.dests = dests.map fun e =>
                if e.result = .pending then
                  (if j.verify = .readback then { e with result := .verified, stored := true }
                   else { e with result := .written })
                else e)
      ∧ (j.state = .opened → t.ctl.files = s.ctl.files ++ [joined .queued])
      ∧ s.ctl.OtherJobsSame t.ctl n
      ∧ ((∀ g ∈ s.ctl.queue n, g.state = .queued → 0 < g.len) → 0 < q.len → s.ctl.OtherPortsSame t.ctl n)

/-- JOB_CLOSE (R7, R8): the closed flag is set, and in RUNNING or HELD a job with no file and no source slab ends
COMPLETE at once; elsewhere the state is kept. Taken again it changes nothing. A close
that ends nothing queues no JOB_STATE: the closed flag is not among what JOB_STATE is queued for (log 33). -/
def Obligations.JobCloseClosesAndMayEnd : Prop :=
  ∀ (s : State) (f : RxFrame) (n : CardNo), s.Takes .jobClose f → f.payload = [BitVec.ofNat 8 n.val] →
    availability .jobClose (s.ctl.job n).state = none →
    ((s.ctl.job n).closed = true → exec .jobClose s = .next (s.doneOnly f []))
      ∧ ((s.ctl.job n).closed = false →
          let ends := ((s.ctl.job n).state = .running ∨ (s.ctl.job n).state = .held) ∧ s.ctl.queue n = []
            ∧ s.ctl.sourceCount n = 0
          (¬ends → exec .jobClose s = .next
            (({ s with ctl := { s.ctl with jobs := s.ctl.jobs.set n { s.ctl.job n with closed := true } } } :
              State).doneOnly f []))
          ∧ (ends → ∃ t, exec .jobClose s = .next t ∧ s.DoneIn t f []
              ∧ t.ctl.job n = { s.ctl.job n with
                  closed := true, state := .ended, endReason := .complete, holds := HoldSet.empty, suspend := .none
                  faultCause := .none }
              ∧ s.ctl.OtherJobsSame t.ctl n ∧ s.ctl.OtherPortsSame t.ctl n ∧ t.ctl.files = s.ctl.files
              ∧ t.ctl.slabs = s.ctl.slabs))

/-- JOB_SUSPEND (R19, R20, R21): a mode above 1 is BAD_FIELD. PROMPT stays PROMPT; FINISH gives way to it. With the mode
unchanged nothing else changes. Otherwise the job is SUSPENDING, or SUSPENDED at once when its drain is done; FINISH
leaves ports, files and slabs alone, and after PROMPT no drive verifies a file of the job or holds its first
transaction staged: a first transaction that was staged is back in the write queue at its place in fill order, behind every
entry as old as it and ahead of the younger ones, a next transaction staged behind the one in flight is kept, and a file
whose context was abandoned is at the head of the verify queue (R146). The hold set is kept. -/
def Obligations.JobSuspendSuspends : Prop :=
  ∀ (s : State) (f : RxFrame) (n : CardNo) (b : Byte), s.Takes .jobSuspend f → f.payload = [BitVec.ofNat 8 n.val, b] →
    availability .jobSuspend (s.ctl.job n).state = none →
    (1 < b.toNat → exec .jobSuspend s = .next (s.refusedFor f .badField))
      ∧ (b.toNat ≤ 1 →
        let j := s.ctl.job n
        let mode := if b = 0 ∨ (j.state = .suspending ∧ j.suspend = .prompt) then SuspendMode.prompt else .finish
        let fields := [BitVec.ofNat 8 n.val, mode.code]
        (j.state = .suspending → j.suspend = mode → exec .jobSuspend s = .next (s.doneOnly f fields))
          ∧ (¬(j.state = .suspending ∧ j.suspend = mode) →
              ∃ t, exec .jobSuspend s = .next t ∧ s.DoneIn t f fields ∧ t.ctl.files = s.ctl.files
                ∧ (t.ctl.job n).state =
                    (if (if mode = .finish then t.ctl.finishDrained n else t.ctl.promptDrained n) then .suspended
                     else .suspending)
                ∧ (t.ctl.job n).suspend = mode ∧ (t.ctl.job n).holds = j.holds
                ∧ (t.ctl.job n).lastRelease = j.lastRelease
                ∧ (mode = .finish → s.ctl.OtherJobsSame t.ctl n ∧ s.ctl.OtherPortsSame t.ctl n
                    ∧ t.ctl.slabs = s.ctl.slabs)
                ∧ (mode = .prompt → ∀ d,
                    let p := s.ctl.drive d
                    let q := t.ctl.drive d
                    (∀ k, q.context = some k → k.file.job ≠ n)
                      ∧ (∀ g, q.staged = some g → g.first = true → (t.ctl.slab g.slab).job ≠ some n)
                      ∧ (∀ g, p.staged = some g → g.first = true → (s.ctl.slab g.slab).job = some n →
                          (∀ y ∈ g.slab :: p.writeQueue, y.val < 508) →
                          ∃ pre post, p.writeQueue = pre ++ post ∧ (∀ y ∈ pre, s.ctl.age g.slab ≤ s.ctl.age y)
                            ∧ (∀ y, post.head? = some y → s.ctl.age y < s.ctl.age g.slab)
                            ∧ g.slab ∈ q.writeQueue ∧ q.writeQueue.Sublist (pre ++ g.slab :: post))
                      ∧ (∀ g, p.staged = some g → g.first = false → p.link.flight ≠ none → q.staged = some g)
                      ∧ ∀ k, p.context = some k → k.file.job = n →
                          ∃ rest, q.verifyQueue = k.file :: rest ∧ rest.Sublist p.verifyQueue)))

/-- JOB_RESUME. In HELD (R17, R10, R8): HOLD_PERSISTS when no cause is marked ready. Otherwise the ready causes are removed
and the pending ones stay; with none left the job is RUNNING and its last release cause is the last removed, in the order
CARD_GONE, then the destination list; the reply lists the removed and the left causes. In SUSPENDED (R23): RUNNING with an
empty hold set and HELD otherwise, suspend mode NONE, no cause removed and the last release cause kept. A closed job with
no file and no source slab ends COMPLETE instead. -/
def Obligations.JobResumeLeavesHeldOrSuspended : Prop :=
  ∀ (s : State) (f : RxFrame) (n : CardNo), s.Takes .jobResume f → f.payload = [BitVec.ofNat 8 n.val] →
    let j := s.ctl.job n
    let h := j.holds
    let g := h.destGone
    let anyReady := h.cardGone = some .ready ∨ ∃ d : DriveNo, h.destGone[d] = some .ready
    let removed := fun (m : Option Mark) => if m = some .ready then (1 : Byte) else 0
    let left := fun (m : Option Mark) => if m = some .ready then none else m
    let h' : HoldSet := { cardGone := left h.cardGone, destGone := h.destGone.map left }
    let last := match (j.dests.filter fun e => h.destGone[e.port] == some .ready).getLast? with
      | some e => ReleaseCause.destGone e.port
      | none => .cardGone
    let j' := if h'.isEmpty then { j with holds := h', state := .running, lastRelease := last }
      else { j with holds := h' }
    (j.state = .held → ¬anyReady → exec .jobResume s = .next (s.refusedFor f .holdPersists))
      ∧ (j.state = .held → anyReady → ∃ t, exec .jobResume s = .next t
          ∧ s.DoneIn t f [BitVec.ofNat 8 n.val, removed h.cardGone, removed h.destGone[0], removed h.destGone[1],
              removed h.destGone[2], removed h.destGone[3], markCode h'.cardGone, markCode h'.destGone[0],
              markCode h'.destGone[1], markCode h'.destGone[2], markCode h'.destGone[3]]
          ∧ t.ctl.job n =
              (if j.closed = true ∧ s.ctl.queue n = [] ∧ s.ctl.sourceCount n = 0 then j'.endedComplete else j')
          ∧ s.ctl.OtherJobsSame t.ctl n ∧ s.ctl.OtherPortsSame t.ctl n ∧ t.ctl.files = s.ctl.files)
      ∧ (j.state = .suspended → ∃ t, exec .jobResume s = .next t
          ∧ s.DoneIn t f [BitVec.ofNat 8 n.val, 0, 0, 0, 0, 0, markCode h.cardGone, markCode g[0], markCode g[1],
              markCode g[2], markCode g[3]]
          ∧ (t.ctl.job n).suspend = .none ∧ (t.ctl.job n).lastRelease = j.lastRelease
          ∧ (if j.closed = true ∧ t.ctl.queue n = [] ∧ t.ctl.sourceCount n = 0 then
              (t.ctl.job n).state = .ended ∧ (t.ctl.job n).endReason = .complete
             else (t.ctl.job n).state = (if h.isEmpty then .running else .held) ∧ (t.ctl.job n).holds = h))

/-- JOB_DROP (R18, R51, R152, R27): BAD_FIELD for a port outside the job's list; nothing but DONE for one already
DROPPED. A LIVE one becomes DROPPED, its hold cause goes, every result on it that is not final becomes DROPPED in files that
were not COMPLETE, while those that were stay as they stand (R53), and the port holds no verify work of the job, no write
entry of its slabs and no WRITE of them staged, and owes none of its FILLED slabs a write any more. With no LIVE port left
the job stops for want of destinations, even where the drop completes the last file of a closed job with no slab (the
model's choice, log 38); with one left, a job held for that cause alone goes on RUNNING. -/
def Obligations.JobDropDropsADestination : Prop :=
  ∀ (s : State) (f : RxFrame) (n : CardNo) (b : Byte), s.Takes .jobDrop f → f.payload = [BitVec.ofNat 8 n.val, b] →
    availability .jobDrop (s.ctl.job n).state = none →
    let j := s.ctl.job n
    ((∀ e ∈ j.dests, e.port.val ≠ b.toNat) → exec .jobDrop s = .next (s.refusedFor f .badField))
      ∧ ∀ (d : DriveNo) (e : Dest), b.toNat = d.val → j.dests.find? (fun e => e.port == d) = some e →
        (e.live = false → exec .jobDrop s = .next (s.doneOnly f []))
          ∧ (e.live = true →
              let dests := j.dests.map fun e => if e.port = d then { e with live := false } else e
              ∃ t, exec .jobDrop s = .next t ∧ s.DoneIn t f [] ∧ (t.ctl.job n).dests = dests
                ∧ (t.ctl.job n).holds.destGone[d] = none
                ∧ (s.ctl.FileNamesFresh → ∀ g ∈ t.ctl.queue n, ∃ g0 ∈ s.ctl.queue n, g0.ref = g.ref
                    ∧ (g0.isComplete = true → g = g0)
                    ∧ (g0.isComplete = false → g.dests = g0.dests.map fun e =>
                        if e.port = d ∧ (e.result = .pending ∨ (e.result = .written ∧ j.verify = .readback)) then
                          { e with result := .dropped }
                        else e))
                ∧ (∀ x ∈ (t.ctl.drive d).writeQueue, (s.ctl.slab x).job ≠ some n)
                ∧ ((∀ w, (s.ctl.drive d).writing = some w → (s.ctl.slab w.slab).inFlight[d] = true) →
                    ∀ y, (t.ctl.drive d).staged = some y → (s.ctl.slab y.slab).job ≠ some n)
                ∧ (∀ x, (s.ctl.slab x).isFilledOf n = true → (t.ctl.slab x).pendingWrites[d] = false)
                ∧ (∀ r ∈ (t.ctl.drive d).verifyQueue, r.job ≠ n)
                ∧ (∀ k, (t.ctl.drive d).context = some k → k.file.job ≠ n)
                ∧ ((∀ e ∈ dests, e.live = false) →
                    ((t.ctl.job n).state = .stopping ∨ (t.ctl.job n).state = .ended)
                      ∧ (t.ctl.job n).endReason = .noDestination)
                ∧ ((∃ e ∈ dests, e.live = true) → j.state = .held → j.holds.destGone[d] ≠ none →
                    (j.holds.setDest d none).isEmpty = true → t.ctl.queue n ≠ [] →
                    (t.ctl.job n).state = .running ∧ (t.ctl.job n).lastRelease = .destGone d)
                ∧ ∀ m, m ≠ n → t.ctl.queue m = s.ctl.queue m)

/-- JOB_STOP (R24, R25, R26, R152): in STOPPING nothing but DONE. Otherwise the job enters STOPPING with end reason STOPPED and
its work leaves every drive: its write entries, its staged WRITEs and its verify work. When nothing of it is under way its slabs are freed, its unfinished files are
COMPLETE, and with the last of them retired it is ENDED. The hold set is kept until then. -/
def Obligations.JobStopStops : Prop :=
  ∀ (s : State) (f : RxFrame) (n : CardNo), s.Takes .jobStop f → f.payload = [BitVec.ofNat 8 n.val] →
    availability .jobStop (s.ctl.job n).state = none →
    let j := s.ctl.job n
    (j.state = .stopping → exec .jobStop s = .next (s.doneOnly f []))
      ∧ (j.state ≠ .stopping → ∃ t, exec .jobStop s = .next t ∧ s.DoneIn t f []
          ∧ (t.ctl.job n).endReason = .stopped ∧ (t.ctl.job n).suspend = .none ∧ (t.ctl.job n).faultCause = .none
          ∧ (t.ctl.job n).dests = j.dests ∧ (t.ctl.job n).lastRelease = j.lastRelease
          ∧ ((t.ctl.job n).state = .stopping ∨ (t.ctl.job n).state = .ended)
          ∧ ((t.ctl.job n).state = .stopping → (t.ctl.job n).holds = j.holds
              ∧ (t.ctl.queue n ≠ [] ∨ t.ctl.txnOf n = true ∨ t.ctl.digestOf n = true))
          ∧ ((t.ctl.job n).state = .ended → (t.ctl.job n).holds.isEmpty = true ∧ t.ctl.queue n = []
              ∧ t.ctl.sourceCount n = 0)
          ∧ (t.ctl.txnOf n = false → t.ctl.digestOf n = false →
              t.ctl.sourceCount n = 0 ∧ ∀ g ∈ t.ctl.queue n, ∃ o, g.state = .complete o)
          ∧ (∀ d,
              let q := t.ctl.drive d
              (∀ r ∈ q.verifyQueue, r.job ≠ n) ∧ (∀ k, q.context = some k → k.file.job ≠ n)
                ∧ (∀ y ∈ q.writeQueue, (t.ctl.slab y).job ≠ some n
                    ∧ (y.val < 508 → (s.ctl.slab y).pendingWrites[d] = true → (s.ctl.slab y).job ≠ some n))
                ∧ ∀ g, q.staged = some g → (t.ctl.slab g.slab).job ≠ some n
                    ∧ (g.slab.val < 508 →
                        (s.ctl.slab g.slab).pendingWrites[d] = true ∨ (s.ctl.slab g.slab).inFlight[d] = true →
                        (s.ctl.slab g.slab).job ≠ some n))
          ∧ ∀ m, m ≠ n → t.ctl.queue m = s.ctl.queue m)

/-- JOB_CLEAR (R30, R8): a job faulted CARD_REPLACED is refused PORT_BUSY unless its port is EMPTY, and goes to HELD with
CARD_GONE pending; a job faulted for another cause goes to RUNNING with an empty hold set, else HELD. Cause and failure
count are cleared. A closed job with neither file nor source slab left ends COMPLETE instead. -/
def Obligations.JobClearLeavesFaulted : Prop :=
  ∀ (s : State) (f : RxFrame) (n : CardNo), s.Takes .jobClear f → f.payload = [BitVec.ofNat 8 n.val] →
    (s.ctl.job n).state = .faulted →
    let j := s.ctl.job n
    let holds := if j.faultCause = .cardReplaced then { j.holds with cardGone := some .pending } else j.holds
    (j.faultCause = .cardReplaced → (s.ctl.card n).state ≠ .empty →
        exec .jobClear s = .next (s.refusedFor f .portBusy))
      ∧ ((j.faultCause = .cardReplaced → (s.ctl.card n).state = .empty) →
        ∃ t, exec .jobClear s = .next t ∧ s.DoneIn t f [] ∧ (t.ctl.job n).faultCause = .none
          ∧ (t.ctl.job n).failures = 0 ∧ (t.ctl.job n).lastRelease = j.lastRelease
          ∧ (if j.closed = true ∧ t.ctl.queue n = [] ∧ t.ctl.sourceCount n = 0 then
              (t.ctl.job n).state = .ended ∧ (t.ctl.job n).endReason = .complete
             else (t.ctl.job n).state = (if holds.isEmpty then .running else .held) ∧ (t.ctl.job n).holds = holds))

/-- JOB_FREE of an OPEN or ENDED job (R31, R35, R57, R61): the record returns to its free values, the job's files are
discarded and it waits for no FILE_DONE; the port is unbound, with its record, link, scan and marks as they were; while
JOB_STATE notices are enabled one reports the job as it now is. -/
def Obligations.JobFreeReturnsTheRecord : Prop :=
  ∀ (s : State) (f : RxFrame) (n : CardNo), s.Takes .jobFree f → f.payload = [BitVec.ofNat 8 n.val] →
    availability .jobFree (s.ctl.job n).state = none →
    ∃ t, exec .jobFree s = .next t ∧ s.DoneIn t f [] ∧ t.ctl.job n = Job.freeValues ∧ t.ctl.queue n = []
      ∧ t.ctl.isBound n = false ∧ t.ctl.fileDoneWaiting[n] = false
      ∧ (let p := s.ctl.card n
         t.ctl.card n = { p with pattern := (t.ctl.card n).pattern, lit := (t.ctl.card n).lit })
      ∧ (s.ctl.notices.jobState = true →
          ∃ e ∈ t.ctl.outq, e.kind = .notice (.jobState n) ∧ e.payload = t.ctl.jobStatePayload n)
      ∧ s.ctl.OtherJobsSame t.ctl n ∧ s.ctl.OtherPortsSame t.ctl n ∧ t.ctl.slabs = s.ctl.slabs
      ∧ t.ctl.waitList = s.ctl.waitList

/-! ## Residue scans -/

/-- SCAN_START (R166, R167, R70): the checks of R166 in order; taken, the record holds the request, the first chunk of at
most 128 blocks is formed from the end of the range the direction names, and its slab is the lowest free one of the
pool, read at once over an IDLE link, or the port waits for one. No job, drive, file or other card changes. -/
def Obligations.ScanStartChecksThenReads : Prop :=
  ∀ (s : State) (f : RxFrame) (port dir pat : Byte) (first count : List Byte), s.Takes .scanStart f →
    first.length = 6 → count.length = 6 → f.payload = port :: first ++ count ++ [dir, pat] →
    let lo := ofLe first
    let total := ofLe count
    let badField := 7 < port.toNat ∨ 1 < dir.toNat ∨ 2 < pat.toNat ∨ total = 0
    (badField → exec .scanStart s = .next (s.refusedFor f .badField))
      ∧ (¬badField → ∀ n : CardNo, port.toNat = n.val →
          let p := s.ctl.card n
          let state := (s.ctl.job n).state
          let busy := p.scan.phase ≠ .none ∨ ¬(state = .free ∨ state = .opened ∨ state = .ended)
          (p.state ≠ .ready → exec .scanStart s = .next (s.refusedFor f .portNotReady))
            ∧ (p.state = .ready → busy → exec .scanStart s = .next (s.refusedFor f .portBusy))
            ∧ (p.state = .ready → ¬busy → p.capacity < lo + total →
                exec .scanStart s = .next (s.refusedFor f .outOfRange))
            ∧ (p.state = .ready → ¬busy → lo + total ≤ p.capacity → s.ctl.waits n = none →
                let size := if total ≤ 128 then total else 128
                let start := if dir = 0 then lo else lo + total - size
                ∃ t, exec .scanStart s = .next t ∧ s.DoneIn t f (port :: first ++ count)
                  ∧ (let q := (t.ctl.card n).scan
                     q.first = lo ∧ q.count = total ∧ q.examined = 0 ∧ q.chunkStart = start ∧ q.chunkSize = size
                       ∧ q.direction = (if dir = 0 then .up else .down)
                       ∧ q.pattern = (if pat = 0 then .zero else if pat = 1 then .ones else .either))
                  ∧ ((∀ x : SlabNo, x.val < 508 → (s.ctl.slab x).state ≠ .free) →
                      (t.ctl.card n).scan.phase = .awaitingSlab ∧ t.ctl.waits n = some .scan)
                  ∧ (∀ x : SlabNo, x.val < 508 → (s.ctl.slab x).state = .free →
                      (∀ y : SlabNo, y.val < x.val → (s.ctl.slab y).state ≠ .free) →
                      (t.ctl.card n).scan.phase = .reading ∧ (t.ctl.card n).scan.slab = some x
                        ∧ (t.ctl.slab x).state = .filling ∧ (t.ctl.slab x).purpose = .scan
                        ∧ (t.ctl.slab x).port = some (.card n) ∧ (t.ctl.slab x).len = 512 * size
                        ∧ t.ctl.lastGranted = n
                        ∧ (p.link.cond = .idle → (t.ctl.card n).link =
                            p.link.sent .read start size p.grade 1000))
                  ∧ s.ctl.OtherJobsSame t.ctl n ∧ s.ctl.OtherPortsSame t.ctl n ∧ t.ctl.job n = s.ctl.job n
                  ∧ t.ctl.files = s.ctl.files))

/-- SCAN_STOP (R170, R169, R172, R75, R74): by the phase, nothing (NONE and ENDING), ENDING until the READ in flight ends (READING),
or the scan's end at once, STOPPED, at the next block not examined, with the port's marks kept (AWAITING_SLAB and CHECKING).
In CHECKING part of the chunk may be examined by then, none of it beyond a block that is not blank; how far is a free value
(log 36). In AWAITING_SLAB the port's entry leaves the wait list and no slab is touched; in CHECKING the chunk's slab is freed,
and goes on to the next waiting port as ReadSpansFillTheirSlabs says of freePoolSlab. The reply says whether a scan ran and whether it ends later; for a scan in ENDING the last byte is the model's
reading (log 34). -/
def Obligations.ScanStopByPhase : Prop :=
  ∀ (s : State) (f : RxFrame) (b : Byte), s.Takes .scanStop f → f.payload = [b] →
    (7 < b.toNat → exec .scanStop s = .next (s.refusedFor f .badField))
      ∧ ∀ n : CardNo, b.toNat = n.val →
        let p := s.ctl.card n
        (p.scan.phase = .none → exec .scanStop s = .next (s.doneOnly f [b, 0, 0]))
          ∧ (p.scan.phase = .ending → exec .scanStop s = .next (s.doneOnly f [b, 1, 0]))
          ∧ (p.scan.phase = .reading → exec .scanStop s = .next
              (({ s with ctl := { s.ctl with
                  cards := s.ctl.cards.set n { p with scan := { p.scan with phase := .ending } } } } : State).doneOnly f
                [b, 1, 1]))
          ∧ (p.scan.phase = .awaitingSlab ∨ p.scan.phase = .checking →
              ∃ t k, exec .scanStop s = .next t ∧ s.DoneIn t f [b, 1, 0] ∧ p.scan.MayHaveExamined s.dram k
                ∧ (t.ctl.card n).scan.phase = .none ∧ (t.ctl.card n).scan.slab = none
                ∧ (t.ctl.card n).residue = p.residue ∧ (t.ctl.card n).cleared = p.cleared
                ∧ (t.ctl.card n).unclean = p.unclean
                ∧ (p.scan.phase = .awaitingSlab → t.ctl.waits n = none
                    ∧ (p.scan.slab = none → t.ctl.waitList = s.ctl.waitList.set n none ∧ t.ctl.slabs = s.ctl.slabs
                        ∧ t.ctl.lastGranted = s.ctl.lastGranted))
                ∧ (p.scan.phase = .checking → ∀ x, p.scan.slab = some x →
                    let freed := s.ctl.freePoolSlab x
                    t.ctl.slabs = freed.slabs ∧ t.ctl.waitList = freed.waitList ∧ t.ctl.lastGranted = freed.lastGranted
                      ∧ ((∀ m, s.ctl.waits m = none) → t.ctl.slab x = Slab.freeValues))
                ∧ (s.ctl.notices.scanDone = true → ∃ e ∈ t.ctl.outq, e.kind = .notice (.scanDone n)
                    ∧ e.payload = [b, 2] ++ leBytes 6 (p.scan.nextAfter (p.scan.examined + k))
                        ++ leBytes 6 (p.scan.examined + k))
                ∧ ∀ m, t.ctl.job m = s.ctl.job m ∧ t.ctl.queue m = s.ctl.queue m)

/-- BLANK_CHECK_END in CHECKING (R169, R109, R167): the chunk's blocks are examined in scan order. The first that is not
blank ends the scan FOUND at that block, sets the residue flag and clears the cleared flag; with none, the next chunk is
formed while blocks remain, and otherwise the scan ends BLANK with the whole count examined. In another phase nothing
changes (log 1). -/
def Obligations.BlankCheckFindsTheFirstResidue : Prop :=
  (∀ (s : State) (n : CardNo), (s.ctl.card n).scan.phase ≠ .checking → exec (.blankCheckEnd n) s = .next s)
    ∧ ∀ (s : State) (n : CardNo) (x : SlabNo), s.inReset = false → (s.ctl.card n).scan.phase = .checking →
      (s.ctl.card n).scan.slab = some x → s.ctl.waits n = none →
      let q := (s.ctl.card n).scan
      let place := fun i => if q.direction = .up then i else q.chunkSize - 1 - i
      let told := fun (t : State) (fields : List Byte) =>
        (t.ctl.card n).scan.phase = .none ∧ (t.ctl.card n).scan.slab = none
          ∧ (s.ctl.notices.scanDone = true →
              ∃ e ∈ t.ctl.outq, e.kind = .notice (.scanDone n) ∧ e.payload = BitVec.ofNat 8 n.val :: fields)
      ∃ t, exec (.blankCheckEnd n) s = .next t ∧ t = { s with ctl := t.ctl } ∧ t.ctl.jobs = s.ctl.jobs
        ∧ t.ctl.files = s.ctl.files ∧ t.ctl.drives = s.ctl.drives
        ∧ (∀ i, i < q.chunkSize → ¬q.BlankAt s.dram x i → (∀ k, k < i → q.BlankAt s.dram x k) →
            told t (1 :: leBytes 6 (q.chunkStart + place i) ++ leBytes 6 (q.examined + i + 1))
              ∧ (t.ctl.card n).residue = true ∧ (t.ctl.card n).cleared = false
              ∧ (t.ctl.card n).unclean = (s.ctl.card n).unclean)
        ∧ ((∀ i, i < q.chunkSize → q.BlankAt s.dram x i) →
            (t.ctl.card n).residue = (s.ctl.card n).residue ∧ (t.ctl.card n).cleared = (s.ctl.card n).cleared
              ∧ (q.count ≤ q.examined + q.chunkSize → told t (0 :: leBytes 6 0 ++ leBytes 6 q.count))
              ∧ (q.examined + q.chunkSize < q.count →
                  let q' := (t.ctl.card n).scan
                  let done := q.examined + q.chunkSize
                  let size := if q.count - done ≤ 128 then q.count - done else 128
                  q'.examined = done ∧ q'.chunkSize = size
                    ∧ q'.chunkStart = (if q.direction = .up then q.first + done else q.first + q.count - done - size)
                    ∧ ((q'.phase = .reading ∧ q'.slab ≠ none)
                        ∨ (q'.phase = .awaitingSlab ∧ t.ctl.waits n = some .scan))))

/-! ## Presence -/

/-- Samples of PRESENT (R116, R135, R118, R137, R155): the first high sample takes an EMPTY or ABSENT port to SETTLING
with a high run of 1; the sample that brings the high run to N takes it to IDENTIFYING with attempt 1 and, over an IDLE
link, its IDENTIFY in flight with the next sequence number. A PRESENT_SAMPLE that is one of the six named samples does what
the named command does (log 8). Where a named sample's condition does not hold nothing changes (log 1). Any sample short of N only
moves the runs. -/
def Obligations.PresenceSamplesSettleAPort : Prop :=
  ∀ s : State, s.inReset = false →
    let capped := fun k => if s.ctl.debounce ≤ k then s.ctl.debounce else k
    (∀ n : CardNo,
        let p := s.ctl.card n
        let settles := p.state = .settling ∧ s.ctl.debounce ≤ p.highRun + 1
        let leaves := p.state ≠ .empty ∧ s.ctl.debounce ≤ p.lowRun + 1
        (p.state = .empty → ∃ t, exec (.cardInsertionBegin n) s = .next t ∧ t = { s with ctl := t.ctl }
            ∧ t.ctl.card n = { p with state := .settling, highRun := 1, lowRun := 0
                                      pattern := (t.ctl.card n).pattern, lit := (t.ctl.card n).lit }
            ∧ s.ctl.OtherPortsSame t.ctl n ∧ t.ctl.jobs = s.ctl.jobs ∧ t.ctl.files = s.ctl.files)
          ∧ (p.state ≠ .empty → exec (.cardInsertionBegin n) s = .next s)
          ∧ (settles → ∃ t, exec (.cardSettled n) s = .next t ∧ t = { s with ctl := t.ctl }
              ∧ (t.ctl.card n).state = .identifying ∧ (t.ctl.card n).attempts = 1
              ∧ (p.link.cond = .idle → (t.ctl.card n).link = p.link.sent .identify 0 0 0 1000)
              ∧ (p.link.cond = .resetting → (t.ctl.card n).link = p.link)
              ∧ s.ctl.OtherPortsSame t.ctl n ∧ t.ctl.jobs = s.ctl.jobs ∧ t.ctl.files = s.ctl.files)
          ∧ (¬settles → exec (.cardSettled n) s = .next s)
          ∧ (p.state = .empty → exec (.presentSample (.card n) true) s = exec (.cardInsertionBegin n) s)
          ∧ (settles → exec (.presentSample (.card n) true) s = exec (.cardSettled n) s)
          ∧ (leaves → exec (.presentSample (.card n) false) s = exec (.cardRemoval n) s)
          ∧ (p.state ≠ .empty → ¬settles →
              exec (.presentSample (.card n) true) s = .next { s with ctl := { s.ctl with
                cards := s.ctl.cards.set n { p with highRun := capped (p.highRun + 1), lowRun := 0 } } })
          ∧ (¬leaves →
              exec (.presentSample (.card n) false) s = .next { s with ctl := { s.ctl with
                cards := s.ctl.cards.set n { p with lowRun := capped (p.lowRun + 1), highRun := 0 } } }))
      ∧ ∀ d : DriveNo,
        let p := s.ctl.drive d
        let settles := p.state = .settling ∧ s.ctl.debounce ≤ p.highRun + 1
        let leaves := p.state ≠ .absent ∧ s.ctl.debounce ≤ p.lowRun + 1
        (p.state = .absent → ∃ t, exec (.driveAttachBegin d) s = .next t ∧ t = { s with ctl := t.ctl }
            ∧ t.ctl.drives = s.ctl.drives.set d { p with state := .settling, highRun := 1, lowRun := 0 }
            ∧ t.ctl.cards = s.ctl.cards ∧ t.ctl.jobs = s.ctl.jobs ∧ t.ctl.files = s.ctl.files)
          ∧ (p.state ≠ .absent → exec (.driveAttachBegin d) s = .next s)
          ∧ (settles → ∃ t, exec (.driveSettled d) s = .next t ∧ t = { s with ctl := t.ctl }
              ∧ (t.ctl.drive d).state = .identifying ∧ (t.ctl.drive d).attempts = 1
              ∧ (p.link.cond = .idle → (t.ctl.drive d).link = p.link.sent .identify 0 0 0 4000)
              ∧ (p.link.cond = .resetting → (t.ctl.drive d).link = p.link)
              ∧ t.ctl.cards = s.ctl.cards ∧ t.ctl.jobs = s.ctl.jobs ∧ t.ctl.files = s.ctl.files)
          ∧ (¬settles → exec (.driveSettled d) s = .next s)
          ∧ (p.state = .absent → exec (.presentSample (.drive d) true) s = exec (.driveAttachBegin d) s)
          ∧ (settles → exec (.presentSample (.drive d) true) s = exec (.driveSettled d) s)
          ∧ (leaves → exec (.presentSample (.drive d) false) s = exec (.driveAbsence d) s)
          ∧ (p.state ≠ .absent → ¬settles →
              exec (.presentSample (.drive d) true) s = .next { s with ctl := { s.ctl with
                drives := s.ctl.drives.set d { p with highRun := capped (p.highRun + 1), lowRun := 0 } } })
          ∧ (¬leaves →
              exec (.presentSample (.drive d) false) s = .next { s with ctl := { s.ctl with
                drives := s.ctl.drives.set d { p with lowRun := capped (p.lowRun + 1), highRun := 0 } } })

/-- CARD_REMOVAL (R117, R11, R171, R128): the port is EMPTY with its record, grade, counts, reader and scan cleared and
the link reset asserted if a transaction was in flight; the cleared and residue flags are clear, and so is the
unclean-end mark unless the removal ends the job: that the job is settled after the marks are cleared is the model's choice
(log 35). An active job holds CARD_GONE pending unless it has ended, and a RUNNING one runs no more. A scan under way
reports CARD_GONE at the next block not examined; how much of a chunk in CHECKING counts is a free value (log 36). Other jobs
and the drives stay. Short of N low samples, or at an EMPTY port, nothing changes (log 1). -/
def Obligations.CardRemovalEmptiesThePort : Prop :=
  ∀ (s : State) (n : CardNo), s.inReset = false →
    let p := s.ctl.card n
    let j := s.ctl.job n
    (p.state = .empty ∨ p.lowRun + 1 < s.ctl.debounce → exec (.cardRemoval n) s = .next s)
      ∧ (p.state ≠ .empty → s.ctl.debounce ≤ p.lowRun + 1 →
        ∃ t k, exec (.cardRemoval n) s = .next t ∧ t = { s with ctl := t.ctl } ∧ p.scan.MayHaveExamined s.dram k
          ∧ (let q := t.ctl.card n
             q.state = .empty ∧ q.highRun = 0 ∧ q.lowRun = 0 ∧ q.attempts = 0 ∧ q.capacity = 0 ∧ q.serial = zeroSerial
               ∧ q.grade = 0 ∧ q.attemptsAtGrade = 0 ∧ q.reader = none ∧ q.cleared = false ∧ q.residue = false
               ∧ ((t.ctl.job n).state = j.state ∨ (t.ctl.job n).state ≠ .ended → q.unclean = false)
               ∧ (q.lampMode = .auto → q.pattern = .off) ∧ q.scan.phase = .none ∧ q.scan.slab = none
               ∧ q.link = (if p.link.flight = none then p.link else { p.link with cond := .resetting }))
          ∧ t.ctl.waits n = none
          ∧ (j.state = .free ∨ j.state = .ended → t.ctl.job n = j)
          ∧ (j.state ≠ .free → j.state ≠ .ended →
              ((t.ctl.job n).state = .ended ∨ (t.ctl.job n).holds.cardGone = some .pending)
                ∧ (t.ctl.job n).state ≠ .running)
          ∧ (p.scan.phase ≠ .none → s.ctl.notices.scanDone = true →
              ∃ e ∈ t.ctl.outq, e.kind = .notice (.scanDone n)
                ∧ e.payload = [BitVec.ofNat 8 n.val, 3] ++ leBytes 6 (p.scan.nextAfter (p.scan.examined + k))
                    ++ leBytes 6 (p.scan.examined + k))
          ∧ t.ctl.drives = s.ctl.drives
          ∧ ∀ m, m ≠ n → t.ctl.job m = s.ctl.job m ∧ t.ctl.queue m = s.ctl.queue m)

/-- DRIVE_ABSENCE (R136, R13, R14, R27, R103): the port is ABSENT with its record and counts cleared, its loss record kept and
the link reset asserted if a transaction was in flight. From READY it drops all its work, and each active job that held
it LIVE drops it or holds DEST_GONE pending, by its drive-gone action, with all that follows (Ctl.LosesDrive; a drop that
completes the last file too: log 38); from any other state no job changes. Short of N low samples, or at an ABSENT port, nothing changes (log 1). -/
def Obligations.DriveAbsenceDropsTheWork : Prop :=
  ∀ (s : State) (d : DriveNo), s.inReset = false →
    let p := s.ctl.drive d
    (p.state = .absent ∨ p.lowRun + 1 < s.ctl.debounce → exec (.driveAbsence d) s = .next s)
      ∧ (p.state ≠ .absent → s.ctl.debounce ≤ p.lowRun + 1 →
        ∃ t, exec (.driveAbsence d) s = .next t ∧ t = { s with ctl := t.ctl }
          ∧ (let q := t.ctl.drive d
             q.state = .absent ∧ q.highRun = 0 ∧ q.lowRun = 0 ∧ q.attempts = 0 ∧ q.capacity = 0 ∧ q.serial = zeroSerial
               ∧ q.loss = p.loss
               ∧ q.link = (if p.link.flight = none then p.link else { p.link with cond := .resetting })
               ∧ (p.state = .ready → q.writeQueue = [] ∧ q.verifyQueue = [] ∧ q.writing = none ∧ q.staged = none
                   ∧ q.context = none))
          ∧ (p.state ≠ .ready → t.ctl.jobs = s.ctl.jobs ∧ t.ctl.files = s.ctl.files)
          ∧ (p.state = .ready → s.ctl.LosesDrive t.ctl d))

/-- A card becomes READY in the port of a job that is neither FREE nor ENDED and holds CARD_GONE (R12, R29, R16, R10). Its
own card: under AUTO the cause is removed, and a HELD job with no other cause runs again, its last release cause CARD_GONE;
under HOST the cause is marked ready. Another card: the job is FAULTED with CARD_REPLACED, CARD_GONE pending, no read is
begun and no file record changes; so no QUEUED file of a job that was OPEN is taken up, which is the model's choice (log 39).
A STOPPING job keeps its cause as it is. A closed job back in RUNNING or HELD with no file and no slab ends COMPLETE (R8).
A job that holds no such cause, or is FREE or ENDED, is not reached, nor any other job. -/
def Obligations.ReturnedCardsReleaseOrFault : Prop :=
  ∀ (c : Ctl) (n : CardNo) (f : Flight) (cap : Nat) (ser : Serial), f.kind = .identify → 0 < cap →
    let t := c.endTxn (.card n) f .good cap ser
    let j := c.job n
    let j' := t.job n
    let active := j.state ≠ .free ∧ j.state ≠ .ended
    let own := active ∧ j.holds.cardGone ≠ none ∧ j.serial = ser
    let free : HoldSet := { j.holds with cardGone := none }
    let released :=
      if j.cardRelease = .host then { j with holds := { j.holds with cardGone := some .ready } }
      else if j.state = .held ∧ free.isEmpty = true then
        { j with holds := free, state := .running, lastRelease := .cardGone }
      else { j with holds := free }
    let ends := j.closed = true ∧ c.queue n = [] ∧ c.sourceCount n = 0
    (own → (j.state = .held → j' = if ends then released.endedComplete else released)
        ∧ (j.state = .opened ∨ j.state = .suspended ∨ j.state = .faulted → j' = released)
        ∧ (j.state = .running ∨ j.state = .suspending ∨ j.state = .stopping →
            j'.lastRelease = j.lastRelease ∧ (j'.state = .ended ∨ j'.holds = released.holds)))
      ∧ (active → j.holds.cardGone ≠ none → j.serial ≠ ser →
          (j.state ≠ .stopping →
              j' = { j with
                holds := { j.holds with cardGone := some .pending }, state := .faulted, faultCause := .cardReplaced
                suspend := .none }
                ∧ (t.card n).link.cond = .idle ∧ (t.card n).reader = (c.card n).reader ∧ t.files = c.files)
            ∧ (j.state = .stopping → j'.state = .ended ∨ j'.holds = j.holds ∧ j'.state = .stopping))
      ∧ (¬active → j' = j) ∧ (j.holds.cardGone = none → j'.state = .ended ∨ j'.holds = j.holds)
      ∧ ∀ m, m ≠ n → t.job m = c.job m

/-- A drive becomes READY (R15, R16, R151, R138). For each job that is neither FREE nor ENDED, holds DEST_GONE for the port
and recorded the drive's serial for it, the cause is removed under AUTO (a HELD job with no other cause runs again, its last
release cause that port) or marked ready under HOST; every other job keeps its hold set. Those jobs that are not STOPPING
have their work back: each FILLED slab that still owes the drive is in the write queue, staged or being written, and under
READBACK each file WRITTEN there is in the verify queue or the context, to be read from offset 0. The write queue is in
fill order, the verify queue in job and file order, and neither holds work of another job. How a READY port takes its work:
an IDLE context takes the oldest verify entry whose job allows verifies, passing over the others, and begins it at offset 0
with nothing folded (R98). Then (R143, R144), with no transaction current, the staged WRITE; with none staged, a ready verify read, else the next
transaction of the writing entry, else the first of the oldest eligible entry, which becomes the writing entry. With one
current and none staged, and no verify read ready, it stages the next transaction of the writing entry, else the first of
the oldest eligible entry, which leaves the queue. What is taken so is all that changes; a port that is not READY takes
nothing. -/
def Obligations.ReturnedDrivesTakeTheirWork : Prop :=
  (∀ (c : Ctl) (d : DriveNo) (f : Flight) (cap : Nat) (ser : Serial), f.kind = .identify → 0 < cap →
    (c.drive d).writeQueue = [] → (c.drive d).verifyQueue = [] → (c.drive d).writing = none →
    (c.drive d).staged = none → (c.drive d).context = none →
    let t := c.endTxn (.drive d) f .good cap ser
    let matching := fun (m : CardNo) =>
      let j := c.job m
      j.state ≠ .free ∧ j.state ≠ .ended ∧ j.holds.destGone[d] ≠ none
        ∧ ((j.dests.find? fun e => e.port == d).any fun e => e.serial == ser) = true
    let atWork := fun (m : CardNo) => matching m ∧ (c.job m).state ≠ .stopping
    (∀ m : CardNo,
        let j := c.job m
        let j' := t.job m
        let free := j.holds.setDest d none
        let released :=
          if j.driveRelease = .host then { j with holds := j.holds.setDest d (some .ready) }
          else if j.state = .held ∧ free.isEmpty = true then
            { j with holds := free, state := .running, lastRelease := .destGone d }
          else { j with holds := free }
        (matching m → j'.lastRelease = released.lastRelease
            ∧ (j'.state = .ended ∨ j'.holds = released.holds
                ∧ (j'.state = released.state ∨ (j.state = .suspending ∧ j'.state = .suspended))))
          ∧ (¬matching m → j'.lastRelease = j.lastRelease ∧ (j'.state = .ended ∨ j'.holds = j.holds))
          ∧ (j'.state = .ended → j.state = .ended ∨ j.state = .stopping
              ∨ ((j.state = .running ∨ j.state = .held) ∧ j.closed = true ∧ t.sourceCount m = 0)))
      ∧ (∀ (m : CardNo) (x : SlabNo) (g : FileRec), atWork m → (c.slab x).isFilledOf m = true →
          (c.slab x).pendingWrites[d] = true → (c.slab x).file.bind c.file? = some g →
          (c.writeTxn d x ((c.slab x).offset / 512)).isSome = true →
          x ∈ (t.drive d).writeQueue ∨ (∃ y, (t.drive d).staged = some y ∧ y.slab = x)
            ∨ ∃ w, (t.drive d).writing = some w ∧ w.slab = x ∧ w.next = (c.slab x).offset / 512)
      ∧ (∀ x ∈ (t.drive d).writeQueue, ∃ m, atWork m ∧ (c.slab x).isFilledOf m = true
          ∧ (c.slab x).pendingWrites[d] = true)
      ∧ (t.drive d).writeQueue.Pairwise (fun x y => c.age y ≤ c.age x)
      ∧ (∀ (m : CardNo) (g : FileRec), atWork m → (c.job m).verify = .readback → g ∈ c.queue m →
          g.resultOn d = some .written →
          g.ref ∈ (t.drive d).verifyQueue ∨ ∃ k, (t.drive d).context = some k ∧ k.file = g.ref ∧ k.nextOffset = 0)
      ∧ ∃ ms : List CardNo, ms.Pairwise (· < ·) ∧ (∀ m ∈ ms, atWork m ∧ (c.job m).verify = .readback)
          ∧ (t.drive d).verifyQueue.Sublist
              (ms.flatMap fun m => ((c.queue m).filter fun g => g.resultOn d == some .written).map (·.ref)))
    ∧ (∀ (c : Ctl) (d : DriveNo), (c.drive d).state ≠ .ready → c.pump d = c)
    ∧ (∀ (c : Ctl) (d : DriveNo) (pre post : List FileRef) (r : FileRef), (c.drive d).state = .ready →
      (c.drive d).context = none → (c.drive d).verifyQueue = pre ++ r :: post →
      (∀ q ∈ pre, ¬(c.job q.job).LetsWorkGoOn) → (c.job r.job).LetsWorkGoOn →
      let taken := { c.drive d with
        verifyQueue := pre ++ post
        context := some
          { file := r, nextOffset := 0, span := none, nextBlock := 0, acc := { a := 0, b := 0, words := 0 } } }
      c.pump d = Ctl.pump { c with drives := c.drives.set d taken } d)
    ∧ ∀ (c : Ctl) (d : DriveNo),
      let p := c.drive d
      let t := c.pump d
      let q := t.drive d
      let ready := ∃ k f sp b, c.VerifyReadIs d k f sp b
      let goesOn := ∃ x b, c.NextWriteIs d x b
      p.state = .ready → (p.context = none → ∀ r ∈ p.verifyQueue, ¬(c.job r.job).LetsWorkGoOn) →
      (p.link.cond = .idle →
          (∀ g start count, p.staged = some g → c.writeTxn d g.slab g.block = some (start, count) →
              q.link = p.link.sent .write start count 0 4000 ∧ q.failed = 0
                ∧ q.writing = (if g.first then some { slab := g.slab, next := g.block } else p.writing)
                ∧ (g.first = true → (t.slab g.slab).inFlight[d] = true))
            ∧ (p.staged = none →
                (∀ k f sp b e start count, c.VerifyReadIs d k f sp b → f.dest? d = some e →
                    txnAt e.extents b (sp.offset / 512 + (sp.len + 511) / 512) = some (start, count) →
                    q.link = p.link.sent .read start count 0 4000 ∧ q.failed = 0 ∧ q.writing = p.writing
                      ∧ q.context = some { k with span := some sp, nextBlock := b }
                      ∧ (k.span = none → t.slab (verifySlab d) = { Slab.freeValues with
                          state := .filling, purpose := .verify, port := some (.drive d), file := some k.file
                          offset := sp.offset, len := sp.len }))
                  ∧ (¬ready →
                      (∀ x b start count, c.NextWriteIs d x b → c.writeTxn d x b = some (start, count) →
                          q.link = p.link.sent .write start count 0 4000 ∧ q.failed = 0 ∧ q.writing = p.writing)
                        ∧ (¬goesOn → ∀ pre x post start count, c.OldestEntryIs d pre x post →
                            c.writeTxn d x ((c.slab x).offset / 512) = some (start, count) →
                            q.link = p.link.sent .write start count 0 4000 ∧ q.failed = 0
                              ∧ q.writing = some { slab := x, next := (c.slab x).offset / 512 }
                              ∧ (t.slab x).inFlight[d] = true ∧ q.writeQueue.Sublist (pre ++ post))
                        ∧ (¬goesOn → (∀ x ∈ p.writeQueue, ¬c.EntryMayGo x) → t = c))))
        ∧ (p.link.flight ≠ none →
            let stages := fun (g : Staged) (queue : List SlabNo) =>
              t = { c with drives := c.drives.set d { p with writeQueue := queue, staged := some g } }
            (p.staged ≠ none ∨ ready → t = c)
              ∧ (p.staged = none → ¬ready →
                  (∀ x b, c.NextWriteIs d x b → stages { slab := x, block := b, first := false } p.writeQueue)
                    ∧ (¬goesOn → ∀ pre x post, c.OldestEntryIs d pre x post →
                        stages { slab := x, block := (c.slab x).offset / 512, first := true } (pre ++ post))
                    ∧ (¬goesOn → (∀ x ∈ p.writeQueue, ¬c.EntryMayGo x) → t = c)))

/-! ## Links -/

/-- DATA_BLOCK_RECEIVED with a block of 512 bytes (R158, R159, R160). With no transaction in flight, or with the right
check and another sequence number, it is discarded. Otherwise a READ with blocks still to come counts it, remembers a
wrong check, and puts its bytes at the next place of the slab being filled and nowhere else; any other transaction is
marked check-failed and no memory changes. The check is taken over the 512 bytes (log 9). The next place is behind the
blocks that have come, in the reader's slab from its next block, in the scan's slab, or in the verify slab of an ACTIVE
context's span in hand (R124, R125, R167, R99). -/
def Obligations.DataBlocksFillTheSlab : Prop :=
  (∀ (s : State) (p : PortId) (seq : Byte) (data : List Byte) (check : BitVec 16), s.inReset = false →
    data.length = 512 → s.dramCanonical = true →
    let step := exec (.dataBlockReceived p seq data check) s
    ((s.ctl.link p).flight = none → step = .next s)
      ∧ ∀ f, (s.ctl.link p).flight = some f →
        let ok := crc16 data = check
        let withFlight := fun (g : Flight) => s.ctl.setLink p { cond := .inFlight g, seq := (s.ctl.link p).seq }
        (ok → seq ≠ f.seq → step = .next s)
          ∧ (¬(ok ∧ seq ≠ f.seq) → ¬(f.kind = .read ∧ f.blocks < f.count) →
              step = .next { s with ctl := withFlight { f with checkFailed := true } })
          ∧ (¬(ok ∧ seq ≠ f.seq) → f.kind = .read → f.blocks < f.count →
              ∃ t, step = .next t
                ∧ t = { s with
                    dram := t.dram
                    ctl := withFlight
                      { f with blocks := f.blocks + 1, checkFailed := f.checkFailed || decide (¬ok) } }
                ∧ ((∀ x i, s.ctl.blockPlace p f = some (x, i) → 128 ≤ i) → t.dram = s.dram)
                ∧ ∀ x i, s.ctl.blockPlace p f = some (x, i) → i < 128 →
                    (∀ (k : Nat) (h : k < data.length), readByte t.dram (65536 * x.val + 512 * i + k) = data[k])
                      ∧ ∀ a, a < 65536 * x.val + 512 * i ∨ 65536 * x.val + 512 * i + 512 ≤ a →
                          readByte t.dram a = readByte s.dram a))
    ∧ ∀ (c : Ctl) (f : Flight),
      (∀ (n : CardNo) (r : Reader), (c.card n).reader = some r →
          c.blockPlace (.card n) f = some (r.slab, r.next - (c.slab r.slab).offset / 512 + f.blocks))
        ∧ (∀ (n : CardNo) (x : SlabNo), (c.card n).reader = none → (c.card n).scan.slab = some x →
            c.blockPlace (.card n) f = some (x, f.blocks))
        ∧ ∀ (d : DriveNo) (k : Context) (sp : Span) (x : SlabNo), (c.drive d).readAbandoned = false →
            (c.drive d).context = some k → k.span = some sp → x.val = 508 + d.val →
            c.blockPlace (.drive d) f = some (x, k.nextBlock - sp.offset / 512 + f.blocks)

/-- STATUS_RECORD_RECEIVED and LINK_TIMEOUT (R159, R162, R163): with no transaction in flight a record is discarded
(R159) and a timeout, whose timer does not run, changes nothing (log 1); discarded too is a record with the right check and another sequence number. Otherwise the transaction ends: TIMEOUT; LINK_CHECK for a
wrong check, an unknown code, a block whose check failed, or a READ reported GOOD with blocks missing; else the code's
outcome. Byte layout and codes of the record: log 10. -/
def Obligations.StatusRecordsFormTheOutcome : Prop :=
  ∀ (s : State) (p : PortId) (seq code : Byte) (id : Option (BitVec 48 × Serial)) (check : BitVec 16),
    s.inReset = false →
    let step := exec (.statusRecordReceived p seq code id check) s
    ((s.ctl.link p).flight = none → step = .next s ∧ exec (.linkTimeout p) s = .next s)
      ∧ ∀ f, (s.ctl.link p).flight = some f →
        let record := [seq, code] ++ (match id with | none => [] | some (c, ser) => leBytes 6 c.toNat ++ ser.toList)
        let ok := crc16 record = check
        let ends := fun (o : TxnOutcome) (cap : Nat) (ser : Serial) =>
          (.next { s with ctl := s.ctl.endTxn p f o cap ser } : Host.Outcome State Fault Refusal)
        let cap := match id with | none => 0 | some (c, _) => c.toNat
        let ser := match id with | none => zeroSerial | some (_, ser) => ser
        exec (.linkTimeout p) s = ends .timeout 0 zeroSerial
          ∧ (ok → seq ≠ f.seq → step = .next s)
          ∧ (¬ok → step = ends .linkCheck cap ser)
          ∧ (ok → seq = f.seq →
              (4 < code.toNat ∨ f.checkFailed = true ∨ (f.kind = .read ∧ code = 0 ∧ f.blocks < f.count) →
                  step = ends .linkCheck cap ser)
                ∧ (f.checkFailed = false →
                    (code = 0 → (f.kind = .read → f.count ≤ f.blocks) → step = ends .good cap ser)
                      ∧ (code = 1 → step = ends .mediaError cap ser) ∧ (code = 2 → step = ends .rangeError cap ser)
                      ∧ (code = 3 → step = ends .notReady cap ser)
                      ∧ (code = 4 → step = ends .protectedMedium cap ser)))

/-- What an IDENTIFY comes to (R118, R119, R120, R137, R155): GOOD with a capacity above 0 makes the port READY with that
capacity and serial; anything else is a failed attempt, followed by another IDENTIFY below 3 attempts and by ERROR at
the third. LINK_RESET_EXPIRY makes a RESETTING link IDLE and issues the IDENTIFY of a port that waits in IDENTIFYING
(log 23), and changes nothing else; at a link that is not RESETTING it changes nothing (log 1). -/
def Obligations.IdentifyDecidesThePort : Prop :=
  (∀ (c : Ctl) (f : Flight) (o : TxnOutcome) (cap : Nat) (ser : Serial), f.kind = .identify →
    (∀ n : CardNo,
        let t := (c.endTxn (.card n) f o cap ser).card n
        let p := c.card n
        (o = .good → 0 < cap → t.state = .ready ∧ t.capacity = cap ∧ t.serial = ser ∧ t.attempts = 0)
          ∧ (o ≠ .good ∨ cap = 0 → p.attempts < 3 →
              t = { p with attempts := p.attempts + 1, link := p.link.sent .identify 0 0 0 1000 })
          ∧ (o ≠ .good ∨ cap = 0 → 3 ≤ p.attempts → t.state = .error ∧ t.link.cond = .idle))
      ∧ ∀ d : DriveNo,
        let t := (c.endTxn (.drive d) f o cap ser).drive d
        let p := c.drive d
        (o = .good → 0 < cap → t.state = .ready ∧ t.capacity = cap ∧ t.serial = ser ∧ t.attempts = 0 ∧ t.loss = none)
          ∧ (o ≠ .good ∨ cap = 0 → p.attempts < 3 →
              t = { p with attempts := p.attempts + 1, link := p.link.sent .identify 0 0 0 4000 })
          ∧ (o ≠ .good ∨ cap = 0 → 3 ≤ p.attempts →
              t = { p with state := .error, link := { p.link with cond := .idle } }))
    ∧ ∀ (s : State) (p : PortId), s.inReset = false →
      let l := s.ctl.link p
      let waiting := match p with
        | .card n => (s.ctl.card n).state == .identifying
        | .drive d => (s.ctl.drive d).state == .identifying
      let period := match p with | .card _ => 1000 | .drive _ => 4000
      (l.cond ≠ .resetting → exec (.linkResetExpiry p) s = .next s)
        ∧ (l.cond = .resetting → waiting = false →
            exec (.linkResetExpiry p) s = .next { s with ctl := s.ctl.setLink p { l with cond := .idle } })
        ∧ (l.cond = .resetting → waiting = true →
            exec (.linkResetExpiry p) s = .next { s with ctl := s.ctl.setLink p (l.sent .identify 0 0 0 period) })

/-- How a READ ends at a card port. A failed attempt of a span that may go on, or of a chunk that a scan reads, is issued
again: below 3 at its grade, and at the third one grade slower where one is left (R122, R121). Failing at the last grade, or
at once, the span's file takes the source result FAILED with its read offset kept, every result that is not final is
SKIPPED and its work is withdrawn, its failures rise, and at 3 the job is FAULTED (R123, R45, R47, R28); a scan ends
READ_FAILED at the chunk's first block (R168). A GOOD chunk waits to be checked. A span that may not go on, of a job whose
state forbids it or of a file that an over-fold made UNREADABLE meanwhile, is discarded whatever the outcome: its slab is freed
and no offset, result or count changes (R126, R67, R46). A scan stopped meanwhile ends STOPPED (R170). -/
def Obligations.CardReadsEnd : Prop :=
  ∀ (c : Ctl) (n : CardNo) (f : Flight) (o : TxnOutcome) (cap : Nat) (ser : Serial), c.FileNamesFresh →
    f.kind = .read → c.waits n = none →
    let p := c.card n
    let j := c.job n
    let t := c.endTxn (.card n) f o cap ser
    let q := t.card n
    let again := fun (attempts grade : Nat) =>
      q.attemptsAtGrade = attempts ∧ q.grade = grade ∧ q.link = p.link.sent .read f.start f.count grade 1000
        ∧ q.reader = p.reader ∧ q.scan = p.scan ∧ t.slabs = c.slabs ∧ t.files = c.files ∧ t.drives = c.drives
    let climbs := o.IsFailedAttempt → (p.attemptsAtGrade < 2 → again (p.attemptsAtGrade + 1) p.grade)
      ∧ (2 ≤ p.attemptsAtGrade → p.grade < 3 → again 0 (p.grade + 1))
    let fails := o.IsFailureAtOnce ∨ (o.IsFailedAttempt ∧ 2 ≤ p.attemptsAtGrade ∧ 3 ≤ p.grade)
    (∀ (r : Reader) (g : FileRec), p.reader = some r → (c.slab r.slab).file = some g.ref → c.file? g.ref = some g →
        g.ref.job = n →
        (j.LetsWorkGoOn → g.state = .reading →
            climbs ∧ (fails → g.result = .pending → (∀ h ∈ c.queue n, h.state = .queued → 0 < h.len) →
              (t.slab r.slab).file ≠ some g.ref
                ∧ (∀ g', t.file? g.ref = some g' → g'.result = .failed ∧ g'.state ≠ .reading
                    ∧ g'.readOffset = g.readOffset ∧ g'.acc = g.acc
                    ∧ g'.dests = g.dests.map fun e =>
                        if e.result = .pending ∨ (e.result = .written ∧ j.verify = .readback) then
                          { e with result := .skipped }
                        else e)
                ∧ ((c.slab r.slab).state = .filling → c.WithdrawsFile t g.ref)
                ∧ (t.job n).failures = min 3 (j.failures + 1) ∧ (t.job n).bytesRead = j.bytesRead
                ∧ (2 ≤ j.failures → j.state ≠ .faulted → (t.job n).state = .faulted
                    ∧ (t.job n).faultCause = .cardUnreadable ∧ (t.job n).suspend = .none)
                ∧ (j.failures < 2 → j.state ≠ .faulted → (t.job n).state ≠ .faulted)))
          ∧ (¬(j.LetsWorkGoOn ∧ g.state = .reading) →
              (t.slab r.slab).file ≠ some g.ref
                ∧ (∀ g', t.file? g.ref = some g' → g'.result = g.result ∧ g'.readOffset = g.readOffset
                    ∧ g'.dests = g.dests)
                ∧ (t.job n).failures = j.failures ∧ (t.job n).bytesRead = j.bytesRead
                ∧ (¬j.LetsWorkGoOn → q.reader = none ∧ q.link.cond = .idle)))
      ∧ (p.reader = none → p.scan.phase = .reading ∨ p.scan.phase = .ending →
          let told := fun (code : Byte) (addr : Nat) =>
            q.scan.phase = .none ∧ q.scan.slab = none ∧ t.jobs = c.jobs ∧ t.files = c.files
              ∧ (c.notices.scanDone = true → ∃ e ∈ t.outq, e.kind = .notice (.scanDone n)
                  ∧ e.payload = [BitVec.ofNat 8 n.val, code] ++ leBytes 6 addr ++ leBytes 6 p.scan.examined)
          (p.scan.phase = .ending → told 2 (p.scan.nextAfter p.scan.examined))
            ∧ (p.scan.phase = .reading → climbs ∧ (fails → told 4 p.scan.chunkStart)
                ∧ ∀ x, o = .good → p.scan.slab = some x →
                    q.scan = { p.scan with phase := .checking } ∧ q.attemptsAtGrade = 0 ∧ q.link.cond = .idle
                      ∧ t.slabs = c.slabs.set x { c.slab x with state := .filled }))

/-- A READ of a span that may go on ends GOOD (R122, R125, R127, R66, R64, R88, R43, R34, R41). With blocks left the next READ
is issued at the span's next block: the device block its extent gives it, at most 128, within span and extent. With none
left the slab becomes FILLED: its fill sequence is the counter's value and the counter rises, it joins the digest FIFO at
the tail, its pending-write set is the LIVE destinations on which its file is PENDING, and (as the slab is queued) each of
these takes a write entry at its queue's tail unless DEST_GONE for it is pending. The read offset and the bytes read rise by
the span's length, and a file read to its end becomes DRAINING. Where a reader's slab request stands (R72), it is granted the
lowest FREE pool slab at once, with the READING file's next span, whose first READ is sent, or it joins the wait list (R73,
R65, R124); where it does not stand, nothing changes. A pool slab that becomes FREE goes to the waiting port next after the
last granted one, wrapping from C7 to C0, for the purpose it asked for, or stays FREE where none waits (R74). -/
def Obligations.ReadSpansFillTheirSlabs : Prop :=
  (∀ (c : Ctl) (n : CardNo) (f : Flight) (cap : Nat) (ser : Serial) (r : Reader) (g : FileRec), c.FileNamesFresh →
    f.kind = .read → (c.card n).reader = some r → c.file? g.ref = some g → g.ref.job = n → g.state = .reading →
    g.result = .pending → (c.job n).LetsWorkGoOn → (c.slab r.slab).purpose = .source → (c.slab r.slab).state = .filling →
    (c.slab r.slab).job = some n → (c.slab r.slab).file = some g.ref →
    let x := c.slab r.slab
    let t := c.endTxn (.card n) f .good cap ser
    let next := r.next + f.count
    let stop := x.offset / 512 + (x.len + 511) / 512
    let done := g.readOffset + x.len = g.len
    (next < stop → (t.card n).reader = some { r with next := next } ∧ t.files = c.files ∧ t.slabs = c.slabs
        ∧ (t.card n).attemptsAtGrade = 0
        ∧ ∀ (pre post : List Extent) (e : Extent) (k : Nat), g.source = pre ++ e :: post →
            (pre.map (·.count)).sum + k = next → k < e.count →
            (t.card n).link = (c.card n).link.sent .read (e.start + k) (min 128 (min (stop - next) (e.count - k)))
              (c.card n).grade 1000)
      ∧ (stop ≤ next →
          let y := t.slab r.slab
          y.state = .filled ∧ y.fillSeq = c.fillSeq ∧ t.fillSeq = (c.fillSeq + 1) % 2 ^ 32
            ∧ y.file = x.file ∧ y.offset = x.offset ∧ y.len = x.len ∧ y.digested = x.digested
            ∧ (∀ d : DriveNo, y.pendingWrites[d] = ((c.job n).dests.any (fun e => e.port == d && e.live)
                && (g.dests.find? fun e => e.port == d).any fun e => e.result == .pending))
            ∧ t.digest = { c.digest with fifo := c.digest.fifo ++ [r.slab] }
            ∧ t.file? g.ref = some { g with
                readOffset := g.readOffset + x.len, state := if done then .draining else .reading }
            ∧ (t.job n).bytesRead = ((c.job n).bytesRead + x.len) % 2 ^ 64
            ∧ ∀ r', (t.card n).reader = some r' → r'.slab ≠ r.slab))
    ∧ (∀ (c : Ctl) (n : CardNo) (x : SlabNo) (f : FileRec),
      let t := c.fillSlab n x f
      let owed := fun (d : DriveNo) =>
        (c.job n).dests.any (fun e => e.port == d && e.live)
          && (f.dests.find? fun e => e.port == d).any fun e => e.result == .pending
      (t.slab x).state = .filled ∧ (t.slab x).fillSeq = c.fillSeq ∧ t.fillSeq = (c.fillSeq + 1) % 2 ^ 32
        ∧ t.digest.fifo = c.digest.fifo ++ [x]
        ∧ (∀ d : DriveNo, (t.slab x).pendingWrites[d] = owed d
            ∧ (t.drive d).writeQueue = (c.drive d).writeQueue
                ++ (if owed d = true ∧ (c.job n).holds.destGone[d] ≠ some .pending then [x] else []))
        ∧ (∀ y, y ≠ x → t.slab y = c.slab y) ∧ t.jobs = c.jobs ∧ t.files = c.files ∧ t.cards = c.cards
        ∧ t.outq = c.outq)
    ∧ (∀ (c : Ctl) (n : CardNo) (g : FileRec) (pre post : List FileRec), c.FileNamesFresh →
      c.queue n = pre ++ g :: post → (∀ h ∈ pre, h.state ≠ .reading) → g.state = .reading →
      let p := c.card n
      let t := c.raiseSource n
      let stands := (c.job n).state = .running ∧ g.readOffset < g.len ∧ c.sourceCount n < (c.job n).quota
        ∧ p.state = .ready ∧ p.reader = none ∧ p.link.cond = .idle
      (¬stands → t = c)
        ∧ (stands → c.waits n = none →
            ((∀ x : SlabNo, x.val < 508 → (c.slab x).state ≠ .free) →
                t = { c with waitList := c.waitList.set n (some .source) })
              ∧ ∀ x : SlabNo, x.val < 508 → (c.slab x).state = .free →
                  (∀ y : SlabNo, y.val < x.val → (c.slab y).state ≠ .free) →
                  let len := min 65536 (g.len - g.readOffset)
                  let first := g.readOffset / 512
                  t.slab x = { Slab.freeValues with
                      state := .filling, purpose := .source, job := some n, file := some g.ref
                      offset := g.readOffset, len := len }
                    ∧ (∀ y, y ≠ x → t.slab y = c.slab y) ∧ t.waits n = none ∧ t.lastGranted = n
                    ∧ (t.card n).reader = some { slab := x, next := first }
                    ∧ t.jobs = c.jobs ∧ t.files = c.files ∧ t.drives = c.drives
                    ∧ ∀ (before after : List Extent) (e : Extent) (k : Nat), g.source = before ++ e :: after →
                        (before.map (·.count)).sum + k = first → k < e.count →
                        (t.card n).link = p.link.sent .read (e.start + k)
                          (min 128 (min ((len + 511) / 512) (e.count - k))) p.grade 1000))
    ∧ ∀ (c : Ctl) (x : SlabNo),
      let t := c.freePoolSlab x
      let freed := c.slabs.set x Slab.freeValues
      ((∀ n, c.waits n = none) → t = { c with slabs := freed })
        ∧ ∀ (n : CardNo) (u : SlabUse), c.waits n = some u →
            (∀ m : CardNo, (m - c.lastGranted - 1).val < (n - c.lastGranted - 1).val → c.waits m = none) →
            let gives := fun (slab : Slab) =>
              t.slabs = c.slabs.set x slab ∧ t.waitList = c.waitList.set n none ∧ t.lastGranted = n
                ∧ t.jobs = c.jobs ∧ t.files = c.files ∧ t.drives = c.drives ∧ ∀ m, m ≠ n → t.card m = c.card m
            (∀ g pre post, u = .source → (c.job n).state = .running → c.queue n = pre ++ g :: post →
                (∀ h ∈ pre, h.state ≠ .reading) → g.state = .reading → g.readOffset < g.len →
                c.sourceCount n < (c.job n).quota →
                gives { Slab.freeValues with
                  state := .filling, purpose := .source, job := some n, file := some g.ref, offset := g.readOffset
                  len := min 65536 (g.len - g.readOffset) }
                  ∧ (t.card n).reader = some { slab := x, next := g.readOffset / 512 })
              ∧ (u = .scan → (c.card n).scan.phase = .awaitingSlab →
                  gives { Slab.freeValues with
                    state := .filling, purpose := .scan, port := some (.card n)
                    len := 512 * (c.card n).scan.chunkSize }
                    ∧ (t.card n).scan = { (c.card n).scan with phase := .reading, slab := some x })

/-- A WRITE of the writing entry ends GOOD or fails at once (R142, R49, R50, R150, R60, R147). In a job that is STOPPING or
has dropped the drive no result changes and the writing ends; of a GOOD end that is R18's and R25's, and that a failure at
once is discarded there alike is the model's reading (log 29). Otherwise, GOOD on a PENDING result: with blocks left the writing goes on at its
next block, the staged next transaction becoming current; with none left bytes written rise, the drive leaves the slab's
pending-write set, and at L the result is WRITTEN, to be read back under READBACK; a slab that owes nothing more is released
and counted (R69). GOOD on a final result changes none, but the drive leaves the pending-write set. A failure at once makes
a PENDING result WRITE_FAILED, takes the file's work off the drive and the drive off every FILLED slab of the file. Records
are told of as far as the file has not retired. -/
def Obligations.WritesEnd : Prop :=
  ∀ (c : Ctl) (d : DriveNo) (f : Flight) (o : TxnOutcome) (cap : Nat) (ser : Serial) (w : Writing) (n : CardNo)
    (g : FileRec), c.FileNamesFresh → f.kind = .write → (c.drive d).writing = some w → (c.slab w.slab).job = some n →
    (c.slab w.slab).file = some g.ref → c.file? g.ref = some g → g.ref.job = n →
    (c.slab w.slab).state = .filled → (c.slab w.slab).purpose = .source → w.slab ∉ (c.drive d).writeQueue →
    (∀ y, (c.drive d).staged = some y → y.first = true → y.slab ≠ w.slab) →
    let p := c.drive d
    let x := c.slab w.slab
    let j := c.job n
    let t := c.endTxn (.drive d) f o cap ser
    let q := t.drive d
    let stop := x.offset / 512 + (x.len + 511) / 512
    let live := j.state ≠ .stopping ∧ ∃ e ∈ j.dests, e.port = d ∧ e.live = true
    let result := (g.dests.find? fun e => e.port == d).map (·.result)
    let dests := fun (h : FileDest → FileDest) =>
      ∀ g', t.file? g.ref = some g' → g'.dests = g.dests.map fun e => if e.port = d then h e else e
    let leaves := ∀ w', q.writing = some w' → w'.slab ≠ w.slab
    let written := fun (e : FileDest) =>
      { e with
        bytesWritten := e.bytesWritten + x.len
        result := if e.bytesWritten + x.len = g.len then .written else e.result }
    (¬live → o = .good ∨ o.IsFailureAtOnce → dests id ∧ leaves)
      ∧ (live → o = .good → result = some .pending → w.next + f.count < stop →
          (p.staged = none ∨ p.staged = some { slab := w.slab, block := w.next + f.count, first := false }) →
          q.writing = some { w with next := w.next + f.count } ∧ t.files = c.files
            ∧ (t.slab w.slab).pendingWrites = x.pendingWrites
            ∧ (p.state = .ready → p.staged ≠ none → ∀ start count,
                c.writeTxn d w.slab (w.next + f.count) = some (start, count) →
                q.link = p.link.sent .write start count 0 4000 ∧ q.failed = 0))
      ∧ (live → o = .good → result = some .pending → stop ≤ w.next + f.count →
          dests written ∧ leaves ∧ (t.slab w.slab).pendingWrites[d] = false
            ∧ (∀ e, (g.dests.find? fun e => e.port == d) = some e →
                (e.bytesWritten + x.len = g.len → j.verify = .readback →
                    g.ref ∈ q.verifyQueue ∨ ∃ k, q.context = some k ∧ k.file = g.ref)
                  ∧ (e.bytesWritten + x.len ≠ g.len ∨ j.verify = .readback →
                      (if x.digested = true ∧ (∀ i : DriveNo, i ≠ d → x.pendingWrites[i] = false ∧ x.inFlight[i] = false)
                       then (t.slab w.slab).state ≠ .filled ∧ (t.job n).released = (j.released + 1) % 2 ^ 32
                       else (t.slab w.slab).state = .filled ∧ (t.job n).released = j.released))))
      ∧ (live → o = .good → result ≠ some .pending →
          dests id ∧ leaves ∧ (t.slab w.slab).pendingWrites[d] = false)
      ∧ (live → o.IsFailureAtOnce →
          dests (fun e => if e.result = .pending then { e with result := .writeFailed } else e) ∧ leaves
            ∧ (∀ y, (c.slab y).isFilledOfFile g.ref = true → (t.slab y).pendingWrites[d] = false)
            ∧ (∀ y ∈ q.writeQueue, (c.slab y).file ≠ some g.ref)
            ∧ (∀ y, q.staged = some y → (c.slab y.slab).file ≠ some g.ref)
            ∧ (t.job n).failures = j.failures)

/-- A read-back READ ends GOOD or fails at once (R99, R100, R147), or ends with its context abandoned (R148). GOOD: the next
block advances, and with the span whole the verify slab is FILLED and joins the digest FIFO, and the next byte offset rises
by the span's length. Failing at once: the verify slab is given up, a WRITTEN result becomes UNREADABLE and the context
leaves the file. Abandoned: whatever the outcome, the READ is not issued again, no result changes and the drive is not lost.
Records are told of as far as the file has not retired. -/
def Obligations.ReadBacksEnd : Prop :=
  ∀ (c : Ctl) (d : DriveNo) (f : Flight) (o : TxnOutcome) (cap : Nat) (ser : Serial), c.FileNamesFresh →
    f.kind = .read →
    let p := c.drive d
    let t := c.endTxn (.drive d) f o cap ser
    let q := t.drive d
    (∀ (k : Context) (sp : Span), p.readAbandoned = false → p.context = some k → k.span = some sp →
        (c.job k.file.job).state ≠ .stopping → k.file ∉ p.verifyQueue →
        let next := k.nextBlock + f.count
        let stop := sp.offset / 512 + (sp.len + 511) / 512
        (o = .good → next < stop → q.context = some { k with nextBlock := next } ∧ t.files = c.files
            ∧ t.digest = c.digest ∧ (t.slab (verifySlab d)).state = (c.slab (verifySlab d)).state)
          ∧ (o = .good → stop ≤ next →
              q.context = some { k with nextBlock := next, nextOffset := k.nextOffset + sp.len } ∧ t.files = c.files
                ∧ t.digest = { c.digest with fifo := c.digest.fifo ++ [verifySlab d] }
                ∧ (t.slab (verifySlab d)).state = .filled ∧ (t.slab (verifySlab d)).file = (c.slab (verifySlab d)).file
                ∧ (t.slab (verifySlab d)).offset = (c.slab (verifySlab d)).offset
                ∧ (t.slab (verifySlab d)).len = (c.slab (verifySlab d)).len)
          ∧ (o.IsFailureAtOnce → (∀ k', q.context = some k' → k'.file ≠ k.file)
              ∧ (t.slab (verifySlab d)).state ≠ .filled
              ∧ ∀ g g', c.file? k.file = some g → t.file? k.file = some g' →
                  g'.dests = g.dests.map fun e =>
                    if e.port = d ∧ e.result = .written then { e with result := .unreadable } else e))
      ∧ (p.readAbandoned = true → q.readAbandoned = false ∧ q.failed = 0 ∧ q.state = p.state ∧ q.loss = p.loss
          ∧ (t.slab (verifySlab d)).state ≠ .filled
          ∧ ∀ r g g', c.file? r = some g → t.file? r = some g' → g'.dests = g.dests ∧ g'.result = g.result)

/-- Failed attempts at a drive (R147, R149): a failed WRITE, or a failed read-back READ of an ACTIVE context with a span
in hand, is issued again as it stands below 3 attempts and nothing else changes; at the third the port is LOST with its
loss record, its link RESETTING, its record cleared and no work left, and each job that holds the drive LIVE drops it or
holds DEST_GONE pending, with all that follows (R13, R14, R27, R103; a drop that completes the last file too: log 38). -/
def Obligations.ThreeFailuresLoseADrive : Prop :=
  ∀ (c : Ctl) (d : DriveNo) (f : Flight) (o : TxnOutcome) (cap : Nat) (ser : Serial),
    let p := c.drive d
    o = .linkCheck ∨ o = .notReady ∨ o = .timeout →
    (f.kind = .write ∧ p.writing ≠ none)
      ∨ (f.kind = .read ∧ p.readAbandoned = false ∧ ∃ k, p.context = some k ∧ k.span ≠ none) →
    let t := c.endTxn (.drive d) f o cap ser
    (p.failed < 2 → t = { c with drives := c.drives.set d { p with
        failed := p.failed + 1
        link := p.link.sent f.kind f.start f.count 0 4000 } })
      ∧ (2 ≤ p.failed →
          let q := t.drive d
          q.state = .lost ∧ q.loss = some { kind := f.kind, outcome := o } ∧ q.link.cond = .resetting ∧ q.capacity = 0
            ∧ q.serial = zeroSerial ∧ q.writeQueue = [] ∧ q.verifyQueue = [] ∧ q.writing = none ∧ q.staged = none
            ∧ q.context = none ∧ c.LosesDrive t d)
end

