-- ==== Sys2Proof/Laws/State.lean ====
section
/-! SUPPORT. One lemma per field per update of the shared state, so that no later proof unfolds an update; then what the
reads of jobs, ports, slabs and files see after an update of their own kind. -/

namespace Sys2Proof.Machine

variable (c : Ctl)

/-! ## Fields an update leaves -/

@[simp] theorem Ctl.modJob_files (n : CardNo) (f : Job → Job) : (c.modJob n f).files = c.files := rfl
@[simp] theorem Ctl.modJob_nextFile (n : CardNo) (f : Job → Job) : (c.modJob n f).nextFile = c.nextFile := rfl
@[simp] theorem Ctl.modJob_fileDoneTurn (n : CardNo) (f : Job → Job) : (c.modJob n f).fileDoneTurn = c.fileDoneTurn := rfl
@[simp] theorem Ctl.modJob_fileDoneWaiting (n : CardNo) (f : Job → Job) : (c.modJob n f).fileDoneWaiting = c.fileDoneWaiting := rfl
@[simp] theorem Ctl.modJob_slabs (n : CardNo) (f : Job → Job) : (c.modJob n f).slabs = c.slabs := rfl
@[simp] theorem Ctl.modJob_fillSeq (n : CardNo) (f : Job → Job) : (c.modJob n f).fillSeq = c.fillSeq := rfl
@[simp] theorem Ctl.modJob_waitList (n : CardNo) (f : Job → Job) : (c.modJob n f).waitList = c.waitList := rfl
@[simp] theorem Ctl.modJob_lastGranted (n : CardNo) (f : Job → Job) : (c.modJob n f).lastGranted = c.lastGranted := rfl
@[simp] theorem Ctl.modJob_digest (n : CardNo) (f : Job → Job) : (c.modJob n f).digest = c.digest := rfl
@[simp] theorem Ctl.modJob_cards (n : CardNo) (f : Job → Job) : (c.modJob n f).cards = c.cards := rfl
@[simp] theorem Ctl.modJob_drives (n : CardNo) (f : Job → Job) : (c.modJob n f).drives = c.drives := rfl
@[simp] theorem Ctl.modJob_outq (n : CardNo) (f : Job → Job) : (c.modJob n f).outq = c.outq := rfl
@[simp] theorem Ctl.modJob_notices (n : CardNo) (f : Job → Job) : (c.modJob n f).notices = c.notices := rfl
@[simp] theorem Ctl.modJob_linkFault (n : CardNo) (f : Job → Job) : (c.modJob n f).linkFault = c.linkFault := rfl
@[simp] theorem Ctl.modJob_rateCode (n : CardNo) (f : Job → Job) : (c.modJob n f).rateCode = c.rateCode := rfl
@[simp] theorem Ctl.modJob_debounce (n : CardNo) (f : Job → Job) : (c.modJob n f).debounce = c.debounce := rfl
@[simp] theorem Ctl.modJob_freeDraws (n : CardNo) (f : Job → Job) : (c.modJob n f).freeDraws = c.freeDraws := rfl

@[simp] theorem Ctl.modCard_jobs (n : CardNo) (f : CardPort → CardPort) : (c.modCard n f).jobs = c.jobs := rfl
@[simp] theorem Ctl.modCard_files (n : CardNo) (f : CardPort → CardPort) : (c.modCard n f).files = c.files := rfl
@[simp] theorem Ctl.modCard_nextFile (n : CardNo) (f : CardPort → CardPort) : (c.modCard n f).nextFile = c.nextFile := rfl
@[simp] theorem Ctl.modCard_fileDoneTurn (n : CardNo) (f : CardPort → CardPort) : (c.modCard n f).fileDoneTurn = c.fileDoneTurn := rfl
@[simp] theorem Ctl.modCard_fileDoneWaiting (n : CardNo) (f : CardPort → CardPort) : (c.modCard n f).fileDoneWaiting = c.fileDoneWaiting := rfl
@[simp] theorem Ctl.modCard_slabs (n : CardNo) (f : CardPort → CardPort) : (c.modCard n f).slabs = c.slabs := rfl
@[simp] theorem Ctl.modCard_fillSeq (n : CardNo) (f : CardPort → CardPort) : (c.modCard n f).fillSeq = c.fillSeq := rfl
@[simp] theorem Ctl.modCard_waitList (n : CardNo) (f : CardPort → CardPort) : (c.modCard n f).waitList = c.waitList := rfl
@[simp] theorem Ctl.modCard_lastGranted (n : CardNo) (f : CardPort → CardPort) : (c.modCard n f).lastGranted = c.lastGranted := rfl
@[simp] theorem Ctl.modCard_digest (n : CardNo) (f : CardPort → CardPort) : (c.modCard n f).digest = c.digest := rfl
@[simp] theorem Ctl.modCard_drives (n : CardNo) (f : CardPort → CardPort) : (c.modCard n f).drives = c.drives := rfl
@[simp] theorem Ctl.modCard_outq (n : CardNo) (f : CardPort → CardPort) : (c.modCard n f).outq = c.outq := rfl
@[simp] theorem Ctl.modCard_notices (n : CardNo) (f : CardPort → CardPort) : (c.modCard n f).notices = c.notices := rfl
@[simp] theorem Ctl.modCard_linkFault (n : CardNo) (f : CardPort → CardPort) : (c.modCard n f).linkFault = c.linkFault := rfl
@[simp] theorem Ctl.modCard_rateCode (n : CardNo) (f : CardPort → CardPort) : (c.modCard n f).rateCode = c.rateCode := rfl
@[simp] theorem Ctl.modCard_debounce (n : CardNo) (f : CardPort → CardPort) : (c.modCard n f).debounce = c.debounce := rfl
@[simp] theorem Ctl.modCard_freeDraws (n : CardNo) (f : CardPort → CardPort) : (c.modCard n f).freeDraws = c.freeDraws := rfl

@[simp] theorem Ctl.modDrive_jobs (d : DriveNo) (f : DrivePort → DrivePort) : (c.modDrive d f).jobs = c.jobs := rfl
@[simp] theorem Ctl.modDrive_files (d : DriveNo) (f : DrivePort → DrivePort) : (c.modDrive d f).files = c.files := rfl
@[simp] theorem Ctl.modDrive_nextFile (d : DriveNo) (f : DrivePort → DrivePort) : (c.modDrive d f).nextFile = c.nextFile := rfl
@[simp] theorem Ctl.modDrive_fileDoneTurn (d : DriveNo) (f : DrivePort → DrivePort) : (c.modDrive d f).fileDoneTurn = c.fileDoneTurn := rfl
@[simp] theorem Ctl.modDrive_fileDoneWaiting (d : DriveNo) (f : DrivePort → DrivePort) : (c.modDrive d f).fileDoneWaiting = c.fileDoneWaiting := rfl
@[simp] theorem Ctl.modDrive_slabs (d : DriveNo) (f : DrivePort → DrivePort) : (c.modDrive d f).slabs = c.slabs := rfl
@[simp] theorem Ctl.modDrive_fillSeq (d : DriveNo) (f : DrivePort → DrivePort) : (c.modDrive d f).fillSeq = c.fillSeq := rfl
@[simp] theorem Ctl.modDrive_waitList (d : DriveNo) (f : DrivePort → DrivePort) : (c.modDrive d f).waitList = c.waitList := rfl
@[simp] theorem Ctl.modDrive_lastGranted (d : DriveNo) (f : DrivePort → DrivePort) : (c.modDrive d f).lastGranted = c.lastGranted := rfl
@[simp] theorem Ctl.modDrive_digest (d : DriveNo) (f : DrivePort → DrivePort) : (c.modDrive d f).digest = c.digest := rfl
@[simp] theorem Ctl.modDrive_cards (d : DriveNo) (f : DrivePort → DrivePort) : (c.modDrive d f).cards = c.cards := rfl
@[simp] theorem Ctl.modDrive_outq (d : DriveNo) (f : DrivePort → DrivePort) : (c.modDrive d f).outq = c.outq := rfl
@[simp] theorem Ctl.modDrive_notices (d : DriveNo) (f : DrivePort → DrivePort) : (c.modDrive d f).notices = c.notices := rfl
@[simp] theorem Ctl.modDrive_linkFault (d : DriveNo) (f : DrivePort → DrivePort) : (c.modDrive d f).linkFault = c.linkFault := rfl
@[simp] theorem Ctl.modDrive_rateCode (d : DriveNo) (f : DrivePort → DrivePort) : (c.modDrive d f).rateCode = c.rateCode := rfl
@[simp] theorem Ctl.modDrive_debounce (d : DriveNo) (f : DrivePort → DrivePort) : (c.modDrive d f).debounce = c.debounce := rfl
@[simp] theorem Ctl.modDrive_freeDraws (d : DriveNo) (f : DrivePort → DrivePort) : (c.modDrive d f).freeDraws = c.freeDraws := rfl

@[simp] theorem Ctl.modSlab_jobs (x : SlabNo) (f : Slab → Slab) : (c.modSlab x f).jobs = c.jobs := rfl
@[simp] theorem Ctl.modSlab_files (x : SlabNo) (f : Slab → Slab) : (c.modSlab x f).files = c.files := rfl
@[simp] theorem Ctl.modSlab_nextFile (x : SlabNo) (f : Slab → Slab) : (c.modSlab x f).nextFile = c.nextFile := rfl
@[simp] theorem Ctl.modSlab_fileDoneTurn (x : SlabNo) (f : Slab → Slab) : (c.modSlab x f).fileDoneTurn = c.fileDoneTurn := rfl
@[simp] theorem Ctl.modSlab_fileDoneWaiting (x : SlabNo) (f : Slab → Slab) : (c.modSlab x f).fileDoneWaiting = c.fileDoneWaiting := rfl
@[simp] theorem Ctl.modSlab_fillSeq (x : SlabNo) (f : Slab → Slab) : (c.modSlab x f).fillSeq = c.fillSeq := rfl
@[simp] theorem Ctl.modSlab_waitList (x : SlabNo) (f : Slab → Slab) : (c.modSlab x f).waitList = c.waitList := rfl
@[simp] theorem Ctl.modSlab_lastGranted (x : SlabNo) (f : Slab → Slab) : (c.modSlab x f).lastGranted = c.lastGranted := rfl
@[simp] theorem Ctl.modSlab_digest (x : SlabNo) (f : Slab → Slab) : (c.modSlab x f).digest = c.digest := rfl
@[simp] theorem Ctl.modSlab_cards (x : SlabNo) (f : Slab → Slab) : (c.modSlab x f).cards = c.cards := rfl
@[simp] theorem Ctl.modSlab_drives (x : SlabNo) (f : Slab → Slab) : (c.modSlab x f).drives = c.drives := rfl
@[simp] theorem Ctl.modSlab_outq (x : SlabNo) (f : Slab → Slab) : (c.modSlab x f).outq = c.outq := rfl
@[simp] theorem Ctl.modSlab_notices (x : SlabNo) (f : Slab → Slab) : (c.modSlab x f).notices = c.notices := rfl
@[simp] theorem Ctl.modSlab_linkFault (x : SlabNo) (f : Slab → Slab) : (c.modSlab x f).linkFault = c.linkFault := rfl
@[simp] theorem Ctl.modSlab_rateCode (x : SlabNo) (f : Slab → Slab) : (c.modSlab x f).rateCode = c.rateCode := rfl
@[simp] theorem Ctl.modSlab_debounce (x : SlabNo) (f : Slab → Slab) : (c.modSlab x f).debounce = c.debounce := rfl
@[simp] theorem Ctl.modSlab_freeDraws (x : SlabNo) (f : Slab → Slab) : (c.modSlab x f).freeDraws = c.freeDraws := rfl

@[simp] theorem Ctl.modDigest_jobs (f : Digest → Digest) : (c.modDigest f).jobs = c.jobs := rfl
@[simp] theorem Ctl.modDigest_files (f : Digest → Digest) : (c.modDigest f).files = c.files := rfl
@[simp] theorem Ctl.modDigest_nextFile (f : Digest → Digest) : (c.modDigest f).nextFile = c.nextFile := rfl
@[simp] theorem Ctl.modDigest_fileDoneTurn (f : Digest → Digest) : (c.modDigest f).fileDoneTurn = c.fileDoneTurn := rfl
@[simp] theorem Ctl.modDigest_fileDoneWaiting (f : Digest → Digest) : (c.modDigest f).fileDoneWaiting = c.fileDoneWaiting := rfl
@[simp] theorem Ctl.modDigest_slabs (f : Digest → Digest) : (c.modDigest f).slabs = c.slabs := rfl
@[simp] theorem Ctl.modDigest_fillSeq (f : Digest → Digest) : (c.modDigest f).fillSeq = c.fillSeq := rfl
@[simp] theorem Ctl.modDigest_waitList (f : Digest → Digest) : (c.modDigest f).waitList = c.waitList := rfl
@[simp] theorem Ctl.modDigest_lastGranted (f : Digest → Digest) : (c.modDigest f).lastGranted = c.lastGranted := rfl
@[simp] theorem Ctl.modDigest_cards (f : Digest → Digest) : (c.modDigest f).cards = c.cards := rfl
@[simp] theorem Ctl.modDigest_drives (f : Digest → Digest) : (c.modDigest f).drives = c.drives := rfl
@[simp] theorem Ctl.modDigest_outq (f : Digest → Digest) : (c.modDigest f).outq = c.outq := rfl
@[simp] theorem Ctl.modDigest_notices (f : Digest → Digest) : (c.modDigest f).notices = c.notices := rfl
@[simp] theorem Ctl.modDigest_linkFault (f : Digest → Digest) : (c.modDigest f).linkFault = c.linkFault := rfl
@[simp] theorem Ctl.modDigest_rateCode (f : Digest → Digest) : (c.modDigest f).rateCode = c.rateCode := rfl
@[simp] theorem Ctl.modDigest_debounce (f : Digest → Digest) : (c.modDigest f).debounce = c.debounce := rfl
@[simp] theorem Ctl.modDigest_freeDraws (f : Digest → Digest) : (c.modDigest f).freeDraws = c.freeDraws := rfl

@[simp] theorem Ctl.modFile_jobs (r : FileRef) (g : FileRec → FileRec) : (c.modFile r g).jobs = c.jobs := rfl
@[simp] theorem Ctl.modFile_nextFile (r : FileRef) (g : FileRec → FileRec) : (c.modFile r g).nextFile = c.nextFile := rfl
@[simp] theorem Ctl.modFile_fileDoneTurn (r : FileRef) (g : FileRec → FileRec) : (c.modFile r g).fileDoneTurn = c.fileDoneTurn := rfl
@[simp] theorem Ctl.modFile_fileDoneWaiting (r : FileRef) (g : FileRec → FileRec) : (c.modFile r g).fileDoneWaiting = c.fileDoneWaiting := rfl
@[simp] theorem Ctl.modFile_slabs (r : FileRef) (g : FileRec → FileRec) : (c.modFile r g).slabs = c.slabs := rfl
@[simp] theorem Ctl.modFile_fillSeq (r : FileRef) (g : FileRec → FileRec) : (c.modFile r g).fillSeq = c.fillSeq := rfl
@[simp] theorem Ctl.modFile_waitList (r : FileRef) (g : FileRec → FileRec) : (c.modFile r g).waitList = c.waitList := rfl
@[simp] theorem Ctl.modFile_lastGranted (r : FileRef) (g : FileRec → FileRec) : (c.modFile r g).lastGranted = c.lastGranted := rfl
@[simp] theorem Ctl.modFile_digest (r : FileRef) (g : FileRec → FileRec) : (c.modFile r g).digest = c.digest := rfl
@[simp] theorem Ctl.modFile_cards (r : FileRef) (g : FileRec → FileRec) : (c.modFile r g).cards = c.cards := rfl
@[simp] theorem Ctl.modFile_drives (r : FileRef) (g : FileRec → FileRec) : (c.modFile r g).drives = c.drives := rfl
@[simp] theorem Ctl.modFile_outq (r : FileRef) (g : FileRec → FileRec) : (c.modFile r g).outq = c.outq := rfl
@[simp] theorem Ctl.modFile_notices (r : FileRef) (g : FileRec → FileRec) : (c.modFile r g).notices = c.notices := rfl
@[simp] theorem Ctl.modFile_linkFault (r : FileRef) (g : FileRec → FileRec) : (c.modFile r g).linkFault = c.linkFault := rfl
@[simp] theorem Ctl.modFile_rateCode (r : FileRef) (g : FileRec → FileRec) : (c.modFile r g).rateCode = c.rateCode := rfl
@[simp] theorem Ctl.modFile_debounce (r : FileRef) (g : FileRec → FileRec) : (c.modFile r g).debounce = c.debounce := rfl
@[simp] theorem Ctl.modFile_freeDraws (r : FileRef) (g : FileRec → FileRec) : (c.modFile r g).freeDraws = c.freeDraws := rfl

@[simp] theorem Ctl.setOutq_jobs (q : List OutEntry) : (c.setOutq q).jobs = c.jobs := rfl
@[simp] theorem Ctl.setOutq_files (q : List OutEntry) : (c.setOutq q).files = c.files := rfl
@[simp] theorem Ctl.setOutq_nextFile (q : List OutEntry) : (c.setOutq q).nextFile = c.nextFile := rfl
@[simp] theorem Ctl.setOutq_fileDoneTurn (q : List OutEntry) : (c.setOutq q).fileDoneTurn = c.fileDoneTurn := rfl
@[simp] theorem Ctl.setOutq_fileDoneWaiting (q : List OutEntry) : (c.setOutq q).fileDoneWaiting = c.fileDoneWaiting := rfl
@[simp] theorem Ctl.setOutq_slabs (q : List OutEntry) : (c.setOutq q).slabs = c.slabs := rfl
@[simp] theorem Ctl.setOutq_fillSeq (q : List OutEntry) : (c.setOutq q).fillSeq = c.fillSeq := rfl
@[simp] theorem Ctl.setOutq_waitList (q : List OutEntry) : (c.setOutq q).waitList = c.waitList := rfl
@[simp] theorem Ctl.setOutq_lastGranted (q : List OutEntry) : (c.setOutq q).lastGranted = c.lastGranted := rfl
@[simp] theorem Ctl.setOutq_digest (q : List OutEntry) : (c.setOutq q).digest = c.digest := rfl
@[simp] theorem Ctl.setOutq_cards (q : List OutEntry) : (c.setOutq q).cards = c.cards := rfl
@[simp] theorem Ctl.setOutq_drives (q : List OutEntry) : (c.setOutq q).drives = c.drives := rfl
@[simp] theorem Ctl.setOutq_notices (q : List OutEntry) : (c.setOutq q).notices = c.notices := rfl
@[simp] theorem Ctl.setOutq_linkFault (q : List OutEntry) : (c.setOutq q).linkFault = c.linkFault := rfl
@[simp] theorem Ctl.setOutq_rateCode (q : List OutEntry) : (c.setOutq q).rateCode = c.rateCode := rfl
@[simp] theorem Ctl.setOutq_debounce (q : List OutEntry) : (c.setOutq q).debounce = c.debounce := rfl
@[simp] theorem Ctl.setOutq_freeDraws (q : List OutEntry) : (c.setOutq q).freeDraws = c.freeDraws := rfl

@[simp] theorem Ctl.setWait_jobs (n : CardNo) (u : Option SlabUse) : (c.setWait n u).jobs = c.jobs := rfl
@[simp] theorem Ctl.setWait_files (n : CardNo) (u : Option SlabUse) : (c.setWait n u).files = c.files := rfl
@[simp] theorem Ctl.setWait_nextFile (n : CardNo) (u : Option SlabUse) : (c.setWait n u).nextFile = c.nextFile := rfl
@[simp] theorem Ctl.setWait_fileDoneTurn (n : CardNo) (u : Option SlabUse) : (c.setWait n u).fileDoneTurn = c.fileDoneTurn := rfl
@[simp] theorem Ctl.setWait_fileDoneWaiting (n : CardNo) (u : Option SlabUse) : (c.setWait n u).fileDoneWaiting = c.fileDoneWaiting := rfl
@[simp] theorem Ctl.setWait_slabs (n : CardNo) (u : Option SlabUse) : (c.setWait n u).slabs = c.slabs := rfl
@[simp] theorem Ctl.setWait_fillSeq (n : CardNo) (u : Option SlabUse) : (c.setWait n u).fillSeq = c.fillSeq := rfl
@[simp] theorem Ctl.setWait_lastGranted (n : CardNo) (u : Option SlabUse) : (c.setWait n u).lastGranted = c.lastGranted := rfl
@[simp] theorem Ctl.setWait_digest (n : CardNo) (u : Option SlabUse) : (c.setWait n u).digest = c.digest := rfl
@[simp] theorem Ctl.setWait_cards (n : CardNo) (u : Option SlabUse) : (c.setWait n u).cards = c.cards := rfl
@[simp] theorem Ctl.setWait_drives (n : CardNo) (u : Option SlabUse) : (c.setWait n u).drives = c.drives := rfl
@[simp] theorem Ctl.setWait_outq (n : CardNo) (u : Option SlabUse) : (c.setWait n u).outq = c.outq := rfl
@[simp] theorem Ctl.setWait_notices (n : CardNo) (u : Option SlabUse) : (c.setWait n u).notices = c.notices := rfl
@[simp] theorem Ctl.setWait_linkFault (n : CardNo) (u : Option SlabUse) : (c.setWait n u).linkFault = c.linkFault := rfl
@[simp] theorem Ctl.setWait_rateCode (n : CardNo) (u : Option SlabUse) : (c.setWait n u).rateCode = c.rateCode := rfl
@[simp] theorem Ctl.setWait_debounce (n : CardNo) (u : Option SlabUse) : (c.setWait n u).debounce = c.debounce := rfl
@[simp] theorem Ctl.setWait_freeDraws (n : CardNo) (u : Option SlabUse) : (c.setWait n u).freeDraws = c.freeDraws := rfl

@[simp] theorem Ctl.setFileDoneWaiting_jobs (n : CardNo) (w : Bool) : (c.setFileDoneWaiting n w).jobs = c.jobs := rfl
@[simp] theorem Ctl.setFileDoneWaiting_files (n : CardNo) (w : Bool) : (c.setFileDoneWaiting n w).files = c.files := rfl
@[simp] theorem Ctl.setFileDoneWaiting_nextFile (n : CardNo) (w : Bool) : (c.setFileDoneWaiting n w).nextFile = c.nextFile := rfl
@[simp] theorem Ctl.setFileDoneWaiting_fileDoneTurn (n : CardNo) (w : Bool) : (c.setFileDoneWaiting n w).fileDoneTurn = c.fileDoneTurn := rfl
@[simp] theorem Ctl.setFileDoneWaiting_slabs (n : CardNo) (w : Bool) : (c.setFileDoneWaiting n w).slabs = c.slabs := rfl
@[simp] theorem Ctl.setFileDoneWaiting_fillSeq (n : CardNo) (w : Bool) : (c.setFileDoneWaiting n w).fillSeq = c.fillSeq := rfl
@[simp] theorem Ctl.setFileDoneWaiting_waitList (n : CardNo) (w : Bool) : (c.setFileDoneWaiting n w).waitList = c.waitList := rfl
@[simp] theorem Ctl.setFileDoneWaiting_lastGranted (n : CardNo) (w : Bool) : (c.setFileDoneWaiting n w).lastGranted = c.lastGranted := rfl
@[simp] theorem Ctl.setFileDoneWaiting_digest (n : CardNo) (w : Bool) : (c.setFileDoneWaiting n w).digest = c.digest := rfl
@[simp] theorem Ctl.setFileDoneWaiting_cards (n : CardNo) (w : Bool) : (c.setFileDoneWaiting n w).cards = c.cards := rfl
@[simp] theorem Ctl.setFileDoneWaiting_drives (n : CardNo) (w : Bool) : (c.setFileDoneWaiting n w).drives = c.drives := rfl
@[simp] theorem Ctl.setFileDoneWaiting_outq (n : CardNo) (w : Bool) : (c.setFileDoneWaiting n w).outq = c.outq := rfl
@[simp] theorem Ctl.setFileDoneWaiting_notices (n : CardNo) (w : Bool) : (c.setFileDoneWaiting n w).notices = c.notices := rfl
@[simp] theorem Ctl.setFileDoneWaiting_linkFault (n : CardNo) (w : Bool) : (c.setFileDoneWaiting n w).linkFault = c.linkFault := rfl
@[simp] theorem Ctl.setFileDoneWaiting_rateCode (n : CardNo) (w : Bool) : (c.setFileDoneWaiting n w).rateCode = c.rateCode := rfl
@[simp] theorem Ctl.setFileDoneWaiting_debounce (n : CardNo) (w : Bool) : (c.setFileDoneWaiting n w).debounce = c.debounce := rfl
@[simp] theorem Ctl.setFileDoneWaiting_freeDraws (n : CardNo) (w : Bool) : (c.setFileDoneWaiting n w).freeDraws = c.freeDraws := rfl

/-! ## Fields an update writes -/

@[simp] theorem Ctl.modDigest_digest (f : Digest → Digest) : (c.modDigest f).digest = f c.digest := rfl
@[simp] theorem Ctl.setOutq_outq (q : List OutEntry) : (c.setOutq q).outq = q := rfl
@[simp] theorem Ctl.pushEntry_outq (e : OutEntry) : (c.pushEntry e).outq = c.outq ++ [e] := rfl
@[simp] theorem Ctl.pushNotice_outq (s : Subject) (p : List Byte) : (c.pushNotice s p).outq = coalesce c.outq s p := rfl
@[simp] theorem Ctl.modJob_jobs (n : CardNo) (f : Job → Job) : (c.modJob n f).jobs = c.jobs.set n (f (c.job n)) := rfl
@[simp] theorem Ctl.modCard_cards (n : CardNo) (f : CardPort → CardPort) :
    (c.modCard n f).cards = c.cards.set n (f (c.card n)) := rfl
@[simp] theorem Ctl.modDrive_drives (d : DriveNo) (f : DrivePort → DrivePort) :
    (c.modDrive d f).drives = c.drives.set d (f (c.drive d)) := rfl
@[simp] theorem Ctl.modSlab_slabs (x : SlabNo) (f : Slab → Slab) :
    (c.modSlab x f).slabs = c.slabs.set x (f (c.slab x)) := rfl

/-! ## Reads of another kind -/

@[simp] theorem Ctl.modJob_card (n : CardNo) (f : Job → Job) (m : CardNo) :
    (c.modJob n f).card m = c.card m := rfl
@[simp] theorem Ctl.modJob_drive (n : CardNo) (f : Job → Job) (e : DriveNo) :
    (c.modJob n f).drive e = c.drive e := rfl
@[simp] theorem Ctl.modJob_slab (n : CardNo) (f : Job → Job) (y : SlabNo) :
    (c.modJob n f).slab y = c.slab y := rfl
@[simp] theorem Ctl.modJob_queue (n : CardNo) (f : Job → Job) (m : CardNo) :
    (c.modJob n f).queue m = c.queue m := rfl
@[simp] theorem Ctl.modJob_file (n : CardNo) (f : Job → Job) (k : FileRef) :
    (c.modJob n f).file? k = c.file? k := rfl
@[simp] theorem Ctl.modJob_waits (n : CardNo) (f : Job → Job) (m : CardNo) :
    (c.modJob n f).waits m = c.waits m := rfl
@[simp] theorem Ctl.modJob_readingFile (n : CardNo) (f : Job → Job) (m : CardNo) :
    (c.modJob n f).readingFile m = c.readingFile m := rfl

@[simp] theorem Ctl.modCard_job (n : CardNo) (f : CardPort → CardPort) (m : CardNo) :
    (c.modCard n f).job m = c.job m := rfl
@[simp] theorem Ctl.modCard_drive (n : CardNo) (f : CardPort → CardPort) (e : DriveNo) :
    (c.modCard n f).drive e = c.drive e := rfl
@[simp] theorem Ctl.modCard_slab (n : CardNo) (f : CardPort → CardPort) (y : SlabNo) :
    (c.modCard n f).slab y = c.slab y := rfl
@[simp] theorem Ctl.modCard_queue (n : CardNo) (f : CardPort → CardPort) (m : CardNo) :
    (c.modCard n f).queue m = c.queue m := rfl
@[simp] theorem Ctl.modCard_file (n : CardNo) (f : CardPort → CardPort) (k : FileRef) :
    (c.modCard n f).file? k = c.file? k := rfl
@[simp] theorem Ctl.modCard_waits (n : CardNo) (f : CardPort → CardPort) (m : CardNo) :
    (c.modCard n f).waits m = c.waits m := rfl
@[simp] theorem Ctl.modCard_readingFile (n : CardNo) (f : CardPort → CardPort) (m : CardNo) :
    (c.modCard n f).readingFile m = c.readingFile m := rfl

@[simp] theorem Ctl.modDrive_job (d : DriveNo) (f : DrivePort → DrivePort) (m : CardNo) :
    (c.modDrive d f).job m = c.job m := rfl
@[simp] theorem Ctl.modDrive_card (d : DriveNo) (f : DrivePort → DrivePort) (m : CardNo) :
    (c.modDrive d f).card m = c.card m := rfl
@[simp] theorem Ctl.modDrive_slab (d : DriveNo) (f : DrivePort → DrivePort) (y : SlabNo) :
    (c.modDrive d f).slab y = c.slab y := rfl
@[simp] theorem Ctl.modDrive_queue (d : DriveNo) (f : DrivePort → DrivePort) (m : CardNo) :
    (c.modDrive d f).queue m = c.queue m := rfl
@[simp] theorem Ctl.modDrive_file (d : DriveNo) (f : DrivePort → DrivePort) (k : FileRef) :
    (c.modDrive d f).file? k = c.file? k := rfl
@[simp] theorem Ctl.modDrive_waits (d : DriveNo) (f : DrivePort → DrivePort) (m : CardNo) :
    (c.modDrive d f).waits m = c.waits m := rfl
@[simp] theorem Ctl.modDrive_readingFile (d : DriveNo) (f : DrivePort → DrivePort) (m : CardNo) :
    (c.modDrive d f).readingFile m = c.readingFile m := rfl

@[simp] theorem Ctl.modSlab_job (x : SlabNo) (f : Slab → Slab) (m : CardNo) :
    (c.modSlab x f).job m = c.job m := rfl
@[simp] theorem Ctl.modSlab_card (x : SlabNo) (f : Slab → Slab) (m : CardNo) :
    (c.modSlab x f).card m = c.card m := rfl
@[simp] theorem Ctl.modSlab_drive (x : SlabNo) (f : Slab → Slab) (e : DriveNo) :
    (c.modSlab x f).drive e = c.drive e := rfl
@[simp] theorem Ctl.modSlab_queue (x : SlabNo) (f : Slab → Slab) (m : CardNo) :
    (c.modSlab x f).queue m = c.queue m := rfl
@[simp] theorem Ctl.modSlab_file (x : SlabNo) (f : Slab → Slab) (k : FileRef) :
    (c.modSlab x f).file? k = c.file? k := rfl
@[simp] theorem Ctl.modSlab_waits (x : SlabNo) (f : Slab → Slab) (m : CardNo) :
    (c.modSlab x f).waits m = c.waits m := rfl
@[simp] theorem Ctl.modSlab_readingFile (x : SlabNo) (f : Slab → Slab) (m : CardNo) :
    (c.modSlab x f).readingFile m = c.readingFile m := rfl

@[simp] theorem Ctl.modDigest_job (f : Digest → Digest) (m : CardNo) :
    (c.modDigest f).job m = c.job m := rfl
@[simp] theorem Ctl.modDigest_card (f : Digest → Digest) (m : CardNo) :
    (c.modDigest f).card m = c.card m := rfl
@[simp] theorem Ctl.modDigest_drive (f : Digest → Digest) (e : DriveNo) :
    (c.modDigest f).drive e = c.drive e := rfl
@[simp] theorem Ctl.modDigest_slab (f : Digest → Digest) (y : SlabNo) :
    (c.modDigest f).slab y = c.slab y := rfl
@[simp] theorem Ctl.modDigest_queue (f : Digest → Digest) (m : CardNo) :
    (c.modDigest f).queue m = c.queue m := rfl
@[simp] theorem Ctl.modDigest_file (f : Digest → Digest) (k : FileRef) :
    (c.modDigest f).file? k = c.file? k := rfl
@[simp] theorem Ctl.modDigest_waits (f : Digest → Digest) (m : CardNo) :
    (c.modDigest f).waits m = c.waits m := rfl
@[simp] theorem Ctl.modDigest_readingFile (f : Digest → Digest) (m : CardNo) :
    (c.modDigest f).readingFile m = c.readingFile m := rfl

@[simp] theorem Ctl.modFile_job (r : FileRef) (g : FileRec → FileRec) (m : CardNo) :
    (c.modFile r g).job m = c.job m := rfl
@[simp] theorem Ctl.modFile_card (r : FileRef) (g : FileRec → FileRec) (m : CardNo) :
    (c.modFile r g).card m = c.card m := rfl
@[simp] theorem Ctl.modFile_drive (r : FileRef) (g : FileRec → FileRec) (e : DriveNo) :
    (c.modFile r g).drive e = c.drive e := rfl
@[simp] theorem Ctl.modFile_slab (r : FileRef) (g : FileRec → FileRec) (y : SlabNo) :
    (c.modFile r g).slab y = c.slab y := rfl
@[simp] theorem Ctl.modFile_waits (r : FileRef) (g : FileRec → FileRec) (m : CardNo) :
    (c.modFile r g).waits m = c.waits m := rfl

@[simp] theorem Ctl.setOutq_job (q : List OutEntry) (m : CardNo) :
    (c.setOutq q).job m = c.job m := rfl
@[simp] theorem Ctl.setOutq_card (q : List OutEntry) (m : CardNo) :
    (c.setOutq q).card m = c.card m := rfl
@[simp] theorem Ctl.setOutq_drive (q : List OutEntry) (e : DriveNo) :
    (c.setOutq q).drive e = c.drive e := rfl
@[simp] theorem Ctl.setOutq_slab (q : List OutEntry) (y : SlabNo) :
    (c.setOutq q).slab y = c.slab y := rfl
@[simp] theorem Ctl.setOutq_queue (q : List OutEntry) (m : CardNo) :
    (c.setOutq q).queue m = c.queue m := rfl
@[simp] theorem Ctl.setOutq_file (q : List OutEntry) (k : FileRef) :
    (c.setOutq q).file? k = c.file? k := rfl
@[simp] theorem Ctl.setOutq_waits (q : List OutEntry) (m : CardNo) :
    (c.setOutq q).waits m = c.waits m := rfl
@[simp] theorem Ctl.setOutq_readingFile (q : List OutEntry) (m : CardNo) :
    (c.setOutq q).readingFile m = c.readingFile m := rfl

@[simp] theorem Ctl.setWait_job (n : CardNo) (u : Option SlabUse) (m : CardNo) :
    (c.setWait n u).job m = c.job m := rfl
@[simp] theorem Ctl.setWait_card (n : CardNo) (u : Option SlabUse) (m : CardNo) :
    (c.setWait n u).card m = c.card m := rfl
@[simp] theorem Ctl.setWait_drive (n : CardNo) (u : Option SlabUse) (e : DriveNo) :
    (c.setWait n u).drive e = c.drive e := rfl
@[simp] theorem Ctl.setWait_slab (n : CardNo) (u : Option SlabUse) (y : SlabNo) :
    (c.setWait n u).slab y = c.slab y := rfl
@[simp] theorem Ctl.setWait_queue (n : CardNo) (u : Option SlabUse) (m : CardNo) :
    (c.setWait n u).queue m = c.queue m := rfl
@[simp] theorem Ctl.setWait_file (n : CardNo) (u : Option SlabUse) (k : FileRef) :
    (c.setWait n u).file? k = c.file? k := rfl
@[simp] theorem Ctl.setWait_readingFile (n : CardNo) (u : Option SlabUse) (m : CardNo) :
    (c.setWait n u).readingFile m = c.readingFile m := rfl

@[simp] theorem Ctl.setFileDoneWaiting_job (n : CardNo) (w : Bool) (m : CardNo) :
    (c.setFileDoneWaiting n w).job m = c.job m := rfl
@[simp] theorem Ctl.setFileDoneWaiting_card (n : CardNo) (w : Bool) (m : CardNo) :
    (c.setFileDoneWaiting n w).card m = c.card m := rfl
@[simp] theorem Ctl.setFileDoneWaiting_drive (n : CardNo) (w : Bool) (e : DriveNo) :
    (c.setFileDoneWaiting n w).drive e = c.drive e := rfl
@[simp] theorem Ctl.setFileDoneWaiting_slab (n : CardNo) (w : Bool) (y : SlabNo) :
    (c.setFileDoneWaiting n w).slab y = c.slab y := rfl
@[simp] theorem Ctl.setFileDoneWaiting_queue (n : CardNo) (w : Bool) (m : CardNo) :
    (c.setFileDoneWaiting n w).queue m = c.queue m := rfl
@[simp] theorem Ctl.setFileDoneWaiting_file (n : CardNo) (w : Bool) (k : FileRef) :
    (c.setFileDoneWaiting n w).file? k = c.file? k := rfl
@[simp] theorem Ctl.setFileDoneWaiting_waits (n : CardNo) (w : Bool) (m : CardNo) :
    (c.setFileDoneWaiting n w).waits m = c.waits m := rfl
@[simp] theorem Ctl.setFileDoneWaiting_readingFile (n : CardNo) (w : Bool) (m : CardNo) :
    (c.setFileDoneWaiting n w).readingFile m = c.readingFile m := rfl

/-! ## Reads of the same kind -/

@[simp] theorem Ctl.modJob_job (n : CardNo) (f : Job → Job) : (c.modJob n f).job n = f (c.job n) := by
  simp [Ctl.modJob, Ctl.job]

theorem Ctl.modJob_job_ne {n m : CardNo} (f : Job → Job) (h : m ≠ n) : (c.modJob n f).job m = c.job m := by
  have h' : n.val ≠ m.val := fun e => h (Fin.ext e.symm)
  simp [Ctl.modJob, Ctl.job, h']

/-- Two updates of one record are one. -/
theorem Ctl.modJob_modJob (n : CardNo) (f g : Job → Job) : (c.modJob n f).modJob n g = c.modJob n fun x => g (f x) := by
  simp [Ctl.modJob, Ctl.job]

@[simp] theorem Ctl.modCard_card (n : CardNo) (f : CardPort → CardPort) : (c.modCard n f).card n = f (c.card n) := by
  simp [Ctl.modCard, Ctl.card]

theorem Ctl.modCard_card_ne {n m : CardNo} (f : CardPort → CardPort) (h : m ≠ n) : (c.modCard n f).card m = c.card m := by
  have h' : n.val ≠ m.val := fun e => h (Fin.ext e.symm)
  simp [Ctl.modCard, Ctl.card, h']

/-- Two updates of one record are one. -/
theorem Ctl.modCard_modCard (n : CardNo) (f g : CardPort → CardPort) : (c.modCard n f).modCard n g = c.modCard n fun x => g (f x) := by
  simp [Ctl.modCard, Ctl.card]

@[simp] theorem Ctl.modDrive_drive (n : DriveNo) (f : DrivePort → DrivePort) : (c.modDrive n f).drive n = f (c.drive n) := by
  simp [Ctl.modDrive, Ctl.drive]

theorem Ctl.modDrive_drive_ne {n m : DriveNo} (f : DrivePort → DrivePort) (h : m ≠ n) : (c.modDrive n f).drive m = c.drive m := by
  have h' : n.val ≠ m.val := fun e => h (Fin.ext e.symm)
  simp [Ctl.modDrive, Ctl.drive, h']

/-- Two updates of one record are one. -/
theorem Ctl.modDrive_modDrive (n : DriveNo) (f g : DrivePort → DrivePort) : (c.modDrive n f).modDrive n g = c.modDrive n fun x => g (f x) := by
  simp [Ctl.modDrive, Ctl.drive]

@[simp] theorem Ctl.modSlab_slab (n : SlabNo) (f : Slab → Slab) : (c.modSlab n f).slab n = f (c.slab n) := by
  simp [Ctl.modSlab, Ctl.slab]

theorem Ctl.modSlab_slab_ne {n m : SlabNo} (f : Slab → Slab) (h : m ≠ n) : (c.modSlab n f).slab m = c.slab m := by
  have h' : n.val ≠ m.val := fun e => h (Fin.ext e.symm)
  simp [Ctl.modSlab, Ctl.slab, h']

/-- Two updates of one record are one. -/
theorem Ctl.modSlab_modSlab (n : SlabNo) (f g : Slab → Slab) : (c.modSlab n f).modSlab n g = c.modSlab n fun x => g (f x) := by
  simp [Ctl.modSlab, Ctl.slab]

@[simp] theorem Ctl.setWait_waits (n : CardNo) (u : Option SlabUse) : (c.setWait n u).waits n = u := by
  simp [Ctl.setWait, Ctl.waits]

theorem Ctl.setWait_waits_ne {n m : CardNo} (u : Option SlabUse) (h : m ≠ n) : (c.setWait n u).waits m = c.waits m := by
  have h' : n.val ≠ m.val := fun e => h (Fin.ext e.symm)
  simp [Ctl.setWait, Ctl.waits, h']

/-- A change that keeps names leaves the names of the table. -/
theorem Ctl.modFile_refs (r : FileRef) (g : FileRec → FileRec) (h : ∀ f, (g f).ref = f.ref) :
    (c.modFile r g).files.map (·.ref) = c.files.map (·.ref) := by
  simp only [Ctl.modFile, List.map_map]
  exact List.map_congr_left fun f _ => by simp only [Function.comp]; split <;> simp [h]

/-- A change that keeps names changes the named record alone. -/
theorem Ctl.modFile_file (r q : FileRef) (g : FileRec → FileRec) (h : ∀ f, (g f).ref = f.ref) :
    (c.modFile r g).file? q = (c.file? q).map fun f => if q = r then g f else f := by
  simp only [Ctl.modFile, Ctl.file?]
  induction c.files with
  | nil => rfl
  | cons a l ih =>
    have ha : ((if a.ref = r then g a else a).ref == q) = (a.ref == q) := by split <;> simp [h]
    simp only [List.map_cons, List.find?_cons, ha]
    by_cases e : a.ref == q
    · have e' : a.ref = q := by simpa using e
      simp [e']
    · simp [e, ih]

/-! ## The link of a port -/

@[simp] theorem Ctl.setLink_link (p : PortId) (l : Link) : (c.setLink p l).link p = l := by
  cases p <;> simp [Ctl.setLink, Ctl.link]

@[simp] theorem Ctl.setLink_setLink (p : PortId) (l l' : Link) : (c.setLink p l).setLink p l' = c.setLink p l' := by
  cases p <;> simp [Ctl.setLink, Ctl.modCard, Ctl.modDrive, Ctl.card, Ctl.drive]

@[simp] theorem Ctl.setLink_jobs (p : PortId) (l : Link) : (c.setLink p l).jobs = c.jobs := by cases p <;> rfl
@[simp] theorem Ctl.setLink_files (p : PortId) (l : Link) : (c.setLink p l).files = c.files := by cases p <;> rfl
@[simp] theorem Ctl.setLink_nextFile (p : PortId) (l : Link) : (c.setLink p l).nextFile = c.nextFile := by cases p <;> rfl
@[simp] theorem Ctl.setLink_fileDoneTurn (p : PortId) (l : Link) : (c.setLink p l).fileDoneTurn = c.fileDoneTurn := by cases p <;> rfl
@[simp] theorem Ctl.setLink_fileDoneWaiting (p : PortId) (l : Link) : (c.setLink p l).fileDoneWaiting = c.fileDoneWaiting := by cases p <;> rfl
@[simp] theorem Ctl.setLink_slabs (p : PortId) (l : Link) : (c.setLink p l).slabs = c.slabs := by cases p <;> rfl
@[simp] theorem Ctl.setLink_fillSeq (p : PortId) (l : Link) : (c.setLink p l).fillSeq = c.fillSeq := by cases p <;> rfl
@[simp] theorem Ctl.setLink_waitList (p : PortId) (l : Link) : (c.setLink p l).waitList = c.waitList := by cases p <;> rfl
@[simp] theorem Ctl.setLink_lastGranted (p : PortId) (l : Link) : (c.setLink p l).lastGranted = c.lastGranted := by cases p <;> rfl
@[simp] theorem Ctl.setLink_digest (p : PortId) (l : Link) : (c.setLink p l).digest = c.digest := by cases p <;> rfl
@[simp] theorem Ctl.setLink_outq (p : PortId) (l : Link) : (c.setLink p l).outq = c.outq := by cases p <;> rfl
@[simp] theorem Ctl.setLink_notices (p : PortId) (l : Link) : (c.setLink p l).notices = c.notices := by cases p <;> rfl
@[simp] theorem Ctl.setLink_linkFault (p : PortId) (l : Link) : (c.setLink p l).linkFault = c.linkFault := by cases p <;> rfl
@[simp] theorem Ctl.setLink_rateCode (p : PortId) (l : Link) : (c.setLink p l).rateCode = c.rateCode := by cases p <;> rfl
@[simp] theorem Ctl.setLink_debounce (p : PortId) (l : Link) : (c.setLink p l).debounce = c.debounce := by cases p <;> rfl
@[simp] theorem Ctl.setLink_freeDraws (p : PortId) (l : Link) : (c.setLink p l).freeDraws = c.freeDraws := by cases p <;> rfl

/-! ## What only queues a notice -/

@[simp] theorem Ctl.pushEntry_jobs (e : OutEntry) : (c.pushEntry e).jobs = c.jobs := rfl
@[simp] theorem Ctl.pushEntry_files (e : OutEntry) : (c.pushEntry e).files = c.files := rfl
@[simp] theorem Ctl.pushEntry_nextFile (e : OutEntry) : (c.pushEntry e).nextFile = c.nextFile := rfl
@[simp] theorem Ctl.pushEntry_fileDoneTurn (e : OutEntry) : (c.pushEntry e).fileDoneTurn = c.fileDoneTurn := rfl
@[simp] theorem Ctl.pushEntry_fileDoneWaiting (e : OutEntry) : (c.pushEntry e).fileDoneWaiting = c.fileDoneWaiting := rfl
@[simp] theorem Ctl.pushEntry_slabs (e : OutEntry) : (c.pushEntry e).slabs = c.slabs := rfl
@[simp] theorem Ctl.pushEntry_fillSeq (e : OutEntry) : (c.pushEntry e).fillSeq = c.fillSeq := rfl
@[simp] theorem Ctl.pushEntry_waitList (e : OutEntry) : (c.pushEntry e).waitList = c.waitList := rfl
@[simp] theorem Ctl.pushEntry_lastGranted (e : OutEntry) : (c.pushEntry e).lastGranted = c.lastGranted := rfl
@[simp] theorem Ctl.pushEntry_digest (e : OutEntry) : (c.pushEntry e).digest = c.digest := rfl
@[simp] theorem Ctl.pushEntry_cards (e : OutEntry) : (c.pushEntry e).cards = c.cards := rfl
@[simp] theorem Ctl.pushEntry_drives (e : OutEntry) : (c.pushEntry e).drives = c.drives := rfl
@[simp] theorem Ctl.pushEntry_notices (e : OutEntry) : (c.pushEntry e).notices = c.notices := rfl
@[simp] theorem Ctl.pushEntry_linkFault (e : OutEntry) : (c.pushEntry e).linkFault = c.linkFault := rfl
@[simp] theorem Ctl.pushEntry_rateCode (e : OutEntry) : (c.pushEntry e).rateCode = c.rateCode := rfl
@[simp] theorem Ctl.pushEntry_debounce (e : OutEntry) : (c.pushEntry e).debounce = c.debounce := rfl
@[simp] theorem Ctl.pushEntry_freeDraws (e : OutEntry) : (c.pushEntry e).freeDraws = c.freeDraws := rfl

@[simp] theorem Ctl.pushNotice_jobs (s : Subject) (p : List Byte) : (c.pushNotice s p).jobs = c.jobs := rfl
@[simp] theorem Ctl.pushNotice_files (s : Subject) (p : List Byte) : (c.pushNotice s p).files = c.files := rfl
@[simp] theorem Ctl.pushNotice_nextFile (s : Subject) (p : List Byte) : (c.pushNotice s p).nextFile = c.nextFile := rfl
@[simp] theorem Ctl.pushNotice_fileDoneTurn (s : Subject) (p : List Byte) : (c.pushNotice s p).fileDoneTurn = c.fileDoneTurn := rfl
@[simp] theorem Ctl.pushNotice_fileDoneWaiting (s : Subject) (p : List Byte) : (c.pushNotice s p).fileDoneWaiting = c.fileDoneWaiting := rfl
@[simp] theorem Ctl.pushNotice_slabs (s : Subject) (p : List Byte) : (c.pushNotice s p).slabs = c.slabs := rfl
@[simp] theorem Ctl.pushNotice_fillSeq (s : Subject) (p : List Byte) : (c.pushNotice s p).fillSeq = c.fillSeq := rfl
@[simp] theorem Ctl.pushNotice_waitList (s : Subject) (p : List Byte) : (c.pushNotice s p).waitList = c.waitList := rfl
@[simp] theorem Ctl.pushNotice_lastGranted (s : Subject) (p : List Byte) : (c.pushNotice s p).lastGranted = c.lastGranted := rfl
@[simp] theorem Ctl.pushNotice_digest (s : Subject) (p : List Byte) : (c.pushNotice s p).digest = c.digest := rfl
@[simp] theorem Ctl.pushNotice_cards (s : Subject) (p : List Byte) : (c.pushNotice s p).cards = c.cards := rfl
@[simp] theorem Ctl.pushNotice_drives (s : Subject) (p : List Byte) : (c.pushNotice s p).drives = c.drives := rfl
@[simp] theorem Ctl.pushNotice_notices (s : Subject) (p : List Byte) : (c.pushNotice s p).notices = c.notices := rfl
@[simp] theorem Ctl.pushNotice_linkFault (s : Subject) (p : List Byte) : (c.pushNotice s p).linkFault = c.linkFault := rfl
@[simp] theorem Ctl.pushNotice_rateCode (s : Subject) (p : List Byte) : (c.pushNotice s p).rateCode = c.rateCode := rfl
@[simp] theorem Ctl.pushNotice_debounce (s : Subject) (p : List Byte) : (c.pushNotice s p).debounce = c.debounce := rfl
@[simp] theorem Ctl.pushNotice_freeDraws (s : Subject) (p : List Byte) : (c.pushNotice s p).freeDraws = c.freeDraws := rfl

@[simp] theorem Ctl.notifyPort_jobs (p : PortId) : (c.notifyPort p).jobs = c.jobs := by
  unfold Ctl.notifyPort; split <;> rfl
@[simp] theorem Ctl.notifyPort_files (p : PortId) : (c.notifyPort p).files = c.files := by
  unfold Ctl.notifyPort; split <;> rfl
@[simp] theorem Ctl.notifyPort_nextFile (p : PortId) : (c.notifyPort p).nextFile = c.nextFile := by
  unfold Ctl.notifyPort; split <;> rfl
@[simp] theorem Ctl.notifyPort_fileDoneTurn (p : PortId) : (c.notifyPort p).fileDoneTurn = c.fileDoneTurn := by
  unfold Ctl.notifyPort; split <;> rfl
@[simp] theorem Ctl.notifyPort_fileDoneWaiting (p : PortId) : (c.notifyPort p).fileDoneWaiting = c.fileDoneWaiting := by
  unfold Ctl.notifyPort; split <;> rfl
@[simp] theorem Ctl.notifyPort_slabs (p : PortId) : (c.notifyPort p).slabs = c.slabs := by
  unfold Ctl.notifyPort; split <;> rfl
@[simp] theorem Ctl.notifyPort_fillSeq (p : PortId) : (c.notifyPort p).fillSeq = c.fillSeq := by
  unfold Ctl.notifyPort; split <;> rfl
@[simp] theorem Ctl.notifyPort_waitList (p : PortId) : (c.notifyPort p).waitList = c.waitList := by
  unfold Ctl.notifyPort; split <;> rfl
@[simp] theorem Ctl.notifyPort_lastGranted (p : PortId) : (c.notifyPort p).lastGranted = c.lastGranted := by
  unfold Ctl.notifyPort; split <;> rfl
@[simp] theorem Ctl.notifyPort_digest (p : PortId) : (c.notifyPort p).digest = c.digest := by
  unfold Ctl.notifyPort; split <;> rfl
@[simp] theorem Ctl.notifyPort_cards (p : PortId) : (c.notifyPort p).cards = c.cards := by
  unfold Ctl.notifyPort; split <;> rfl
@[simp] theorem Ctl.notifyPort_drives (p : PortId) : (c.notifyPort p).drives = c.drives := by
  unfold Ctl.notifyPort; split <;> rfl
@[simp] theorem Ctl.notifyPort_notices (p : PortId) : (c.notifyPort p).notices = c.notices := by
  unfold Ctl.notifyPort; split <;> rfl
@[simp] theorem Ctl.notifyPort_linkFault (p : PortId) : (c.notifyPort p).linkFault = c.linkFault := by
  unfold Ctl.notifyPort; split <;> rfl
@[simp] theorem Ctl.notifyPort_rateCode (p : PortId) : (c.notifyPort p).rateCode = c.rateCode := by
  unfold Ctl.notifyPort; split <;> rfl
@[simp] theorem Ctl.notifyPort_debounce (p : PortId) : (c.notifyPort p).debounce = c.debounce := by
  unfold Ctl.notifyPort; split <;> rfl
@[simp] theorem Ctl.notifyPort_freeDraws (p : PortId) : (c.notifyPort p).freeDraws = c.freeDraws := by
  unfold Ctl.notifyPort; split <;> rfl

@[simp] theorem Ctl.notifyJob_jobs (n : CardNo) : (c.notifyJob n).jobs = c.jobs := by
  unfold Ctl.notifyJob; split <;> rfl
@[simp] theorem Ctl.notifyJob_files (n : CardNo) : (c.notifyJob n).files = c.files := by
  unfold Ctl.notifyJob; split <;> rfl
@[simp] theorem Ctl.notifyJob_nextFile (n : CardNo) : (c.notifyJob n).nextFile = c.nextFile := by
  unfold Ctl.notifyJob; split <;> rfl
@[simp] theorem Ctl.notifyJob_fileDoneTurn (n : CardNo) : (c.notifyJob n).fileDoneTurn = c.fileDoneTurn := by
  unfold Ctl.notifyJob; split <;> rfl
@[simp] theorem Ctl.notifyJob_fileDoneWaiting (n : CardNo) : (c.notifyJob n).fileDoneWaiting = c.fileDoneWaiting := by
  unfold Ctl.notifyJob; split <;> rfl
@[simp] theorem Ctl.notifyJob_slabs (n : CardNo) : (c.notifyJob n).slabs = c.slabs := by
  unfold Ctl.notifyJob; split <;> rfl
@[simp] theorem Ctl.notifyJob_fillSeq (n : CardNo) : (c.notifyJob n).fillSeq = c.fillSeq := by
  unfold Ctl.notifyJob; split <;> rfl
@[simp] theorem Ctl.notifyJob_waitList (n : CardNo) : (c.notifyJob n).waitList = c.waitList := by
  unfold Ctl.notifyJob; split <;> rfl
@[simp] theorem Ctl.notifyJob_lastGranted (n : CardNo) : (c.notifyJob n).lastGranted = c.lastGranted := by
  unfold Ctl.notifyJob; split <;> rfl
@[simp] theorem Ctl.notifyJob_digest (n : CardNo) : (c.notifyJob n).digest = c.digest := by
  unfold Ctl.notifyJob; split <;> rfl
@[simp] theorem Ctl.notifyJob_cards (n : CardNo) : (c.notifyJob n).cards = c.cards := by
  unfold Ctl.notifyJob; split <;> rfl
@[simp] theorem Ctl.notifyJob_drives (n : CardNo) : (c.notifyJob n).drives = c.drives := by
  unfold Ctl.notifyJob; split <;> rfl
@[simp] theorem Ctl.notifyJob_notices (n : CardNo) : (c.notifyJob n).notices = c.notices := by
  unfold Ctl.notifyJob; split <;> rfl
@[simp] theorem Ctl.notifyJob_linkFault (n : CardNo) : (c.notifyJob n).linkFault = c.linkFault := by
  unfold Ctl.notifyJob; split <;> rfl
@[simp] theorem Ctl.notifyJob_rateCode (n : CardNo) : (c.notifyJob n).rateCode = c.rateCode := by
  unfold Ctl.notifyJob; split <;> rfl
@[simp] theorem Ctl.notifyJob_debounce (n : CardNo) : (c.notifyJob n).debounce = c.debounce := by
  unfold Ctl.notifyJob; split <;> rfl
@[simp] theorem Ctl.notifyJob_freeDraws (n : CardNo) : (c.notifyJob n).freeDraws = c.freeDraws := by
  unfold Ctl.notifyJob; split <;> rfl

@[simp] theorem Ctl.notifyProgress_jobs (n : CardNo) : (c.notifyProgress n).jobs = c.jobs := by
  unfold Ctl.notifyProgress; split <;> rfl
@[simp] theorem Ctl.notifyProgress_files (n : CardNo) : (c.notifyProgress n).files = c.files := by
  unfold Ctl.notifyProgress; split <;> rfl
@[simp] theorem Ctl.notifyProgress_nextFile (n : CardNo) : (c.notifyProgress n).nextFile = c.nextFile := by
  unfold Ctl.notifyProgress; split <;> rfl
@[simp] theorem Ctl.notifyProgress_fileDoneTurn (n : CardNo) : (c.notifyProgress n).fileDoneTurn = c.fileDoneTurn := by
  unfold Ctl.notifyProgress; split <;> rfl
@[simp] theorem Ctl.notifyProgress_fileDoneWaiting (n : CardNo) : (c.notifyProgress n).fileDoneWaiting = c.fileDoneWaiting := by
  unfold Ctl.notifyProgress; split <;> rfl
@[simp] theorem Ctl.notifyProgress_slabs (n : CardNo) : (c.notifyProgress n).slabs = c.slabs := by
  unfold Ctl.notifyProgress; split <;> rfl
@[simp] theorem Ctl.notifyProgress_fillSeq (n : CardNo) : (c.notifyProgress n).fillSeq = c.fillSeq := by
  unfold Ctl.notifyProgress; split <;> rfl
@[simp] theorem Ctl.notifyProgress_waitList (n : CardNo) : (c.notifyProgress n).waitList = c.waitList := by
  unfold Ctl.notifyProgress; split <;> rfl
@[simp] theorem Ctl.notifyProgress_lastGranted (n : CardNo) : (c.notifyProgress n).lastGranted = c.lastGranted := by
  unfold Ctl.notifyProgress; split <;> rfl
@[simp] theorem Ctl.notifyProgress_digest (n : CardNo) : (c.notifyProgress n).digest = c.digest := by
  unfold Ctl.notifyProgress; split <;> rfl
@[simp] theorem Ctl.notifyProgress_cards (n : CardNo) : (c.notifyProgress n).cards = c.cards := by
  unfold Ctl.notifyProgress; split <;> rfl
@[simp] theorem Ctl.notifyProgress_drives (n : CardNo) : (c.notifyProgress n).drives = c.drives := by
  unfold Ctl.notifyProgress; split <;> rfl
@[simp] theorem Ctl.notifyProgress_notices (n : CardNo) : (c.notifyProgress n).notices = c.notices := by
  unfold Ctl.notifyProgress; split <;> rfl
@[simp] theorem Ctl.notifyProgress_linkFault (n : CardNo) : (c.notifyProgress n).linkFault = c.linkFault := by
  unfold Ctl.notifyProgress; split <;> rfl
@[simp] theorem Ctl.notifyProgress_rateCode (n : CardNo) : (c.notifyProgress n).rateCode = c.rateCode := by
  unfold Ctl.notifyProgress; split <;> rfl
@[simp] theorem Ctl.notifyProgress_debounce (n : CardNo) : (c.notifyProgress n).debounce = c.debounce := by
  unfold Ctl.notifyProgress; split <;> rfl
@[simp] theorem Ctl.notifyProgress_freeDraws (n : CardNo) : (c.notifyProgress n).freeDraws = c.freeDraws := by
  unfold Ctl.notifyProgress; split <;> rfl

/-! ## What only works a lamp out -/

@[simp] theorem Ctl.lampUpdate_jobs (n : CardNo) : (c.lampUpdate n).jobs = c.jobs := by
  unfold Ctl.lampUpdate; split <;> rfl
@[simp] theorem Ctl.lampUpdate_files (n : CardNo) : (c.lampUpdate n).files = c.files := by
  unfold Ctl.lampUpdate; split <;> rfl
@[simp] theorem Ctl.lampUpdate_nextFile (n : CardNo) : (c.lampUpdate n).nextFile = c.nextFile := by
  unfold Ctl.lampUpdate; split <;> rfl
@[simp] theorem Ctl.lampUpdate_fileDoneTurn (n : CardNo) : (c.lampUpdate n).fileDoneTurn = c.fileDoneTurn := by
  unfold Ctl.lampUpdate; split <;> rfl
@[simp] theorem Ctl.lampUpdate_fileDoneWaiting (n : CardNo) : (c.lampUpdate n).fileDoneWaiting = c.fileDoneWaiting := by
  unfold Ctl.lampUpdate; split <;> rfl
@[simp] theorem Ctl.lampUpdate_slabs (n : CardNo) : (c.lampUpdate n).slabs = c.slabs := by
  unfold Ctl.lampUpdate; split <;> rfl
@[simp] theorem Ctl.lampUpdate_fillSeq (n : CardNo) : (c.lampUpdate n).fillSeq = c.fillSeq := by
  unfold Ctl.lampUpdate; split <;> rfl
@[simp] theorem Ctl.lampUpdate_waitList (n : CardNo) : (c.lampUpdate n).waitList = c.waitList := by
  unfold Ctl.lampUpdate; split <;> rfl
@[simp] theorem Ctl.lampUpdate_lastGranted (n : CardNo) : (c.lampUpdate n).lastGranted = c.lastGranted := by
  unfold Ctl.lampUpdate; split <;> rfl
@[simp] theorem Ctl.lampUpdate_digest (n : CardNo) : (c.lampUpdate n).digest = c.digest := by
  unfold Ctl.lampUpdate; split <;> rfl
@[simp] theorem Ctl.lampUpdate_drives (n : CardNo) : (c.lampUpdate n).drives = c.drives := by
  unfold Ctl.lampUpdate; split <;> rfl
@[simp] theorem Ctl.lampUpdate_outq (n : CardNo) : (c.lampUpdate n).outq = c.outq := by
  unfold Ctl.lampUpdate; split <;> rfl
@[simp] theorem Ctl.lampUpdate_notices (n : CardNo) : (c.lampUpdate n).notices = c.notices := by
  unfold Ctl.lampUpdate; split <;> rfl
@[simp] theorem Ctl.lampUpdate_linkFault (n : CardNo) : (c.lampUpdate n).linkFault = c.linkFault := by
  unfold Ctl.lampUpdate; split <;> rfl
@[simp] theorem Ctl.lampUpdate_rateCode (n : CardNo) : (c.lampUpdate n).rateCode = c.rateCode := by
  unfold Ctl.lampUpdate; split <;> rfl
@[simp] theorem Ctl.lampUpdate_debounce (n : CardNo) : (c.lampUpdate n).debounce = c.debounce := by
  unfold Ctl.lampUpdate; split <;> rfl
@[simp] theorem Ctl.lampUpdate_freeDraws (n : CardNo) : (c.lampUpdate n).freeDraws = c.freeDraws := by
  unfold Ctl.lampUpdate; split <;> rfl

/-! ## Marks and job records -/

@[simp] theorem Ctl.setMarks_jobs (n : CardNo) (a b u : Bool) : (c.setMarks n a b u).jobs = c.jobs := by
  simp only [Ctl.setMarks]; split <;> simp
@[simp] theorem Ctl.setMarks_files (n : CardNo) (a b u : Bool) : (c.setMarks n a b u).files = c.files := by
  simp only [Ctl.setMarks]; split <;> simp
@[simp] theorem Ctl.setMarks_nextFile (n : CardNo) (a b u : Bool) : (c.setMarks n a b u).nextFile = c.nextFile := by
  simp only [Ctl.setMarks]; split <;> simp
@[simp] theorem Ctl.setMarks_fileDoneTurn (n : CardNo) (a b u : Bool) : (c.setMarks n a b u).fileDoneTurn = c.fileDoneTurn := by
  simp only [Ctl.setMarks]; split <;> simp
@[simp] theorem Ctl.setMarks_fileDoneWaiting (n : CardNo) (a b u : Bool) : (c.setMarks n a b u).fileDoneWaiting = c.fileDoneWaiting := by
  simp only [Ctl.setMarks]; split <;> simp
@[simp] theorem Ctl.setMarks_slabs (n : CardNo) (a b u : Bool) : (c.setMarks n a b u).slabs = c.slabs := by
  simp only [Ctl.setMarks]; split <;> simp
@[simp] theorem Ctl.setMarks_fillSeq (n : CardNo) (a b u : Bool) : (c.setMarks n a b u).fillSeq = c.fillSeq := by
  simp only [Ctl.setMarks]; split <;> simp
@[simp] theorem Ctl.setMarks_waitList (n : CardNo) (a b u : Bool) : (c.setMarks n a b u).waitList = c.waitList := by
  simp only [Ctl.setMarks]; split <;> simp
@[simp] theorem Ctl.setMarks_lastGranted (n : CardNo) (a b u : Bool) : (c.setMarks n a b u).lastGranted = c.lastGranted := by
  simp only [Ctl.setMarks]; split <;> simp
@[simp] theorem Ctl.setMarks_digest (n : CardNo) (a b u : Bool) : (c.setMarks n a b u).digest = c.digest := by
  simp only [Ctl.setMarks]; split <;> simp
@[simp] theorem Ctl.setMarks_drives (n : CardNo) (a b u : Bool) : (c.setMarks n a b u).drives = c.drives := by
  simp only [Ctl.setMarks]; split <;> simp
@[simp] theorem Ctl.setMarks_notices (n : CardNo) (a b u : Bool) : (c.setMarks n a b u).notices = c.notices := by
  simp only [Ctl.setMarks]; split <;> simp
@[simp] theorem Ctl.setMarks_linkFault (n : CardNo) (a b u : Bool) : (c.setMarks n a b u).linkFault = c.linkFault := by
  simp only [Ctl.setMarks]; split <;> simp
@[simp] theorem Ctl.setMarks_rateCode (n : CardNo) (a b u : Bool) : (c.setMarks n a b u).rateCode = c.rateCode := by
  simp only [Ctl.setMarks]; split <;> simp
@[simp] theorem Ctl.setMarks_debounce (n : CardNo) (a b u : Bool) : (c.setMarks n a b u).debounce = c.debounce := by
  simp only [Ctl.setMarks]; split <;> simp
@[simp] theorem Ctl.setMarks_freeDraws (n : CardNo) (a b u : Bool) : (c.setMarks n a b u).freeDraws = c.freeDraws := by
  simp only [Ctl.setMarks]; split <;> simp

@[simp] theorem Ctl.evaluateClearance_jobs (n : CardNo) : (c.evaluateClearance n).jobs = c.jobs := by
  simp only [Ctl.evaluateClearance]; split <;> simp
@[simp] theorem Ctl.evaluateClearance_files (n : CardNo) : (c.evaluateClearance n).files = c.files := by
  simp only [Ctl.evaluateClearance]; split <;> simp
@[simp] theorem Ctl.evaluateClearance_nextFile (n : CardNo) : (c.evaluateClearance n).nextFile = c.nextFile := by
  simp only [Ctl.evaluateClearance]; split <;> simp
@[simp] theorem Ctl.evaluateClearance_fileDoneTurn (n : CardNo) : (c.evaluateClearance n).fileDoneTurn = c.fileDoneTurn := by
  simp only [Ctl.evaluateClearance]; split <;> simp
@[simp] theorem Ctl.evaluateClearance_fileDoneWaiting (n : CardNo) : (c.evaluateClearance n).fileDoneWaiting = c.fileDoneWaiting := by
  simp only [Ctl.evaluateClearance]; split <;> simp
@[simp] theorem Ctl.evaluateClearance_slabs (n : CardNo) : (c.evaluateClearance n).slabs = c.slabs := by
  simp only [Ctl.evaluateClearance]; split <;> simp
@[simp] theorem Ctl.evaluateClearance_fillSeq (n : CardNo) : (c.evaluateClearance n).fillSeq = c.fillSeq := by
  simp only [Ctl.evaluateClearance]; split <;> simp
@[simp] theorem Ctl.evaluateClearance_waitList (n : CardNo) : (c.evaluateClearance n).waitList = c.waitList := by
  simp only [Ctl.evaluateClearance]; split <;> simp
@[simp] theorem Ctl.evaluateClearance_lastGranted (n : CardNo) : (c.evaluateClearance n).lastGranted = c.lastGranted := by
  simp only [Ctl.evaluateClearance]; split <;> simp
@[simp] theorem Ctl.evaluateClearance_digest (n : CardNo) : (c.evaluateClearance n).digest = c.digest := by
  simp only [Ctl.evaluateClearance]; split <;> simp
@[simp] theorem Ctl.evaluateClearance_drives (n : CardNo) : (c.evaluateClearance n).drives = c.drives := by
  simp only [Ctl.evaluateClearance]; split <;> simp
@[simp] theorem Ctl.evaluateClearance_notices (n : CardNo) : (c.evaluateClearance n).notices = c.notices := by
  simp only [Ctl.evaluateClearance]; split <;> simp
@[simp] theorem Ctl.evaluateClearance_linkFault (n : CardNo) : (c.evaluateClearance n).linkFault = c.linkFault := by
  simp only [Ctl.evaluateClearance]; split <;> simp
@[simp] theorem Ctl.evaluateClearance_rateCode (n : CardNo) : (c.evaluateClearance n).rateCode = c.rateCode := by
  simp only [Ctl.evaluateClearance]; split <;> simp
@[simp] theorem Ctl.evaluateClearance_debounce (n : CardNo) : (c.evaluateClearance n).debounce = c.debounce := by
  simp only [Ctl.evaluateClearance]; split <;> simp
@[simp] theorem Ctl.evaluateClearance_freeDraws (n : CardNo) : (c.evaluateClearance n).freeDraws = c.freeDraws := by
  simp only [Ctl.evaluateClearance]; split <;> simp

@[simp] theorem Ctl.dropWaitUnlessRunning_jobs (n : CardNo) : (c.dropWaitUnlessRunning n).jobs = c.jobs := by
  unfold Ctl.dropWaitUnlessRunning; split <;> rfl
@[simp] theorem Ctl.dropWaitUnlessRunning_files (n : CardNo) : (c.dropWaitUnlessRunning n).files = c.files := by
  unfold Ctl.dropWaitUnlessRunning; split <;> rfl
@[simp] theorem Ctl.dropWaitUnlessRunning_nextFile (n : CardNo) : (c.dropWaitUnlessRunning n).nextFile = c.nextFile := by
  unfold Ctl.dropWaitUnlessRunning; split <;> rfl
@[simp] theorem Ctl.dropWaitUnlessRunning_fileDoneTurn (n : CardNo) : (c.dropWaitUnlessRunning n).fileDoneTurn = c.fileDoneTurn := by
  unfold Ctl.dropWaitUnlessRunning; split <;> rfl
@[simp] theorem Ctl.dropWaitUnlessRunning_fileDoneWaiting (n : CardNo) : (c.dropWaitUnlessRunning n).fileDoneWaiting = c.fileDoneWaiting := by
  unfold Ctl.dropWaitUnlessRunning; split <;> rfl
@[simp] theorem Ctl.dropWaitUnlessRunning_slabs (n : CardNo) : (c.dropWaitUnlessRunning n).slabs = c.slabs := by
  unfold Ctl.dropWaitUnlessRunning; split <;> rfl
@[simp] theorem Ctl.dropWaitUnlessRunning_fillSeq (n : CardNo) : (c.dropWaitUnlessRunning n).fillSeq = c.fillSeq := by
  unfold Ctl.dropWaitUnlessRunning; split <;> rfl
@[simp] theorem Ctl.dropWaitUnlessRunning_lastGranted (n : CardNo) : (c.dropWaitUnlessRunning n).lastGranted = c.lastGranted := by
  unfold Ctl.dropWaitUnlessRunning; split <;> rfl
@[simp] theorem Ctl.dropWaitUnlessRunning_digest (n : CardNo) : (c.dropWaitUnlessRunning n).digest = c.digest := by
  unfold Ctl.dropWaitUnlessRunning; split <;> rfl
@[simp] theorem Ctl.dropWaitUnlessRunning_cards (n : CardNo) : (c.dropWaitUnlessRunning n).cards = c.cards := by
  unfold Ctl.dropWaitUnlessRunning; split <;> rfl
@[simp] theorem Ctl.dropWaitUnlessRunning_drives (n : CardNo) : (c.dropWaitUnlessRunning n).drives = c.drives := by
  unfold Ctl.dropWaitUnlessRunning; split <;> rfl
@[simp] theorem Ctl.dropWaitUnlessRunning_outq (n : CardNo) : (c.dropWaitUnlessRunning n).outq = c.outq := by
  unfold Ctl.dropWaitUnlessRunning; split <;> rfl
@[simp] theorem Ctl.dropWaitUnlessRunning_notices (n : CardNo) : (c.dropWaitUnlessRunning n).notices = c.notices := by
  unfold Ctl.dropWaitUnlessRunning; split <;> rfl
@[simp] theorem Ctl.dropWaitUnlessRunning_linkFault (n : CardNo) : (c.dropWaitUnlessRunning n).linkFault = c.linkFault := by
  unfold Ctl.dropWaitUnlessRunning; split <;> rfl
@[simp] theorem Ctl.dropWaitUnlessRunning_rateCode (n : CardNo) : (c.dropWaitUnlessRunning n).rateCode = c.rateCode := by
  unfold Ctl.dropWaitUnlessRunning; split <;> rfl
@[simp] theorem Ctl.dropWaitUnlessRunning_debounce (n : CardNo) : (c.dropWaitUnlessRunning n).debounce = c.debounce := by
  unfold Ctl.dropWaitUnlessRunning; split <;> rfl
@[simp] theorem Ctl.dropWaitUnlessRunning_freeDraws (n : CardNo) : (c.dropWaitUnlessRunning n).freeDraws = c.freeDraws := by
  unfold Ctl.dropWaitUnlessRunning; split <;> rfl

@[simp] theorem Ctl.updJob_files (n : CardNo) (f : Job → Job) : (c.updJob n f).files = c.files := by
  simp only [Ctl.updJob]; split <;> simp
@[simp] theorem Ctl.updJob_nextFile (n : CardNo) (f : Job → Job) : (c.updJob n f).nextFile = c.nextFile := by
  simp only [Ctl.updJob]; split <;> simp
@[simp] theorem Ctl.updJob_fileDoneTurn (n : CardNo) (f : Job → Job) : (c.updJob n f).fileDoneTurn = c.fileDoneTurn := by
  simp only [Ctl.updJob]; split <;> simp
@[simp] theorem Ctl.updJob_fileDoneWaiting (n : CardNo) (f : Job → Job) : (c.updJob n f).fileDoneWaiting = c.fileDoneWaiting := by
  simp only [Ctl.updJob]; split <;> simp
@[simp] theorem Ctl.updJob_slabs (n : CardNo) (f : Job → Job) : (c.updJob n f).slabs = c.slabs := by
  simp only [Ctl.updJob]; split <;> simp
@[simp] theorem Ctl.updJob_fillSeq (n : CardNo) (f : Job → Job) : (c.updJob n f).fillSeq = c.fillSeq := by
  simp only [Ctl.updJob]; split <;> simp
@[simp] theorem Ctl.updJob_lastGranted (n : CardNo) (f : Job → Job) : (c.updJob n f).lastGranted = c.lastGranted := by
  simp only [Ctl.updJob]; split <;> simp
@[simp] theorem Ctl.updJob_digest (n : CardNo) (f : Job → Job) : (c.updJob n f).digest = c.digest := by
  simp only [Ctl.updJob]; split <;> simp
@[simp] theorem Ctl.updJob_drives (n : CardNo) (f : Job → Job) : (c.updJob n f).drives = c.drives := by
  simp only [Ctl.updJob]; split <;> simp
@[simp] theorem Ctl.updJob_notices (n : CardNo) (f : Job → Job) : (c.updJob n f).notices = c.notices := by
  simp only [Ctl.updJob]; split <;> simp
@[simp] theorem Ctl.updJob_linkFault (n : CardNo) (f : Job → Job) : (c.updJob n f).linkFault = c.linkFault := by
  simp only [Ctl.updJob]; split <;> simp
@[simp] theorem Ctl.updJob_rateCode (n : CardNo) (f : Job → Job) : (c.updJob n f).rateCode = c.rateCode := by
  simp only [Ctl.updJob]; split <;> simp
@[simp] theorem Ctl.updJob_debounce (n : CardNo) (f : Job → Job) : (c.updJob n f).debounce = c.debounce := by
  simp only [Ctl.updJob]; split <;> simp
@[simp] theorem Ctl.updJob_freeDraws (n : CardNo) (f : Job → Job) : (c.updJob n f).freeDraws = c.freeDraws := by
  simp only [Ctl.updJob]; split <;> simp

@[simp] theorem Ctl.updJob_jobs (n : CardNo) (f : Job → Job) : (c.updJob n f).jobs = c.jobs.set n (f (c.job n)) := by
  simp only [Ctl.updJob]; split <;> simp

/-- A job record after an update of it. -/
@[simp] theorem Ctl.updJob_job (n : CardNo) (f : Job → Job) : (c.updJob n f).job n = f (c.job n) := by
  rw [Ctl.job, Ctl.updJob_jobs]; simp

end Sys2Proof.Machine
end

