-- ==== Sys2Proof/Laws/Slabs.lean ====
section
/-! SUPPORT. What the allocator's operations leave alone: grants, offers and releases change slabs, the wait list and card
ports, and a counted release its job's count and the output queue. -/

namespace Sys2Proof.Machine

variable (c : Ctl)

/-! ## Links of the ports -/

@[simp] theorem Ctl.cardRead_jobs (n : CardNo) (a k : Nat) : (c.cardRead n a k).jobs = c.jobs := rfl
@[simp] theorem Ctl.cardRead_files (n : CardNo) (a k : Nat) : (c.cardRead n a k).files = c.files := rfl
@[simp] theorem Ctl.cardRead_nextFile (n : CardNo) (a k : Nat) : (c.cardRead n a k).nextFile = c.nextFile := rfl
@[simp] theorem Ctl.cardRead_fileDoneTurn (n : CardNo) (a k : Nat) : (c.cardRead n a k).fileDoneTurn = c.fileDoneTurn := rfl
@[simp] theorem Ctl.cardRead_fileDoneWaiting (n : CardNo) (a k : Nat) : (c.cardRead n a k).fileDoneWaiting = c.fileDoneWaiting := rfl
@[simp] theorem Ctl.cardRead_slabs (n : CardNo) (a k : Nat) : (c.cardRead n a k).slabs = c.slabs := rfl
@[simp] theorem Ctl.cardRead_fillSeq (n : CardNo) (a k : Nat) : (c.cardRead n a k).fillSeq = c.fillSeq := rfl
@[simp] theorem Ctl.cardRead_waitList (n : CardNo) (a k : Nat) : (c.cardRead n a k).waitList = c.waitList := rfl
@[simp] theorem Ctl.cardRead_lastGranted (n : CardNo) (a k : Nat) : (c.cardRead n a k).lastGranted = c.lastGranted := rfl
@[simp] theorem Ctl.cardRead_digest (n : CardNo) (a k : Nat) : (c.cardRead n a k).digest = c.digest := rfl
@[simp] theorem Ctl.cardRead_drives (n : CardNo) (a k : Nat) : (c.cardRead n a k).drives = c.drives := rfl
@[simp] theorem Ctl.cardRead_outq (n : CardNo) (a k : Nat) : (c.cardRead n a k).outq = c.outq := rfl
@[simp] theorem Ctl.cardRead_notices (n : CardNo) (a k : Nat) : (c.cardRead n a k).notices = c.notices := rfl
@[simp] theorem Ctl.cardRead_linkFault (n : CardNo) (a k : Nat) : (c.cardRead n a k).linkFault = c.linkFault := rfl
@[simp] theorem Ctl.cardRead_rateCode (n : CardNo) (a k : Nat) : (c.cardRead n a k).rateCode = c.rateCode := rfl
@[simp] theorem Ctl.cardRead_debounce (n : CardNo) (a k : Nat) : (c.cardRead n a k).debounce = c.debounce := rfl
@[simp] theorem Ctl.cardRead_freeDraws (n : CardNo) (a k : Nat) : (c.cardRead n a k).freeDraws = c.freeDraws := rfl

@[simp] theorem Ctl.cardIdentify_jobs (n : CardNo) : (c.cardIdentify n).jobs = c.jobs := rfl
@[simp] theorem Ctl.cardIdentify_files (n : CardNo) : (c.cardIdentify n).files = c.files := rfl
@[simp] theorem Ctl.cardIdentify_nextFile (n : CardNo) : (c.cardIdentify n).nextFile = c.nextFile := rfl
@[simp] theorem Ctl.cardIdentify_fileDoneTurn (n : CardNo) : (c.cardIdentify n).fileDoneTurn = c.fileDoneTurn := rfl
@[simp] theorem Ctl.cardIdentify_fileDoneWaiting (n : CardNo) : (c.cardIdentify n).fileDoneWaiting = c.fileDoneWaiting := rfl
@[simp] theorem Ctl.cardIdentify_slabs (n : CardNo) : (c.cardIdentify n).slabs = c.slabs := rfl
@[simp] theorem Ctl.cardIdentify_fillSeq (n : CardNo) : (c.cardIdentify n).fillSeq = c.fillSeq := rfl
@[simp] theorem Ctl.cardIdentify_waitList (n : CardNo) : (c.cardIdentify n).waitList = c.waitList := rfl
@[simp] theorem Ctl.cardIdentify_lastGranted (n : CardNo) : (c.cardIdentify n).lastGranted = c.lastGranted := rfl
@[simp] theorem Ctl.cardIdentify_digest (n : CardNo) : (c.cardIdentify n).digest = c.digest := rfl
@[simp] theorem Ctl.cardIdentify_drives (n : CardNo) : (c.cardIdentify n).drives = c.drives := rfl
@[simp] theorem Ctl.cardIdentify_outq (n : CardNo) : (c.cardIdentify n).outq = c.outq := rfl
@[simp] theorem Ctl.cardIdentify_notices (n : CardNo) : (c.cardIdentify n).notices = c.notices := rfl
@[simp] theorem Ctl.cardIdentify_linkFault (n : CardNo) : (c.cardIdentify n).linkFault = c.linkFault := rfl
@[simp] theorem Ctl.cardIdentify_rateCode (n : CardNo) : (c.cardIdentify n).rateCode = c.rateCode := rfl
@[simp] theorem Ctl.cardIdentify_debounce (n : CardNo) : (c.cardIdentify n).debounce = c.debounce := rfl
@[simp] theorem Ctl.cardIdentify_freeDraws (n : CardNo) : (c.cardIdentify n).freeDraws = c.freeDraws := rfl

@[simp] theorem Ctl.driveIssue_jobs (d : DriveNo) (t : TxnKind) (a k : Nat) : (c.driveIssue d t a k).jobs = c.jobs := rfl
@[simp] theorem Ctl.driveIssue_files (d : DriveNo) (t : TxnKind) (a k : Nat) : (c.driveIssue d t a k).files = c.files := rfl
@[simp] theorem Ctl.driveIssue_nextFile (d : DriveNo) (t : TxnKind) (a k : Nat) : (c.driveIssue d t a k).nextFile = c.nextFile := rfl
@[simp] theorem Ctl.driveIssue_fileDoneTurn (d : DriveNo) (t : TxnKind) (a k : Nat) : (c.driveIssue d t a k).fileDoneTurn = c.fileDoneTurn := rfl
@[simp] theorem Ctl.driveIssue_fileDoneWaiting (d : DriveNo) (t : TxnKind) (a k : Nat) : (c.driveIssue d t a k).fileDoneWaiting = c.fileDoneWaiting := rfl
@[simp] theorem Ctl.driveIssue_slabs (d : DriveNo) (t : TxnKind) (a k : Nat) : (c.driveIssue d t a k).slabs = c.slabs := rfl
@[simp] theorem Ctl.driveIssue_fillSeq (d : DriveNo) (t : TxnKind) (a k : Nat) : (c.driveIssue d t a k).fillSeq = c.fillSeq := rfl
@[simp] theorem Ctl.driveIssue_waitList (d : DriveNo) (t : TxnKind) (a k : Nat) : (c.driveIssue d t a k).waitList = c.waitList := rfl
@[simp] theorem Ctl.driveIssue_lastGranted (d : DriveNo) (t : TxnKind) (a k : Nat) : (c.driveIssue d t a k).lastGranted = c.lastGranted := rfl
@[simp] theorem Ctl.driveIssue_digest (d : DriveNo) (t : TxnKind) (a k : Nat) : (c.driveIssue d t a k).digest = c.digest := rfl
@[simp] theorem Ctl.driveIssue_cards (d : DriveNo) (t : TxnKind) (a k : Nat) : (c.driveIssue d t a k).cards = c.cards := rfl
@[simp] theorem Ctl.driveIssue_outq (d : DriveNo) (t : TxnKind) (a k : Nat) : (c.driveIssue d t a k).outq = c.outq := rfl
@[simp] theorem Ctl.driveIssue_notices (d : DriveNo) (t : TxnKind) (a k : Nat) : (c.driveIssue d t a k).notices = c.notices := rfl
@[simp] theorem Ctl.driveIssue_linkFault (d : DriveNo) (t : TxnKind) (a k : Nat) : (c.driveIssue d t a k).linkFault = c.linkFault := rfl
@[simp] theorem Ctl.driveIssue_rateCode (d : DriveNo) (t : TxnKind) (a k : Nat) : (c.driveIssue d t a k).rateCode = c.rateCode := rfl
@[simp] theorem Ctl.driveIssue_debounce (d : DriveNo) (t : TxnKind) (a k : Nat) : (c.driveIssue d t a k).debounce = c.debounce := rfl
@[simp] theorem Ctl.driveIssue_freeDraws (d : DriveNo) (t : TxnKind) (a k : Nat) : (c.driveIssue d t a k).freeDraws = c.freeDraws := rfl

/-! ## Grants -/

@[simp] theorem Ctl.issueSpanRead_jobs (n : CardNo) : (c.issueSpanRead n).jobs = c.jobs := by
  simp only [Ctl.issueSpanRead]; repeat (first | rfl | split)
@[simp] theorem Ctl.issueSpanRead_files (n : CardNo) : (c.issueSpanRead n).files = c.files := by
  simp only [Ctl.issueSpanRead]; repeat (first | rfl | split)
@[simp] theorem Ctl.issueSpanRead_nextFile (n : CardNo) : (c.issueSpanRead n).nextFile = c.nextFile := by
  simp only [Ctl.issueSpanRead]; repeat (first | rfl | split)
@[simp] theorem Ctl.issueSpanRead_fileDoneTurn (n : CardNo) : (c.issueSpanRead n).fileDoneTurn = c.fileDoneTurn := by
  simp only [Ctl.issueSpanRead]; repeat (first | rfl | split)
@[simp] theorem Ctl.issueSpanRead_fileDoneWaiting (n : CardNo) : (c.issueSpanRead n).fileDoneWaiting = c.fileDoneWaiting := by
  simp only [Ctl.issueSpanRead]; repeat (first | rfl | split)
@[simp] theorem Ctl.issueSpanRead_fillSeq (n : CardNo) : (c.issueSpanRead n).fillSeq = c.fillSeq := by
  simp only [Ctl.issueSpanRead]; repeat (first | rfl | split)
@[simp] theorem Ctl.issueSpanRead_digest (n : CardNo) : (c.issueSpanRead n).digest = c.digest := by
  simp only [Ctl.issueSpanRead]; repeat (first | rfl | split)
@[simp] theorem Ctl.issueSpanRead_drives (n : CardNo) : (c.issueSpanRead n).drives = c.drives := by
  simp only [Ctl.issueSpanRead]; repeat (first | rfl | split)
@[simp] theorem Ctl.issueSpanRead_outq (n : CardNo) : (c.issueSpanRead n).outq = c.outq := by
  simp only [Ctl.issueSpanRead]; repeat (first | rfl | split)
@[simp] theorem Ctl.issueSpanRead_notices (n : CardNo) : (c.issueSpanRead n).notices = c.notices := by
  simp only [Ctl.issueSpanRead]; repeat (first | rfl | split)
@[simp] theorem Ctl.issueSpanRead_linkFault (n : CardNo) : (c.issueSpanRead n).linkFault = c.linkFault := by
  simp only [Ctl.issueSpanRead]; repeat (first | rfl | split)
@[simp] theorem Ctl.issueSpanRead_rateCode (n : CardNo) : (c.issueSpanRead n).rateCode = c.rateCode := by
  simp only [Ctl.issueSpanRead]; repeat (first | rfl | split)
@[simp] theorem Ctl.issueSpanRead_debounce (n : CardNo) : (c.issueSpanRead n).debounce = c.debounce := by
  simp only [Ctl.issueSpanRead]; repeat (first | rfl | split)
@[simp] theorem Ctl.issueSpanRead_freeDraws (n : CardNo) : (c.issueSpanRead n).freeDraws = c.freeDraws := by
  simp only [Ctl.issueSpanRead]; repeat (first | rfl | split)
@[simp] theorem Ctl.issueSpanRead_slabs (n : CardNo) : (c.issueSpanRead n).slabs = c.slabs := by
  simp only [Ctl.issueSpanRead]; repeat (first | rfl | split)
@[simp] theorem Ctl.issueSpanRead_waitList (n : CardNo) : (c.issueSpanRead n).waitList = c.waitList := by
  simp only [Ctl.issueSpanRead]; repeat (first | rfl | split)
@[simp] theorem Ctl.issueSpanRead_lastGranted (n : CardNo) : (c.issueSpanRead n).lastGranted = c.lastGranted := by
  simp only [Ctl.issueSpanRead]; repeat (first | rfl | split)

@[simp] theorem Ctl.grantSource_jobs (n : CardNo) (x : SlabNo) : (c.grantSource n x).jobs = c.jobs := by
  simp only [Ctl.grantSource]; split <;> simp
@[simp] theorem Ctl.grantSource_files (n : CardNo) (x : SlabNo) : (c.grantSource n x).files = c.files := by
  simp only [Ctl.grantSource]; split <;> simp
@[simp] theorem Ctl.grantSource_nextFile (n : CardNo) (x : SlabNo) : (c.grantSource n x).nextFile = c.nextFile := by
  simp only [Ctl.grantSource]; split <;> simp
@[simp] theorem Ctl.grantSource_fileDoneTurn (n : CardNo) (x : SlabNo) : (c.grantSource n x).fileDoneTurn = c.fileDoneTurn := by
  simp only [Ctl.grantSource]; split <;> simp
@[simp] theorem Ctl.grantSource_fileDoneWaiting (n : CardNo) (x : SlabNo) : (c.grantSource n x).fileDoneWaiting = c.fileDoneWaiting := by
  simp only [Ctl.grantSource]; split <;> simp
@[simp] theorem Ctl.grantSource_fillSeq (n : CardNo) (x : SlabNo) : (c.grantSource n x).fillSeq = c.fillSeq := by
  simp only [Ctl.grantSource]; split <;> simp
@[simp] theorem Ctl.grantSource_digest (n : CardNo) (x : SlabNo) : (c.grantSource n x).digest = c.digest := by
  simp only [Ctl.grantSource]; split <;> simp
@[simp] theorem Ctl.grantSource_drives (n : CardNo) (x : SlabNo) : (c.grantSource n x).drives = c.drives := by
  simp only [Ctl.grantSource]; split <;> simp
@[simp] theorem Ctl.grantSource_outq (n : CardNo) (x : SlabNo) : (c.grantSource n x).outq = c.outq := by
  simp only [Ctl.grantSource]; split <;> simp
@[simp] theorem Ctl.grantSource_notices (n : CardNo) (x : SlabNo) : (c.grantSource n x).notices = c.notices := by
  simp only [Ctl.grantSource]; split <;> simp
@[simp] theorem Ctl.grantSource_linkFault (n : CardNo) (x : SlabNo) : (c.grantSource n x).linkFault = c.linkFault := by
  simp only [Ctl.grantSource]; split <;> simp
@[simp] theorem Ctl.grantSource_rateCode (n : CardNo) (x : SlabNo) : (c.grantSource n x).rateCode = c.rateCode := by
  simp only [Ctl.grantSource]; split <;> simp
@[simp] theorem Ctl.grantSource_debounce (n : CardNo) (x : SlabNo) : (c.grantSource n x).debounce = c.debounce := by
  simp only [Ctl.grantSource]; split <;> simp
@[simp] theorem Ctl.grantSource_freeDraws (n : CardNo) (x : SlabNo) : (c.grantSource n x).freeDraws = c.freeDraws := by
  simp only [Ctl.grantSource]; split <;> simp

@[simp] theorem Ctl.grantScan_jobs (n : CardNo) (x : SlabNo) : (c.grantScan n x).jobs = c.jobs := by
  unfold Ctl.grantScan; simp
@[simp] theorem Ctl.grantScan_files (n : CardNo) (x : SlabNo) : (c.grantScan n x).files = c.files := by
  unfold Ctl.grantScan; simp
@[simp] theorem Ctl.grantScan_nextFile (n : CardNo) (x : SlabNo) : (c.grantScan n x).nextFile = c.nextFile := by
  unfold Ctl.grantScan; simp
@[simp] theorem Ctl.grantScan_fileDoneTurn (n : CardNo) (x : SlabNo) : (c.grantScan n x).fileDoneTurn = c.fileDoneTurn := by
  unfold Ctl.grantScan; simp
@[simp] theorem Ctl.grantScan_fileDoneWaiting (n : CardNo) (x : SlabNo) : (c.grantScan n x).fileDoneWaiting = c.fileDoneWaiting := by
  unfold Ctl.grantScan; simp
@[simp] theorem Ctl.grantScan_fillSeq (n : CardNo) (x : SlabNo) : (c.grantScan n x).fillSeq = c.fillSeq := by
  unfold Ctl.grantScan; simp
@[simp] theorem Ctl.grantScan_digest (n : CardNo) (x : SlabNo) : (c.grantScan n x).digest = c.digest := by
  unfold Ctl.grantScan; simp
@[simp] theorem Ctl.grantScan_drives (n : CardNo) (x : SlabNo) : (c.grantScan n x).drives = c.drives := by
  unfold Ctl.grantScan; simp
@[simp] theorem Ctl.grantScan_outq (n : CardNo) (x : SlabNo) : (c.grantScan n x).outq = c.outq := by
  unfold Ctl.grantScan; simp
@[simp] theorem Ctl.grantScan_notices (n : CardNo) (x : SlabNo) : (c.grantScan n x).notices = c.notices := by
  unfold Ctl.grantScan; simp
@[simp] theorem Ctl.grantScan_linkFault (n : CardNo) (x : SlabNo) : (c.grantScan n x).linkFault = c.linkFault := by
  unfold Ctl.grantScan; simp
@[simp] theorem Ctl.grantScan_rateCode (n : CardNo) (x : SlabNo) : (c.grantScan n x).rateCode = c.rateCode := by
  unfold Ctl.grantScan; simp
@[simp] theorem Ctl.grantScan_debounce (n : CardNo) (x : SlabNo) : (c.grantScan n x).debounce = c.debounce := by
  unfold Ctl.grantScan; simp
@[simp] theorem Ctl.grantScan_freeDraws (n : CardNo) (x : SlabNo) : (c.grantScan n x).freeDraws = c.freeDraws := by
  unfold Ctl.grantScan; simp

@[simp] theorem Ctl.grant_jobs (n : CardNo) (u : SlabUse) (x : SlabNo) : (c.grant n u x).jobs = c.jobs := by
  cases u <;> simp [Ctl.grant]
@[simp] theorem Ctl.grant_files (n : CardNo) (u : SlabUse) (x : SlabNo) : (c.grant n u x).files = c.files := by
  cases u <;> simp [Ctl.grant]
@[simp] theorem Ctl.grant_nextFile (n : CardNo) (u : SlabUse) (x : SlabNo) : (c.grant n u x).nextFile = c.nextFile := by
  cases u <;> simp [Ctl.grant]
@[simp] theorem Ctl.grant_fileDoneTurn (n : CardNo) (u : SlabUse) (x : SlabNo) : (c.grant n u x).fileDoneTurn = c.fileDoneTurn := by
  cases u <;> simp [Ctl.grant]
@[simp] theorem Ctl.grant_fileDoneWaiting (n : CardNo) (u : SlabUse) (x : SlabNo) : (c.grant n u x).fileDoneWaiting = c.fileDoneWaiting := by
  cases u <;> simp [Ctl.grant]
@[simp] theorem Ctl.grant_fillSeq (n : CardNo) (u : SlabUse) (x : SlabNo) : (c.grant n u x).fillSeq = c.fillSeq := by
  cases u <;> simp [Ctl.grant]
@[simp] theorem Ctl.grant_digest (n : CardNo) (u : SlabUse) (x : SlabNo) : (c.grant n u x).digest = c.digest := by
  cases u <;> simp [Ctl.grant]
@[simp] theorem Ctl.grant_drives (n : CardNo) (u : SlabUse) (x : SlabNo) : (c.grant n u x).drives = c.drives := by
  cases u <;> simp [Ctl.grant]
@[simp] theorem Ctl.grant_outq (n : CardNo) (u : SlabUse) (x : SlabNo) : (c.grant n u x).outq = c.outq := by
  cases u <;> simp [Ctl.grant]
@[simp] theorem Ctl.grant_notices (n : CardNo) (u : SlabUse) (x : SlabNo) : (c.grant n u x).notices = c.notices := by
  cases u <;> simp [Ctl.grant]
@[simp] theorem Ctl.grant_linkFault (n : CardNo) (u : SlabUse) (x : SlabNo) : (c.grant n u x).linkFault = c.linkFault := by
  cases u <;> simp [Ctl.grant]
@[simp] theorem Ctl.grant_rateCode (n : CardNo) (u : SlabUse) (x : SlabNo) : (c.grant n u x).rateCode = c.rateCode := by
  cases u <;> simp [Ctl.grant]
@[simp] theorem Ctl.grant_debounce (n : CardNo) (u : SlabUse) (x : SlabNo) : (c.grant n u x).debounce = c.debounce := by
  cases u <;> simp [Ctl.grant]
@[simp] theorem Ctl.grant_freeDraws (n : CardNo) (u : SlabUse) (x : SlabNo) : (c.grant n u x).freeDraws = c.freeDraws := by
  cases u <;> simp [Ctl.grant]

@[simp] theorem Ctl.raise_jobs (n : CardNo) (u : SlabUse) : (c.raise n u).jobs = c.jobs := by
  simp only [Ctl.raise]; split <;> [rfl; (split <;> simp)]
@[simp] theorem Ctl.raise_files (n : CardNo) (u : SlabUse) : (c.raise n u).files = c.files := by
  simp only [Ctl.raise]; split <;> [rfl; (split <;> simp)]
@[simp] theorem Ctl.raise_nextFile (n : CardNo) (u : SlabUse) : (c.raise n u).nextFile = c.nextFile := by
  simp only [Ctl.raise]; split <;> [rfl; (split <;> simp)]
@[simp] theorem Ctl.raise_fileDoneTurn (n : CardNo) (u : SlabUse) : (c.raise n u).fileDoneTurn = c.fileDoneTurn := by
  simp only [Ctl.raise]; split <;> [rfl; (split <;> simp)]
@[simp] theorem Ctl.raise_fileDoneWaiting (n : CardNo) (u : SlabUse) : (c.raise n u).fileDoneWaiting = c.fileDoneWaiting := by
  simp only [Ctl.raise]; split <;> [rfl; (split <;> simp)]
@[simp] theorem Ctl.raise_fillSeq (n : CardNo) (u : SlabUse) : (c.raise n u).fillSeq = c.fillSeq := by
  simp only [Ctl.raise]; split <;> [rfl; (split <;> simp)]
@[simp] theorem Ctl.raise_digest (n : CardNo) (u : SlabUse) : (c.raise n u).digest = c.digest := by
  simp only [Ctl.raise]; split <;> [rfl; (split <;> simp)]
@[simp] theorem Ctl.raise_drives (n : CardNo) (u : SlabUse) : (c.raise n u).drives = c.drives := by
  simp only [Ctl.raise]; split <;> [rfl; (split <;> simp)]
@[simp] theorem Ctl.raise_outq (n : CardNo) (u : SlabUse) : (c.raise n u).outq = c.outq := by
  simp only [Ctl.raise]; split <;> [rfl; (split <;> simp)]
@[simp] theorem Ctl.raise_notices (n : CardNo) (u : SlabUse) : (c.raise n u).notices = c.notices := by
  simp only [Ctl.raise]; split <;> [rfl; (split <;> simp)]
@[simp] theorem Ctl.raise_linkFault (n : CardNo) (u : SlabUse) : (c.raise n u).linkFault = c.linkFault := by
  simp only [Ctl.raise]; split <;> [rfl; (split <;> simp)]
@[simp] theorem Ctl.raise_rateCode (n : CardNo) (u : SlabUse) : (c.raise n u).rateCode = c.rateCode := by
  simp only [Ctl.raise]; split <;> [rfl; (split <;> simp)]
@[simp] theorem Ctl.raise_debounce (n : CardNo) (u : SlabUse) : (c.raise n u).debounce = c.debounce := by
  simp only [Ctl.raise]; split <;> [rfl; (split <;> simp)]
@[simp] theorem Ctl.raise_freeDraws (n : CardNo) (u : SlabUse) : (c.raise n u).freeDraws = c.freeDraws := by
  simp only [Ctl.raise]; split <;> [rfl; (split <;> simp)]

@[simp] theorem Ctl.raiseSource_jobs (n : CardNo) : (c.raiseSource n).jobs = c.jobs := by
  simp only [Ctl.raiseSource]; split <;> simp
@[simp] theorem Ctl.raiseSource_files (n : CardNo) : (c.raiseSource n).files = c.files := by
  simp only [Ctl.raiseSource]; split <;> simp
@[simp] theorem Ctl.raiseSource_nextFile (n : CardNo) : (c.raiseSource n).nextFile = c.nextFile := by
  simp only [Ctl.raiseSource]; split <;> simp
@[simp] theorem Ctl.raiseSource_fileDoneTurn (n : CardNo) : (c.raiseSource n).fileDoneTurn = c.fileDoneTurn := by
  simp only [Ctl.raiseSource]; split <;> simp
@[simp] theorem Ctl.raiseSource_fileDoneWaiting (n : CardNo) : (c.raiseSource n).fileDoneWaiting = c.fileDoneWaiting := by
  simp only [Ctl.raiseSource]; split <;> simp
@[simp] theorem Ctl.raiseSource_fillSeq (n : CardNo) : (c.raiseSource n).fillSeq = c.fillSeq := by
  simp only [Ctl.raiseSource]; split <;> simp
@[simp] theorem Ctl.raiseSource_digest (n : CardNo) : (c.raiseSource n).digest = c.digest := by
  simp only [Ctl.raiseSource]; split <;> simp
@[simp] theorem Ctl.raiseSource_drives (n : CardNo) : (c.raiseSource n).drives = c.drives := by
  simp only [Ctl.raiseSource]; split <;> simp
@[simp] theorem Ctl.raiseSource_outq (n : CardNo) : (c.raiseSource n).outq = c.outq := by
  simp only [Ctl.raiseSource]; split <;> simp
@[simp] theorem Ctl.raiseSource_notices (n : CardNo) : (c.raiseSource n).notices = c.notices := by
  simp only [Ctl.raiseSource]; split <;> simp
@[simp] theorem Ctl.raiseSource_linkFault (n : CardNo) : (c.raiseSource n).linkFault = c.linkFault := by
  simp only [Ctl.raiseSource]; split <;> simp
@[simp] theorem Ctl.raiseSource_rateCode (n : CardNo) : (c.raiseSource n).rateCode = c.rateCode := by
  simp only [Ctl.raiseSource]; split <;> simp
@[simp] theorem Ctl.raiseSource_debounce (n : CardNo) : (c.raiseSource n).debounce = c.debounce := by
  simp only [Ctl.raiseSource]; split <;> simp
@[simp] theorem Ctl.raiseSource_freeDraws (n : CardNo) : (c.raiseSource n).freeDraws = c.freeDraws := by
  simp only [Ctl.raiseSource]; split <;> simp

/-- What a withdrawn entry and a grant leave, an offer leaves. -/
theorem Ctl.offerRun_keeps {α : Type} (g : Ctl → α) (hw : ∀ (c : Ctl) (n : CardNo), g (c.setWait n none) = g c)
    (hg : ∀ (c : Ctl) (n : CardNo) (u : SlabUse) (x : SlabNo), g (c.grant n u x) = g c) (k : Nat) (c : Ctl) (x : SlabNo) :
    g (c.offerRun k x) = g c := by
  induction k generalizing c with
  | zero => rfl
  | succ k ih =>
    simp only [Ctl.offerRun]
    repeat' split
    all_goals simp [ih, hw, hg]

@[simp] theorem Ctl.offer_jobs (x : SlabNo) : (c.offer x).jobs = c.jobs :=
  Ctl.offerRun_keeps (·.jobs) (by simp) (by simp) 8 c x
@[simp] theorem Ctl.offer_files (x : SlabNo) : (c.offer x).files = c.files :=
  Ctl.offerRun_keeps (·.files) (by simp) (by simp) 8 c x
@[simp] theorem Ctl.offer_nextFile (x : SlabNo) : (c.offer x).nextFile = c.nextFile :=
  Ctl.offerRun_keeps (·.nextFile) (by simp) (by simp) 8 c x
@[simp] theorem Ctl.offer_fileDoneTurn (x : SlabNo) : (c.offer x).fileDoneTurn = c.fileDoneTurn :=
  Ctl.offerRun_keeps (·.fileDoneTurn) (by simp) (by simp) 8 c x
@[simp] theorem Ctl.offer_fileDoneWaiting (x : SlabNo) : (c.offer x).fileDoneWaiting = c.fileDoneWaiting :=
  Ctl.offerRun_keeps (·.fileDoneWaiting) (by simp) (by simp) 8 c x
@[simp] theorem Ctl.offer_fillSeq (x : SlabNo) : (c.offer x).fillSeq = c.fillSeq :=
  Ctl.offerRun_keeps (·.fillSeq) (by simp) (by simp) 8 c x
@[simp] theorem Ctl.offer_digest (x : SlabNo) : (c.offer x).digest = c.digest :=
  Ctl.offerRun_keeps (·.digest) (by simp) (by simp) 8 c x
@[simp] theorem Ctl.offer_drives (x : SlabNo) : (c.offer x).drives = c.drives :=
  Ctl.offerRun_keeps (·.drives) (by simp) (by simp) 8 c x
@[simp] theorem Ctl.offer_outq (x : SlabNo) : (c.offer x).outq = c.outq :=
  Ctl.offerRun_keeps (·.outq) (by simp) (by simp) 8 c x
@[simp] theorem Ctl.offer_notices (x : SlabNo) : (c.offer x).notices = c.notices :=
  Ctl.offerRun_keeps (·.notices) (by simp) (by simp) 8 c x
@[simp] theorem Ctl.offer_linkFault (x : SlabNo) : (c.offer x).linkFault = c.linkFault :=
  Ctl.offerRun_keeps (·.linkFault) (by simp) (by simp) 8 c x
@[simp] theorem Ctl.offer_rateCode (x : SlabNo) : (c.offer x).rateCode = c.rateCode :=
  Ctl.offerRun_keeps (·.rateCode) (by simp) (by simp) 8 c x
@[simp] theorem Ctl.offer_debounce (x : SlabNo) : (c.offer x).debounce = c.debounce :=
  Ctl.offerRun_keeps (·.debounce) (by simp) (by simp) 8 c x
@[simp] theorem Ctl.offer_freeDraws (x : SlabNo) : (c.offer x).freeDraws = c.freeDraws :=
  Ctl.offerRun_keeps (·.freeDraws) (by simp) (by simp) 8 c x

@[simp] theorem Ctl.dropStaleWait_jobs (n : CardNo) : (c.dropStaleWait n).jobs = c.jobs := by
  simp only [Ctl.dropStaleWait]; split <;> simp
@[simp] theorem Ctl.dropStaleWait_files (n : CardNo) : (c.dropStaleWait n).files = c.files := by
  simp only [Ctl.dropStaleWait]; split <;> simp
@[simp] theorem Ctl.dropStaleWait_nextFile (n : CardNo) : (c.dropStaleWait n).nextFile = c.nextFile := by
  simp only [Ctl.dropStaleWait]; split <;> simp
@[simp] theorem Ctl.dropStaleWait_fileDoneTurn (n : CardNo) : (c.dropStaleWait n).fileDoneTurn = c.fileDoneTurn := by
  simp only [Ctl.dropStaleWait]; split <;> simp
@[simp] theorem Ctl.dropStaleWait_fileDoneWaiting (n : CardNo) : (c.dropStaleWait n).fileDoneWaiting = c.fileDoneWaiting := by
  simp only [Ctl.dropStaleWait]; split <;> simp
@[simp] theorem Ctl.dropStaleWait_fillSeq (n : CardNo) : (c.dropStaleWait n).fillSeq = c.fillSeq := by
  simp only [Ctl.dropStaleWait]; split <;> simp
@[simp] theorem Ctl.dropStaleWait_digest (n : CardNo) : (c.dropStaleWait n).digest = c.digest := by
  simp only [Ctl.dropStaleWait]; split <;> simp
@[simp] theorem Ctl.dropStaleWait_drives (n : CardNo) : (c.dropStaleWait n).drives = c.drives := by
  simp only [Ctl.dropStaleWait]; split <;> simp
@[simp] theorem Ctl.dropStaleWait_outq (n : CardNo) : (c.dropStaleWait n).outq = c.outq := by
  simp only [Ctl.dropStaleWait]; split <;> simp
@[simp] theorem Ctl.dropStaleWait_notices (n : CardNo) : (c.dropStaleWait n).notices = c.notices := by
  simp only [Ctl.dropStaleWait]; split <;> simp
@[simp] theorem Ctl.dropStaleWait_linkFault (n : CardNo) : (c.dropStaleWait n).linkFault = c.linkFault := by
  simp only [Ctl.dropStaleWait]; split <;> simp
@[simp] theorem Ctl.dropStaleWait_rateCode (n : CardNo) : (c.dropStaleWait n).rateCode = c.rateCode := by
  simp only [Ctl.dropStaleWait]; split <;> simp
@[simp] theorem Ctl.dropStaleWait_debounce (n : CardNo) : (c.dropStaleWait n).debounce = c.debounce := by
  simp only [Ctl.dropStaleWait]; split <;> simp
@[simp] theorem Ctl.dropStaleWait_freeDraws (n : CardNo) : (c.dropStaleWait n).freeDraws = c.freeDraws := by
  simp only [Ctl.dropStaleWait]; split <;> simp
@[simp] theorem Ctl.dropStaleWait_slabs (n : CardNo) : (c.dropStaleWait n).slabs = c.slabs := by
  simp only [Ctl.dropStaleWait]; split <;> simp
@[simp] theorem Ctl.dropStaleWait_cards (n : CardNo) : (c.dropStaleWait n).cards = c.cards := by
  simp only [Ctl.dropStaleWait]; split <;> simp
@[simp] theorem Ctl.dropStaleWait_lastGranted (n : CardNo) : (c.dropStaleWait n).lastGranted = c.lastGranted := by
  simp only [Ctl.dropStaleWait]; split <;> simp

/-! ## Releases -/

@[simp] theorem Ctl.freePoolSlab_jobs (x : SlabNo) : (c.freePoolSlab x).jobs = c.jobs := by
  simp [Ctl.freePoolSlab]
@[simp] theorem Ctl.freePoolSlab_files (x : SlabNo) : (c.freePoolSlab x).files = c.files := by
  simp [Ctl.freePoolSlab]
@[simp] theorem Ctl.freePoolSlab_nextFile (x : SlabNo) : (c.freePoolSlab x).nextFile = c.nextFile := by
  simp [Ctl.freePoolSlab]
@[simp] theorem Ctl.freePoolSlab_fileDoneTurn (x : SlabNo) : (c.freePoolSlab x).fileDoneTurn = c.fileDoneTurn := by
  simp [Ctl.freePoolSlab]
@[simp] theorem Ctl.freePoolSlab_fileDoneWaiting (x : SlabNo) : (c.freePoolSlab x).fileDoneWaiting = c.fileDoneWaiting := by
  simp [Ctl.freePoolSlab]
@[simp] theorem Ctl.freePoolSlab_fillSeq (x : SlabNo) : (c.freePoolSlab x).fillSeq = c.fillSeq := by
  simp [Ctl.freePoolSlab]
@[simp] theorem Ctl.freePoolSlab_digest (x : SlabNo) : (c.freePoolSlab x).digest = c.digest := by
  simp [Ctl.freePoolSlab]
@[simp] theorem Ctl.freePoolSlab_drives (x : SlabNo) : (c.freePoolSlab x).drives = c.drives := by
  simp [Ctl.freePoolSlab]
@[simp] theorem Ctl.freePoolSlab_outq (x : SlabNo) : (c.freePoolSlab x).outq = c.outq := by
  simp [Ctl.freePoolSlab]
@[simp] theorem Ctl.freePoolSlab_notices (x : SlabNo) : (c.freePoolSlab x).notices = c.notices := by
  simp [Ctl.freePoolSlab]
@[simp] theorem Ctl.freePoolSlab_linkFault (x : SlabNo) : (c.freePoolSlab x).linkFault = c.linkFault := by
  simp [Ctl.freePoolSlab]
@[simp] theorem Ctl.freePoolSlab_rateCode (x : SlabNo) : (c.freePoolSlab x).rateCode = c.rateCode := by
  simp [Ctl.freePoolSlab]
@[simp] theorem Ctl.freePoolSlab_debounce (x : SlabNo) : (c.freePoolSlab x).debounce = c.debounce := by
  simp [Ctl.freePoolSlab]
@[simp] theorem Ctl.freePoolSlab_freeDraws (x : SlabNo) : (c.freePoolSlab x).freeDraws = c.freeDraws := by
  simp [Ctl.freePoolSlab]

@[simp] theorem Ctl.releaseCounted_files (n : CardNo) (x : SlabNo) : (c.releaseCounted n x).files = c.files := by
  simp [Ctl.releaseCounted]
@[simp] theorem Ctl.releaseCounted_nextFile (n : CardNo) (x : SlabNo) : (c.releaseCounted n x).nextFile = c.nextFile := by
  simp [Ctl.releaseCounted]
@[simp] theorem Ctl.releaseCounted_fileDoneTurn (n : CardNo) (x : SlabNo) : (c.releaseCounted n x).fileDoneTurn = c.fileDoneTurn := by
  simp [Ctl.releaseCounted]
@[simp] theorem Ctl.releaseCounted_fileDoneWaiting (n : CardNo) (x : SlabNo) : (c.releaseCounted n x).fileDoneWaiting = c.fileDoneWaiting := by
  simp [Ctl.releaseCounted]
@[simp] theorem Ctl.releaseCounted_fillSeq (n : CardNo) (x : SlabNo) : (c.releaseCounted n x).fillSeq = c.fillSeq := by
  simp [Ctl.releaseCounted]
@[simp] theorem Ctl.releaseCounted_digest (n : CardNo) (x : SlabNo) : (c.releaseCounted n x).digest = c.digest := by
  simp [Ctl.releaseCounted]
@[simp] theorem Ctl.releaseCounted_drives (n : CardNo) (x : SlabNo) : (c.releaseCounted n x).drives = c.drives := by
  simp [Ctl.releaseCounted]
@[simp] theorem Ctl.releaseCounted_notices (n : CardNo) (x : SlabNo) : (c.releaseCounted n x).notices = c.notices := by
  simp [Ctl.releaseCounted]
@[simp] theorem Ctl.releaseCounted_linkFault (n : CardNo) (x : SlabNo) : (c.releaseCounted n x).linkFault = c.linkFault := by
  simp [Ctl.releaseCounted]
@[simp] theorem Ctl.releaseCounted_rateCode (n : CardNo) (x : SlabNo) : (c.releaseCounted n x).rateCode = c.rateCode := by
  simp [Ctl.releaseCounted]
@[simp] theorem Ctl.releaseCounted_debounce (n : CardNo) (x : SlabNo) : (c.releaseCounted n x).debounce = c.debounce := by
  simp [Ctl.releaseCounted]
@[simp] theorem Ctl.releaseCounted_freeDraws (n : CardNo) (x : SlabNo) : (c.releaseCounted n x).freeDraws = c.freeDraws := by
  simp [Ctl.releaseCounted]

@[simp] theorem Ctl.testRelease_files (x : SlabNo) : (c.testRelease x).files = c.files := by
  simp only [Ctl.testRelease]; split <;> [(split <;> simp); rfl]
@[simp] theorem Ctl.testRelease_nextFile (x : SlabNo) : (c.testRelease x).nextFile = c.nextFile := by
  simp only [Ctl.testRelease]; split <;> [(split <;> simp); rfl]
@[simp] theorem Ctl.testRelease_fileDoneTurn (x : SlabNo) : (c.testRelease x).fileDoneTurn = c.fileDoneTurn := by
  simp only [Ctl.testRelease]; split <;> [(split <;> simp); rfl]
@[simp] theorem Ctl.testRelease_fileDoneWaiting (x : SlabNo) : (c.testRelease x).fileDoneWaiting = c.fileDoneWaiting := by
  simp only [Ctl.testRelease]; split <;> [(split <;> simp); rfl]
@[simp] theorem Ctl.testRelease_fillSeq (x : SlabNo) : (c.testRelease x).fillSeq = c.fillSeq := by
  simp only [Ctl.testRelease]; split <;> [(split <;> simp); rfl]
@[simp] theorem Ctl.testRelease_digest (x : SlabNo) : (c.testRelease x).digest = c.digest := by
  simp only [Ctl.testRelease]; split <;> [(split <;> simp); rfl]
@[simp] theorem Ctl.testRelease_drives (x : SlabNo) : (c.testRelease x).drives = c.drives := by
  simp only [Ctl.testRelease]; split <;> [(split <;> simp); rfl]
@[simp] theorem Ctl.testRelease_notices (x : SlabNo) : (c.testRelease x).notices = c.notices := by
  simp only [Ctl.testRelease]; split <;> [(split <;> simp); rfl]
@[simp] theorem Ctl.testRelease_linkFault (x : SlabNo) : (c.testRelease x).linkFault = c.linkFault := by
  simp only [Ctl.testRelease]; split <;> [(split <;> simp); rfl]
@[simp] theorem Ctl.testRelease_rateCode (x : SlabNo) : (c.testRelease x).rateCode = c.rateCode := by
  simp only [Ctl.testRelease]; split <;> [(split <;> simp); rfl]
@[simp] theorem Ctl.testRelease_debounce (x : SlabNo) : (c.testRelease x).debounce = c.debounce := by
  simp only [Ctl.testRelease]; split <;> [(split <;> simp); rfl]
@[simp] theorem Ctl.testRelease_freeDraws (x : SlabNo) : (c.testRelease x).freeDraws = c.freeDraws := by
  simp only [Ctl.testRelease]; split <;> [(split <;> simp); rfl]

@[simp] theorem Ctl.testReleases_files (xs : List SlabNo) : (c.testReleases xs).files = c.files := by
  induction xs generalizing c with
  | nil => rfl
  | cons x xs ih => rw [Ctl.testReleases, List.foldl_cons]; exact (ih _).trans (by simp)
@[simp] theorem Ctl.testReleases_nextFile (xs : List SlabNo) : (c.testReleases xs).nextFile = c.nextFile := by
  induction xs generalizing c with
  | nil => rfl
  | cons x xs ih => rw [Ctl.testReleases, List.foldl_cons]; exact (ih _).trans (by simp)
@[simp] theorem Ctl.testReleases_fileDoneTurn (xs : List SlabNo) : (c.testReleases xs).fileDoneTurn = c.fileDoneTurn := by
  induction xs generalizing c with
  | nil => rfl
  | cons x xs ih => rw [Ctl.testReleases, List.foldl_cons]; exact (ih _).trans (by simp)
@[simp] theorem Ctl.testReleases_fileDoneWaiting (xs : List SlabNo) : (c.testReleases xs).fileDoneWaiting = c.fileDoneWaiting := by
  induction xs generalizing c with
  | nil => rfl
  | cons x xs ih => rw [Ctl.testReleases, List.foldl_cons]; exact (ih _).trans (by simp)
@[simp] theorem Ctl.testReleases_fillSeq (xs : List SlabNo) : (c.testReleases xs).fillSeq = c.fillSeq := by
  induction xs generalizing c with
  | nil => rfl
  | cons x xs ih => rw [Ctl.testReleases, List.foldl_cons]; exact (ih _).trans (by simp)
@[simp] theorem Ctl.testReleases_digest (xs : List SlabNo) : (c.testReleases xs).digest = c.digest := by
  induction xs generalizing c with
  | nil => rfl
  | cons x xs ih => rw [Ctl.testReleases, List.foldl_cons]; exact (ih _).trans (by simp)
@[simp] theorem Ctl.testReleases_drives (xs : List SlabNo) : (c.testReleases xs).drives = c.drives := by
  induction xs generalizing c with
  | nil => rfl
  | cons x xs ih => rw [Ctl.testReleases, List.foldl_cons]; exact (ih _).trans (by simp)
@[simp] theorem Ctl.testReleases_notices (xs : List SlabNo) : (c.testReleases xs).notices = c.notices := by
  induction xs generalizing c with
  | nil => rfl
  | cons x xs ih => rw [Ctl.testReleases, List.foldl_cons]; exact (ih _).trans (by simp)
@[simp] theorem Ctl.testReleases_linkFault (xs : List SlabNo) : (c.testReleases xs).linkFault = c.linkFault := by
  induction xs generalizing c with
  | nil => rfl
  | cons x xs ih => rw [Ctl.testReleases, List.foldl_cons]; exact (ih _).trans (by simp)
@[simp] theorem Ctl.testReleases_rateCode (xs : List SlabNo) : (c.testReleases xs).rateCode = c.rateCode := by
  induction xs generalizing c with
  | nil => rfl
  | cons x xs ih => rw [Ctl.testReleases, List.foldl_cons]; exact (ih _).trans (by simp)
@[simp] theorem Ctl.testReleases_debounce (xs : List SlabNo) : (c.testReleases xs).debounce = c.debounce := by
  induction xs generalizing c with
  | nil => rfl
  | cons x xs ih => rw [Ctl.testReleases, List.foldl_cons]; exact (ih _).trans (by simp)
@[simp] theorem Ctl.testReleases_freeDraws (xs : List SlabNo) : (c.testReleases xs).freeDraws = c.freeDraws := by
  induction xs generalizing c with
  | nil => rfl
  | cons x xs ih => rw [Ctl.testReleases, List.foldl_cons]; exact (ih _).trans (by simp)

theorem Ctl.leavePending_foldl_files (d : DriveNo) (xs : List SlabNo) :
    (xs.foldl (fun c x => c.leavePending d x) c).files = c.files := by
  induction xs generalizing c with
  | nil => rfl
  | cons x xs ih => rw [List.foldl_cons]; exact ih _
theorem Ctl.leavePending_foldl_nextFile (d : DriveNo) (xs : List SlabNo) :
    (xs.foldl (fun c x => c.leavePending d x) c).nextFile = c.nextFile := by
  induction xs generalizing c with
  | nil => rfl
  | cons x xs ih => rw [List.foldl_cons]; exact ih _
theorem Ctl.leavePending_foldl_fileDoneTurn (d : DriveNo) (xs : List SlabNo) :
    (xs.foldl (fun c x => c.leavePending d x) c).fileDoneTurn = c.fileDoneTurn := by
  induction xs generalizing c with
  | nil => rfl
  | cons x xs ih => rw [List.foldl_cons]; exact ih _
theorem Ctl.leavePending_foldl_fileDoneWaiting (d : DriveNo) (xs : List SlabNo) :
    (xs.foldl (fun c x => c.leavePending d x) c).fileDoneWaiting = c.fileDoneWaiting := by
  induction xs generalizing c with
  | nil => rfl
  | cons x xs ih => rw [List.foldl_cons]; exact ih _
theorem Ctl.leavePending_foldl_fillSeq (d : DriveNo) (xs : List SlabNo) :
    (xs.foldl (fun c x => c.leavePending d x) c).fillSeq = c.fillSeq := by
  induction xs generalizing c with
  | nil => rfl
  | cons x xs ih => rw [List.foldl_cons]; exact ih _
theorem Ctl.leavePending_foldl_digest (d : DriveNo) (xs : List SlabNo) :
    (xs.foldl (fun c x => c.leavePending d x) c).digest = c.digest := by
  induction xs generalizing c with
  | nil => rfl
  | cons x xs ih => rw [List.foldl_cons]; exact ih _
theorem Ctl.leavePending_foldl_drives (d : DriveNo) (xs : List SlabNo) :
    (xs.foldl (fun c x => c.leavePending d x) c).drives = c.drives := by
  induction xs generalizing c with
  | nil => rfl
  | cons x xs ih => rw [List.foldl_cons]; exact ih _
theorem Ctl.leavePending_foldl_notices (d : DriveNo) (xs : List SlabNo) :
    (xs.foldl (fun c x => c.leavePending d x) c).notices = c.notices := by
  induction xs generalizing c with
  | nil => rfl
  | cons x xs ih => rw [List.foldl_cons]; exact ih _
theorem Ctl.leavePending_foldl_linkFault (d : DriveNo) (xs : List SlabNo) :
    (xs.foldl (fun c x => c.leavePending d x) c).linkFault = c.linkFault := by
  induction xs generalizing c with
  | nil => rfl
  | cons x xs ih => rw [List.foldl_cons]; exact ih _
theorem Ctl.leavePending_foldl_rateCode (d : DriveNo) (xs : List SlabNo) :
    (xs.foldl (fun c x => c.leavePending d x) c).rateCode = c.rateCode := by
  induction xs generalizing c with
  | nil => rfl
  | cons x xs ih => rw [List.foldl_cons]; exact ih _
theorem Ctl.leavePending_foldl_debounce (d : DriveNo) (xs : List SlabNo) :
    (xs.foldl (fun c x => c.leavePending d x) c).debounce = c.debounce := by
  induction xs generalizing c with
  | nil => rfl
  | cons x xs ih => rw [List.foldl_cons]; exact ih _
theorem Ctl.leavePending_foldl_freeDraws (d : DriveNo) (xs : List SlabNo) :
    (xs.foldl (fun c x => c.leavePending d x) c).freeDraws = c.freeDraws := by
  induction xs generalizing c with
  | nil => rfl
  | cons x xs ih => rw [List.foldl_cons]; exact ih _
theorem Ctl.leavePending_foldl_jobs (d : DriveNo) (xs : List SlabNo) :
    (xs.foldl (fun c x => c.leavePending d x) c).jobs = c.jobs := by
  induction xs generalizing c with
  | nil => rfl
  | cons x xs ih => rw [List.foldl_cons]; exact ih _
theorem Ctl.leavePending_foldl_cards (d : DriveNo) (xs : List SlabNo) :
    (xs.foldl (fun c x => c.leavePending d x) c).cards = c.cards := by
  induction xs generalizing c with
  | nil => rfl
  | cons x xs ih => rw [List.foldl_cons]; exact ih _
theorem Ctl.leavePending_foldl_waitList (d : DriveNo) (xs : List SlabNo) :
    (xs.foldl (fun c x => c.leavePending d x) c).waitList = c.waitList := by
  induction xs generalizing c with
  | nil => rfl
  | cons x xs ih => rw [List.foldl_cons]; exact ih _
theorem Ctl.leavePending_foldl_lastGranted (d : DriveNo) (xs : List SlabNo) :
    (xs.foldl (fun c x => c.leavePending d x) c).lastGranted = c.lastGranted := by
  induction xs generalizing c with
  | nil => rfl
  | cons x xs ih => rw [List.foldl_cons]; exact ih _
theorem Ctl.leavePending_foldl_outq (d : DriveNo) (xs : List SlabNo) :
    (xs.foldl (fun c x => c.leavePending d x) c).outq = c.outq := by
  induction xs generalizing c with
  | nil => rfl
  | cons x xs ih => rw [List.foldl_cons]; exact ih _

@[simp] theorem Ctl.purgeDest_files (d : DriveNo) (xs : List SlabNo) : (c.purgeDest d xs).files = c.files := by
  simp [Ctl.purgeDest, Ctl.leavePending_foldl_files]
@[simp] theorem Ctl.purgeDest_nextFile (d : DriveNo) (xs : List SlabNo) : (c.purgeDest d xs).nextFile = c.nextFile := by
  simp [Ctl.purgeDest, Ctl.leavePending_foldl_nextFile]
@[simp] theorem Ctl.purgeDest_fileDoneTurn (d : DriveNo) (xs : List SlabNo) : (c.purgeDest d xs).fileDoneTurn = c.fileDoneTurn := by
  simp [Ctl.purgeDest, Ctl.leavePending_foldl_fileDoneTurn]
@[simp] theorem Ctl.purgeDest_fileDoneWaiting (d : DriveNo) (xs : List SlabNo) : (c.purgeDest d xs).fileDoneWaiting = c.fileDoneWaiting := by
  simp [Ctl.purgeDest, Ctl.leavePending_foldl_fileDoneWaiting]
@[simp] theorem Ctl.purgeDest_fillSeq (d : DriveNo) (xs : List SlabNo) : (c.purgeDest d xs).fillSeq = c.fillSeq := by
  simp [Ctl.purgeDest, Ctl.leavePending_foldl_fillSeq]
@[simp] theorem Ctl.purgeDest_digest (d : DriveNo) (xs : List SlabNo) : (c.purgeDest d xs).digest = c.digest := by
  simp [Ctl.purgeDest, Ctl.leavePending_foldl_digest]
@[simp] theorem Ctl.purgeDest_drives (d : DriveNo) (xs : List SlabNo) : (c.purgeDest d xs).drives = c.drives := by
  simp [Ctl.purgeDest, Ctl.leavePending_foldl_drives]
@[simp] theorem Ctl.purgeDest_notices (d : DriveNo) (xs : List SlabNo) : (c.purgeDest d xs).notices = c.notices := by
  simp [Ctl.purgeDest, Ctl.leavePending_foldl_notices]
@[simp] theorem Ctl.purgeDest_linkFault (d : DriveNo) (xs : List SlabNo) : (c.purgeDest d xs).linkFault = c.linkFault := by
  simp [Ctl.purgeDest, Ctl.leavePending_foldl_linkFault]
@[simp] theorem Ctl.purgeDest_rateCode (d : DriveNo) (xs : List SlabNo) : (c.purgeDest d xs).rateCode = c.rateCode := by
  simp [Ctl.purgeDest, Ctl.leavePending_foldl_rateCode]
@[simp] theorem Ctl.purgeDest_debounce (d : DriveNo) (xs : List SlabNo) : (c.purgeDest d xs).debounce = c.debounce := by
  simp [Ctl.purgeDest, Ctl.leavePending_foldl_debounce]
@[simp] theorem Ctl.purgeDest_freeDraws (d : DriveNo) (xs : List SlabNo) : (c.purgeDest d xs).freeDraws = c.freeDraws := by
  simp [Ctl.purgeDest, Ctl.leavePending_foldl_freeDraws]

/-! ## The slabs that satisfy a condition -/

theorem Ctl.slabs_toList : c.slabs.toList = (List.finRange 512).map c.slab := by
  apply List.ext_getElem
  · simp
  · intro i h1 h2
    simp [Ctl.slab]

/-- Slab numbers in ascending order, by the condition on each slab. -/
theorem Ctl.slabsWhere_eq (p : Slab → Bool) :
    c.slabsWhere p = (List.finRange 512).filter fun x => p (c.slab x) := by
  rw [Ctl.slabsWhere, Ctl.slabs_toList]
  induction List.finRange 512 with
  | nil => rfl
  | cons x l ih =>
    rw [List.map_cons, List.zip_cons_cons, List.filterMap_cons, List.filter_cons, ih]
    cases h : p (c.slab x) <;> simp [h]

theorem Ctl.mem_slabsWhere (p : Slab → Bool) (x : SlabNo) : x ∈ c.slabsWhere p ↔ p (c.slab x) = true := by
  simp [Ctl.slabsWhere_eq]

/-! ## What each operation can do -/

/-- A release: a releasable slab of a job is freed, counted and offered; any other is left. -/
theorem Ctl.testRelease_cases (x : SlabNo) :
    (∃ n, (c.slab x).job = some n ∧ (c.slab x).releasable = true ∧ c.testRelease x = c.releaseCounted n x)
      ∨ c.testRelease x = c := by
  simp only [Ctl.testRelease]
  split
  · rename_i n hn
    split
    · rename_i h; exact .inl ⟨n, hn, h, rfl⟩
    · exact .inr rfl
  · exact .inr rfl

/-- An offer: entries that stand no more leave the wait list, and then the slab goes to a waiting port whose request
stands, or stays. -/
theorem Ctl.offerRun_cases (k : Nat) (c : Ctl) (x : SlabNo) :
    ∃ w, let c' : Ctl := { c with waitList := w }
      (∃ n u, c'.nextWaiting = some n ∧ c'.waits n = some u ∧ c'.stillStands n u = true
        ∧ c.offerRun k x = c'.grant n u x) ∨ c.offerRun k x = c' := by
  induction k generalizing c with
  | zero => exact ⟨c.waitList, .inr rfl⟩
  | succ k ih =>
    simp only [Ctl.offerRun]
    split
    · exact ⟨c.waitList, .inr rfl⟩
    · rename_i n hn
      split
      · exact ⟨c.waitList, .inr rfl⟩
      · rename_i u hu
        split
        · rename_i hs; exact ⟨c.waitList, .inl ⟨n, u, hn, hu, hs, rfl⟩⟩
        · exact ih (c.setWait n none)

/-- A raised request: it is waiting already, is granted the lowest free slab, or joins the wait list. -/
theorem Ctl.raise_cases (n : CardNo) (u : SlabUse) :
    ((c.waits n).isSome = true ∧ c.raise n u = c)
      ∨ (c.waits n = none ∧ ∃ x, c.lowestFree = some x ∧ c.raise n u = c.grant n u x)
      ∨ (c.waits n = none ∧ c.lowestFree = none ∧ c.raise n u = c.setWait n (some u)) := by
  simp only [Ctl.raise]
  split
  · rename_i h; exact .inl ⟨h, rfl⟩
  · rename_i h
    have h' : c.waits n = none := by simpa using h
    split
    · rename_i x hx; exact .inr (.inl ⟨h', x, hx, rfl⟩)
    · rename_i hx; exact .inr (.inr ⟨h', hx, rfl⟩)

/-- The slab granted at once is a FREE slab of the pool. -/
theorem Ctl.lowestFree_spec (x : SlabNo) (h : c.lowestFree = some x) : x.val < 508 ∧ (c.slab x).state = .free := by
  have := List.find?_some h
  simp only [Bool.and_eq_true, decide_eq_true_eq, beq_iff_eq] at this
  exact ⟨of_decide_eq_true (by simpa [Config.poolSlabs] using this.1), this.2⟩

end Sys2Proof.Machine
end

