-- ==== Sys2Proof/Laws/Drives.lean ====
section
/-! SUPPORT. The work of the drive ports leaves the file table, the names of files, the FILE_DONE turn, the settings and the
LINK_FAULT record alone. -/

namespace Sys2Proof.Machine

variable (c : Ctl)

@[simp] theorem Ctl.fifoPush_files (x : SlabNo) : (c.fifoPush x).files = c.files := by
  simp [Ctl.fifoPush]
@[simp] theorem Ctl.fifoPush_nextFile (x : SlabNo) : (c.fifoPush x).nextFile = c.nextFile := by
  simp [Ctl.fifoPush]
@[simp] theorem Ctl.fifoPush_fileDoneTurn (x : SlabNo) : (c.fifoPush x).fileDoneTurn = c.fileDoneTurn := by
  simp [Ctl.fifoPush]
@[simp] theorem Ctl.fifoPush_fileDoneWaiting (x : SlabNo) : (c.fifoPush x).fileDoneWaiting = c.fileDoneWaiting := by
  simp [Ctl.fifoPush]
@[simp] theorem Ctl.fifoPush_fillSeq (x : SlabNo) : (c.fifoPush x).fillSeq = c.fillSeq := by
  simp [Ctl.fifoPush]
@[simp] theorem Ctl.fifoPush_notices (x : SlabNo) : (c.fifoPush x).notices = c.notices := by
  simp [Ctl.fifoPush]
@[simp] theorem Ctl.fifoPush_linkFault (x : SlabNo) : (c.fifoPush x).linkFault = c.linkFault := by
  simp [Ctl.fifoPush]
@[simp] theorem Ctl.fifoPush_rateCode (x : SlabNo) : (c.fifoPush x).rateCode = c.rateCode := by
  simp [Ctl.fifoPush]
@[simp] theorem Ctl.fifoPush_debounce (x : SlabNo) : (c.fifoPush x).debounce = c.debounce := by
  simp [Ctl.fifoPush]
@[simp] theorem Ctl.fifoPush_freeDraws (x : SlabNo) : (c.fifoPush x).freeDraws = c.freeDraws := by
  simp [Ctl.fifoPush]

@[simp] theorem Ctl.fifoRemove_files (x : SlabNo) : (c.fifoRemove x).files = c.files := by
  simp [Ctl.fifoRemove]
@[simp] theorem Ctl.fifoRemove_nextFile (x : SlabNo) : (c.fifoRemove x).nextFile = c.nextFile := by
  simp [Ctl.fifoRemove]
@[simp] theorem Ctl.fifoRemove_fileDoneTurn (x : SlabNo) : (c.fifoRemove x).fileDoneTurn = c.fileDoneTurn := by
  simp [Ctl.fifoRemove]
@[simp] theorem Ctl.fifoRemove_fileDoneWaiting (x : SlabNo) : (c.fifoRemove x).fileDoneWaiting = c.fileDoneWaiting := by
  simp [Ctl.fifoRemove]
@[simp] theorem Ctl.fifoRemove_fillSeq (x : SlabNo) : (c.fifoRemove x).fillSeq = c.fillSeq := by
  simp [Ctl.fifoRemove]
@[simp] theorem Ctl.fifoRemove_notices (x : SlabNo) : (c.fifoRemove x).notices = c.notices := by
  simp [Ctl.fifoRemove]
@[simp] theorem Ctl.fifoRemove_linkFault (x : SlabNo) : (c.fifoRemove x).linkFault = c.linkFault := by
  simp [Ctl.fifoRemove]
@[simp] theorem Ctl.fifoRemove_rateCode (x : SlabNo) : (c.fifoRemove x).rateCode = c.rateCode := by
  simp [Ctl.fifoRemove]
@[simp] theorem Ctl.fifoRemove_debounce (x : SlabNo) : (c.fifoRemove x).debounce = c.debounce := by
  simp [Ctl.fifoRemove]
@[simp] theorem Ctl.fifoRemove_freeDraws (x : SlabNo) : (c.fifoRemove x).freeDraws = c.freeDraws := by
  simp [Ctl.fifoRemove]

@[simp] theorem Ctl.markDiscard_files (x : SlabNo) : (c.markDiscard x).files = c.files := by
  simp only [Ctl.markDiscard]
  repeat' split
  all_goals simp
@[simp] theorem Ctl.markDiscard_nextFile (x : SlabNo) : (c.markDiscard x).nextFile = c.nextFile := by
  simp only [Ctl.markDiscard]
  repeat' split
  all_goals simp
@[simp] theorem Ctl.markDiscard_fileDoneTurn (x : SlabNo) : (c.markDiscard x).fileDoneTurn = c.fileDoneTurn := by
  simp only [Ctl.markDiscard]
  repeat' split
  all_goals simp
@[simp] theorem Ctl.markDiscard_fileDoneWaiting (x : SlabNo) : (c.markDiscard x).fileDoneWaiting = c.fileDoneWaiting := by
  simp only [Ctl.markDiscard]
  repeat' split
  all_goals simp
@[simp] theorem Ctl.markDiscard_fillSeq (x : SlabNo) : (c.markDiscard x).fillSeq = c.fillSeq := by
  simp only [Ctl.markDiscard]
  repeat' split
  all_goals simp
@[simp] theorem Ctl.markDiscard_notices (x : SlabNo) : (c.markDiscard x).notices = c.notices := by
  simp only [Ctl.markDiscard]
  repeat' split
  all_goals simp
@[simp] theorem Ctl.markDiscard_linkFault (x : SlabNo) : (c.markDiscard x).linkFault = c.linkFault := by
  simp only [Ctl.markDiscard]
  repeat' split
  all_goals simp
@[simp] theorem Ctl.markDiscard_rateCode (x : SlabNo) : (c.markDiscard x).rateCode = c.rateCode := by
  simp only [Ctl.markDiscard]
  repeat' split
  all_goals simp
@[simp] theorem Ctl.markDiscard_debounce (x : SlabNo) : (c.markDiscard x).debounce = c.debounce := by
  simp only [Ctl.markDiscard]
  repeat' split
  all_goals simp
@[simp] theorem Ctl.markDiscard_freeDraws (x : SlabNo) : (c.markDiscard x).freeDraws = c.freeDraws := by
  simp only [Ctl.markDiscard]
  repeat' split
  all_goals simp

@[simp] theorem Ctl.withdrawDigest_files (x : SlabNo) : (c.withdrawDigest x).files = c.files := by
  simp only [Ctl.withdrawDigest]
  repeat' split
  all_goals simp
@[simp] theorem Ctl.withdrawDigest_nextFile (x : SlabNo) : (c.withdrawDigest x).nextFile = c.nextFile := by
  simp only [Ctl.withdrawDigest]
  repeat' split
  all_goals simp
@[simp] theorem Ctl.withdrawDigest_fileDoneTurn (x : SlabNo) : (c.withdrawDigest x).fileDoneTurn = c.fileDoneTurn := by
  simp only [Ctl.withdrawDigest]
  repeat' split
  all_goals simp
@[simp] theorem Ctl.withdrawDigest_fileDoneWaiting (x : SlabNo) : (c.withdrawDigest x).fileDoneWaiting = c.fileDoneWaiting := by
  simp only [Ctl.withdrawDigest]
  repeat' split
  all_goals simp
@[simp] theorem Ctl.withdrawDigest_fillSeq (x : SlabNo) : (c.withdrawDigest x).fillSeq = c.fillSeq := by
  simp only [Ctl.withdrawDigest]
  repeat' split
  all_goals simp
@[simp] theorem Ctl.withdrawDigest_notices (x : SlabNo) : (c.withdrawDigest x).notices = c.notices := by
  simp only [Ctl.withdrawDigest]
  repeat' split
  all_goals simp
@[simp] theorem Ctl.withdrawDigest_linkFault (x : SlabNo) : (c.withdrawDigest x).linkFault = c.linkFault := by
  simp only [Ctl.withdrawDigest]
  repeat' split
  all_goals simp
@[simp] theorem Ctl.withdrawDigest_rateCode (x : SlabNo) : (c.withdrawDigest x).rateCode = c.rateCode := by
  simp only [Ctl.withdrawDigest]
  repeat' split
  all_goals simp
@[simp] theorem Ctl.withdrawDigest_debounce (x : SlabNo) : (c.withdrawDigest x).debounce = c.debounce := by
  simp only [Ctl.withdrawDigest]
  repeat' split
  all_goals simp
@[simp] theorem Ctl.withdrawDigest_freeDraws (x : SlabNo) : (c.withdrawDigest x).freeDraws = c.freeDraws := by
  simp only [Ctl.withdrawDigest]
  repeat' split
  all_goals simp

@[simp] theorem Ctl.freeVerifySlab_files (d : DriveNo) : (c.freeVerifySlab d).files = c.files := by
  simp [Ctl.freeVerifySlab]
@[simp] theorem Ctl.freeVerifySlab_nextFile (d : DriveNo) : (c.freeVerifySlab d).nextFile = c.nextFile := by
  simp [Ctl.freeVerifySlab]
@[simp] theorem Ctl.freeVerifySlab_fileDoneTurn (d : DriveNo) : (c.freeVerifySlab d).fileDoneTurn = c.fileDoneTurn := by
  simp [Ctl.freeVerifySlab]
@[simp] theorem Ctl.freeVerifySlab_fileDoneWaiting (d : DriveNo) : (c.freeVerifySlab d).fileDoneWaiting = c.fileDoneWaiting := by
  simp [Ctl.freeVerifySlab]
@[simp] theorem Ctl.freeVerifySlab_fillSeq (d : DriveNo) : (c.freeVerifySlab d).fillSeq = c.fillSeq := by
  simp [Ctl.freeVerifySlab]
@[simp] theorem Ctl.freeVerifySlab_notices (d : DriveNo) : (c.freeVerifySlab d).notices = c.notices := by
  simp [Ctl.freeVerifySlab]
@[simp] theorem Ctl.freeVerifySlab_linkFault (d : DriveNo) : (c.freeVerifySlab d).linkFault = c.linkFault := by
  simp [Ctl.freeVerifySlab]
@[simp] theorem Ctl.freeVerifySlab_rateCode (d : DriveNo) : (c.freeVerifySlab d).rateCode = c.rateCode := by
  simp [Ctl.freeVerifySlab]
@[simp] theorem Ctl.freeVerifySlab_debounce (d : DriveNo) : (c.freeVerifySlab d).debounce = c.debounce := by
  simp [Ctl.freeVerifySlab]
@[simp] theorem Ctl.freeVerifySlab_freeDraws (d : DriveNo) : (c.freeVerifySlab d).freeDraws = c.freeDraws := by
  simp [Ctl.freeVerifySlab]

@[simp] theorem Ctl.leaveInFlight_files (d : DriveNo) (x : SlabNo) : (c.leaveInFlight d x).files = c.files := by
  simp [Ctl.leaveInFlight]
@[simp] theorem Ctl.leaveInFlight_nextFile (d : DriveNo) (x : SlabNo) : (c.leaveInFlight d x).nextFile = c.nextFile := by
  simp [Ctl.leaveInFlight]
@[simp] theorem Ctl.leaveInFlight_fileDoneTurn (d : DriveNo) (x : SlabNo) : (c.leaveInFlight d x).fileDoneTurn = c.fileDoneTurn := by
  simp [Ctl.leaveInFlight]
@[simp] theorem Ctl.leaveInFlight_fileDoneWaiting (d : DriveNo) (x : SlabNo) : (c.leaveInFlight d x).fileDoneWaiting = c.fileDoneWaiting := by
  simp [Ctl.leaveInFlight]
@[simp] theorem Ctl.leaveInFlight_fillSeq (d : DriveNo) (x : SlabNo) : (c.leaveInFlight d x).fillSeq = c.fillSeq := by
  simp [Ctl.leaveInFlight]
@[simp] theorem Ctl.leaveInFlight_notices (d : DriveNo) (x : SlabNo) : (c.leaveInFlight d x).notices = c.notices := by
  simp [Ctl.leaveInFlight]
@[simp] theorem Ctl.leaveInFlight_linkFault (d : DriveNo) (x : SlabNo) : (c.leaveInFlight d x).linkFault = c.linkFault := by
  simp [Ctl.leaveInFlight]
@[simp] theorem Ctl.leaveInFlight_rateCode (d : DriveNo) (x : SlabNo) : (c.leaveInFlight d x).rateCode = c.rateCode := by
  simp [Ctl.leaveInFlight]
@[simp] theorem Ctl.leaveInFlight_debounce (d : DriveNo) (x : SlabNo) : (c.leaveInFlight d x).debounce = c.debounce := by
  simp [Ctl.leaveInFlight]
@[simp] theorem Ctl.leaveInFlight_freeDraws (d : DriveNo) (x : SlabNo) : (c.leaveInFlight d x).freeDraws = c.freeDraws := by
  simp [Ctl.leaveInFlight]

@[simp] theorem Ctl.leavePending_files (d : DriveNo) (x : SlabNo) : (c.leavePending d x).files = c.files := by
  simp [Ctl.leavePending]
@[simp] theorem Ctl.leavePending_nextFile (d : DriveNo) (x : SlabNo) : (c.leavePending d x).nextFile = c.nextFile := by
  simp [Ctl.leavePending]
@[simp] theorem Ctl.leavePending_fileDoneTurn (d : DriveNo) (x : SlabNo) : (c.leavePending d x).fileDoneTurn = c.fileDoneTurn := by
  simp [Ctl.leavePending]
@[simp] theorem Ctl.leavePending_fileDoneWaiting (d : DriveNo) (x : SlabNo) : (c.leavePending d x).fileDoneWaiting = c.fileDoneWaiting := by
  simp [Ctl.leavePending]
@[simp] theorem Ctl.leavePending_fillSeq (d : DriveNo) (x : SlabNo) : (c.leavePending d x).fillSeq = c.fillSeq := by
  simp [Ctl.leavePending]
@[simp] theorem Ctl.leavePending_notices (d : DriveNo) (x : SlabNo) : (c.leavePending d x).notices = c.notices := by
  simp [Ctl.leavePending]
@[simp] theorem Ctl.leavePending_linkFault (d : DriveNo) (x : SlabNo) : (c.leavePending d x).linkFault = c.linkFault := by
  simp [Ctl.leavePending]
@[simp] theorem Ctl.leavePending_rateCode (d : DriveNo) (x : SlabNo) : (c.leavePending d x).rateCode = c.rateCode := by
  simp [Ctl.leavePending]
@[simp] theorem Ctl.leavePending_debounce (d : DriveNo) (x : SlabNo) : (c.leavePending d x).debounce = c.debounce := by
  simp [Ctl.leavePending]
@[simp] theorem Ctl.leavePending_freeDraws (d : DriveNo) (x : SlabNo) : (c.leavePending d x).freeDraws = c.freeDraws := by
  simp [Ctl.leavePending]

@[simp] theorem Ctl.startWrite_files (d : DriveNo) (x : SlabNo) (b : Nat) (i : Bool) : (c.startWrite d x b i).files = c.files := by
  simp only [Ctl.startWrite]
  repeat' split
  all_goals simp
@[simp] theorem Ctl.startWrite_nextFile (d : DriveNo) (x : SlabNo) (b : Nat) (i : Bool) : (c.startWrite d x b i).nextFile = c.nextFile := by
  simp only [Ctl.startWrite]
  repeat' split
  all_goals simp
@[simp] theorem Ctl.startWrite_fileDoneTurn (d : DriveNo) (x : SlabNo) (b : Nat) (i : Bool) : (c.startWrite d x b i).fileDoneTurn = c.fileDoneTurn := by
  simp only [Ctl.startWrite]
  repeat' split
  all_goals simp
@[simp] theorem Ctl.startWrite_fileDoneWaiting (d : DriveNo) (x : SlabNo) (b : Nat) (i : Bool) : (c.startWrite d x b i).fileDoneWaiting = c.fileDoneWaiting := by
  simp only [Ctl.startWrite]
  repeat' split
  all_goals simp
@[simp] theorem Ctl.startWrite_fillSeq (d : DriveNo) (x : SlabNo) (b : Nat) (i : Bool) : (c.startWrite d x b i).fillSeq = c.fillSeq := by
  simp only [Ctl.startWrite]
  repeat' split
  all_goals simp
@[simp] theorem Ctl.startWrite_notices (d : DriveNo) (x : SlabNo) (b : Nat) (i : Bool) : (c.startWrite d x b i).notices = c.notices := by
  simp only [Ctl.startWrite]
  repeat' split
  all_goals simp
@[simp] theorem Ctl.startWrite_linkFault (d : DriveNo) (x : SlabNo) (b : Nat) (i : Bool) : (c.startWrite d x b i).linkFault = c.linkFault := by
  simp only [Ctl.startWrite]
  repeat' split
  all_goals simp
@[simp] theorem Ctl.startWrite_rateCode (d : DriveNo) (x : SlabNo) (b : Nat) (i : Bool) : (c.startWrite d x b i).rateCode = c.rateCode := by
  simp only [Ctl.startWrite]
  repeat' split
  all_goals simp
@[simp] theorem Ctl.startWrite_debounce (d : DriveNo) (x : SlabNo) (b : Nat) (i : Bool) : (c.startWrite d x b i).debounce = c.debounce := by
  simp only [Ctl.startWrite]
  repeat' split
  all_goals simp
@[simp] theorem Ctl.startWrite_freeDraws (d : DriveNo) (x : SlabNo) (b : Nat) (i : Bool) : (c.startWrite d x b i).freeDraws = c.freeDraws := by
  simp only [Ctl.startWrite]
  repeat' split
  all_goals simp

@[simp] theorem Ctl.takeSpan_files (d : DriveNo) : (c.takeSpan d).files = c.files := by
  simp only [Ctl.takeSpan]
  repeat' split
  all_goals simp
@[simp] theorem Ctl.takeSpan_nextFile (d : DriveNo) : (c.takeSpan d).nextFile = c.nextFile := by
  simp only [Ctl.takeSpan]
  repeat' split
  all_goals simp
@[simp] theorem Ctl.takeSpan_fileDoneTurn (d : DriveNo) : (c.takeSpan d).fileDoneTurn = c.fileDoneTurn := by
  simp only [Ctl.takeSpan]
  repeat' split
  all_goals simp
@[simp] theorem Ctl.takeSpan_fileDoneWaiting (d : DriveNo) : (c.takeSpan d).fileDoneWaiting = c.fileDoneWaiting := by
  simp only [Ctl.takeSpan]
  repeat' split
  all_goals simp
@[simp] theorem Ctl.takeSpan_fillSeq (d : DriveNo) : (c.takeSpan d).fillSeq = c.fillSeq := by
  simp only [Ctl.takeSpan]
  repeat' split
  all_goals simp
@[simp] theorem Ctl.takeSpan_notices (d : DriveNo) : (c.takeSpan d).notices = c.notices := by
  simp only [Ctl.takeSpan]
  repeat' split
  all_goals simp
@[simp] theorem Ctl.takeSpan_linkFault (d : DriveNo) : (c.takeSpan d).linkFault = c.linkFault := by
  simp only [Ctl.takeSpan]
  repeat' split
  all_goals simp
@[simp] theorem Ctl.takeSpan_rateCode (d : DriveNo) : (c.takeSpan d).rateCode = c.rateCode := by
  simp only [Ctl.takeSpan]
  repeat' split
  all_goals simp
@[simp] theorem Ctl.takeSpan_debounce (d : DriveNo) : (c.takeSpan d).debounce = c.debounce := by
  simp only [Ctl.takeSpan]
  repeat' split
  all_goals simp
@[simp] theorem Ctl.takeSpan_freeDraws (d : DriveNo) : (c.takeSpan d).freeDraws = c.freeDraws := by
  simp only [Ctl.takeSpan]
  repeat' split
  all_goals simp

@[simp] theorem Ctl.issueReadBack_files (d : DriveNo) : (c.issueReadBack d).files = c.files := by
  simp only [Ctl.issueReadBack]
  repeat' split
  all_goals simp
@[simp] theorem Ctl.issueReadBack_nextFile (d : DriveNo) : (c.issueReadBack d).nextFile = c.nextFile := by
  simp only [Ctl.issueReadBack]
  repeat' split
  all_goals simp
@[simp] theorem Ctl.issueReadBack_fileDoneTurn (d : DriveNo) : (c.issueReadBack d).fileDoneTurn = c.fileDoneTurn := by
  simp only [Ctl.issueReadBack]
  repeat' split
  all_goals simp
@[simp] theorem Ctl.issueReadBack_fileDoneWaiting (d : DriveNo) : (c.issueReadBack d).fileDoneWaiting = c.fileDoneWaiting := by
  simp only [Ctl.issueReadBack]
  repeat' split
  all_goals simp
@[simp] theorem Ctl.issueReadBack_fillSeq (d : DriveNo) : (c.issueReadBack d).fillSeq = c.fillSeq := by
  simp only [Ctl.issueReadBack]
  repeat' split
  all_goals simp
@[simp] theorem Ctl.issueReadBack_notices (d : DriveNo) : (c.issueReadBack d).notices = c.notices := by
  simp only [Ctl.issueReadBack]
  repeat' split
  all_goals simp
@[simp] theorem Ctl.issueReadBack_linkFault (d : DriveNo) : (c.issueReadBack d).linkFault = c.linkFault := by
  simp only [Ctl.issueReadBack]
  repeat' split
  all_goals simp
@[simp] theorem Ctl.issueReadBack_rateCode (d : DriveNo) : (c.issueReadBack d).rateCode = c.rateCode := by
  simp only [Ctl.issueReadBack]
  repeat' split
  all_goals simp
@[simp] theorem Ctl.issueReadBack_debounce (d : DriveNo) : (c.issueReadBack d).debounce = c.debounce := by
  simp only [Ctl.issueReadBack]
  repeat' split
  all_goals simp
@[simp] theorem Ctl.issueReadBack_freeDraws (d : DriveNo) : (c.issueReadBack d).freeDraws = c.freeDraws := by
  simp only [Ctl.issueReadBack]
  repeat' split
  all_goals simp

@[simp] theorem Ctl.takeVerify_files (d : DriveNo) : (c.takeVerify d).files = c.files := by
  simp only [Ctl.takeVerify]
  repeat' split
  all_goals simp
@[simp] theorem Ctl.takeVerify_nextFile (d : DriveNo) : (c.takeVerify d).nextFile = c.nextFile := by
  simp only [Ctl.takeVerify]
  repeat' split
  all_goals simp
@[simp] theorem Ctl.takeVerify_fileDoneTurn (d : DriveNo) : (c.takeVerify d).fileDoneTurn = c.fileDoneTurn := by
  simp only [Ctl.takeVerify]
  repeat' split
  all_goals simp
@[simp] theorem Ctl.takeVerify_fileDoneWaiting (d : DriveNo) : (c.takeVerify d).fileDoneWaiting = c.fileDoneWaiting := by
  simp only [Ctl.takeVerify]
  repeat' split
  all_goals simp
@[simp] theorem Ctl.takeVerify_fillSeq (d : DriveNo) : (c.takeVerify d).fillSeq = c.fillSeq := by
  simp only [Ctl.takeVerify]
  repeat' split
  all_goals simp
@[simp] theorem Ctl.takeVerify_notices (d : DriveNo) : (c.takeVerify d).notices = c.notices := by
  simp only [Ctl.takeVerify]
  repeat' split
  all_goals simp
@[simp] theorem Ctl.takeVerify_linkFault (d : DriveNo) : (c.takeVerify d).linkFault = c.linkFault := by
  simp only [Ctl.takeVerify]
  repeat' split
  all_goals simp
@[simp] theorem Ctl.takeVerify_rateCode (d : DriveNo) : (c.takeVerify d).rateCode = c.rateCode := by
  simp only [Ctl.takeVerify]
  repeat' split
  all_goals simp
@[simp] theorem Ctl.takeVerify_debounce (d : DriveNo) : (c.takeVerify d).debounce = c.debounce := by
  simp only [Ctl.takeVerify]
  repeat' split
  all_goals simp
@[simp] theorem Ctl.takeVerify_freeDraws (d : DriveNo) : (c.takeVerify d).freeDraws = c.freeDraws := by
  simp only [Ctl.takeVerify]
  repeat' split
  all_goals simp

@[simp] theorem Ctl.choose_files (d : DriveNo) : (c.choose d).files = c.files := by
  simp only [Ctl.choose]
  repeat' split
  all_goals simp
@[simp] theorem Ctl.choose_nextFile (d : DriveNo) : (c.choose d).nextFile = c.nextFile := by
  simp only [Ctl.choose]
  repeat' split
  all_goals simp
@[simp] theorem Ctl.choose_fileDoneTurn (d : DriveNo) : (c.choose d).fileDoneTurn = c.fileDoneTurn := by
  simp only [Ctl.choose]
  repeat' split
  all_goals simp
@[simp] theorem Ctl.choose_fileDoneWaiting (d : DriveNo) : (c.choose d).fileDoneWaiting = c.fileDoneWaiting := by
  simp only [Ctl.choose]
  repeat' split
  all_goals simp
@[simp] theorem Ctl.choose_fillSeq (d : DriveNo) : (c.choose d).fillSeq = c.fillSeq := by
  simp only [Ctl.choose]
  repeat' split
  all_goals simp
@[simp] theorem Ctl.choose_notices (d : DriveNo) : (c.choose d).notices = c.notices := by
  simp only [Ctl.choose]
  repeat' split
  all_goals simp
@[simp] theorem Ctl.choose_linkFault (d : DriveNo) : (c.choose d).linkFault = c.linkFault := by
  simp only [Ctl.choose]
  repeat' split
  all_goals simp
@[simp] theorem Ctl.choose_rateCode (d : DriveNo) : (c.choose d).rateCode = c.rateCode := by
  simp only [Ctl.choose]
  repeat' split
  all_goals simp
@[simp] theorem Ctl.choose_debounce (d : DriveNo) : (c.choose d).debounce = c.debounce := by
  simp only [Ctl.choose]
  repeat' split
  all_goals simp
@[simp] theorem Ctl.choose_freeDraws (d : DriveNo) : (c.choose d).freeDraws = c.freeDraws := by
  simp only [Ctl.choose]
  repeat' split
  all_goals simp

@[simp] theorem Ctl.fillStage_files (d : DriveNo) : (c.fillStage d).files = c.files := by
  simp only [Ctl.fillStage]
  repeat' split
  all_goals simp
@[simp] theorem Ctl.fillStage_nextFile (d : DriveNo) : (c.fillStage d).nextFile = c.nextFile := by
  simp only [Ctl.fillStage]
  repeat' split
  all_goals simp
@[simp] theorem Ctl.fillStage_fileDoneTurn (d : DriveNo) : (c.fillStage d).fileDoneTurn = c.fileDoneTurn := by
  simp only [Ctl.fillStage]
  repeat' split
  all_goals simp
@[simp] theorem Ctl.fillStage_fileDoneWaiting (d : DriveNo) : (c.fillStage d).fileDoneWaiting = c.fileDoneWaiting := by
  simp only [Ctl.fillStage]
  repeat' split
  all_goals simp
@[simp] theorem Ctl.fillStage_fillSeq (d : DriveNo) : (c.fillStage d).fillSeq = c.fillSeq := by
  simp only [Ctl.fillStage]
  repeat' split
  all_goals simp
@[simp] theorem Ctl.fillStage_notices (d : DriveNo) : (c.fillStage d).notices = c.notices := by
  simp only [Ctl.fillStage]
  repeat' split
  all_goals simp
@[simp] theorem Ctl.fillStage_linkFault (d : DriveNo) : (c.fillStage d).linkFault = c.linkFault := by
  simp only [Ctl.fillStage]
  repeat' split
  all_goals simp
@[simp] theorem Ctl.fillStage_rateCode (d : DriveNo) : (c.fillStage d).rateCode = c.rateCode := by
  simp only [Ctl.fillStage]
  repeat' split
  all_goals simp
@[simp] theorem Ctl.fillStage_debounce (d : DriveNo) : (c.fillStage d).debounce = c.debounce := by
  simp only [Ctl.fillStage]
  repeat' split
  all_goals simp
@[simp] theorem Ctl.fillStage_freeDraws (d : DriveNo) : (c.fillStage d).freeDraws = c.freeDraws := by
  simp only [Ctl.fillStage]
  repeat' split
  all_goals simp

@[simp] theorem Ctl.pump_files (d : DriveNo) : (c.pump d).files = c.files := by
  simp [Ctl.pump]
@[simp] theorem Ctl.pump_nextFile (d : DriveNo) : (c.pump d).nextFile = c.nextFile := by
  simp [Ctl.pump]
@[simp] theorem Ctl.pump_fileDoneTurn (d : DriveNo) : (c.pump d).fileDoneTurn = c.fileDoneTurn := by
  simp [Ctl.pump]
@[simp] theorem Ctl.pump_fileDoneWaiting (d : DriveNo) : (c.pump d).fileDoneWaiting = c.fileDoneWaiting := by
  simp [Ctl.pump]
@[simp] theorem Ctl.pump_fillSeq (d : DriveNo) : (c.pump d).fillSeq = c.fillSeq := by
  simp [Ctl.pump]
@[simp] theorem Ctl.pump_notices (d : DriveNo) : (c.pump d).notices = c.notices := by
  simp [Ctl.pump]
@[simp] theorem Ctl.pump_linkFault (d : DriveNo) : (c.pump d).linkFault = c.linkFault := by
  simp [Ctl.pump]
@[simp] theorem Ctl.pump_rateCode (d : DriveNo) : (c.pump d).rateCode = c.rateCode := by
  simp [Ctl.pump]
@[simp] theorem Ctl.pump_debounce (d : DriveNo) : (c.pump d).debounce = c.debounce := by
  simp [Ctl.pump]
@[simp] theorem Ctl.pump_freeDraws (d : DriveNo) : (c.pump d).freeDraws = c.freeDraws := by
  simp [Ctl.pump]

@[simp] theorem Ctl.pumpAll_files : c.pumpAll.files = c.files := by
  simp [Ctl.pumpAll, eachDrive]
@[simp] theorem Ctl.pumpAll_nextFile  : c.pumpAll.nextFile = c.nextFile := by
  simp [Ctl.pumpAll, eachDrive]
@[simp] theorem Ctl.pumpAll_fileDoneTurn  : c.pumpAll.fileDoneTurn = c.fileDoneTurn := by
  simp [Ctl.pumpAll, eachDrive]
@[simp] theorem Ctl.pumpAll_fileDoneWaiting  : c.pumpAll.fileDoneWaiting = c.fileDoneWaiting := by
  simp [Ctl.pumpAll, eachDrive]
@[simp] theorem Ctl.pumpAll_fillSeq  : c.pumpAll.fillSeq = c.fillSeq := by
  simp [Ctl.pumpAll, eachDrive]
@[simp] theorem Ctl.pumpAll_notices  : c.pumpAll.notices = c.notices := by
  simp [Ctl.pumpAll, eachDrive]
@[simp] theorem Ctl.pumpAll_linkFault  : c.pumpAll.linkFault = c.linkFault := by
  simp [Ctl.pumpAll, eachDrive]
@[simp] theorem Ctl.pumpAll_rateCode  : c.pumpAll.rateCode = c.rateCode := by
  simp [Ctl.pumpAll, eachDrive]
@[simp] theorem Ctl.pumpAll_debounce  : c.pumpAll.debounce = c.debounce := by
  simp [Ctl.pumpAll, eachDrive]
@[simp] theorem Ctl.pumpAll_freeDraws  : c.pumpAll.freeDraws = c.freeDraws := by
  simp [Ctl.pumpAll, eachDrive]

@[simp] theorem Ctl.releaseVerifySlab_files (d : DriveNo) : (c.releaseVerifySlab d).files = c.files := by
  simp only [Ctl.releaseVerifySlab]
  repeat' split
  all_goals simp
@[simp] theorem Ctl.releaseVerifySlab_nextFile (d : DriveNo) : (c.releaseVerifySlab d).nextFile = c.nextFile := by
  simp only [Ctl.releaseVerifySlab]
  repeat' split
  all_goals simp
@[simp] theorem Ctl.releaseVerifySlab_fileDoneTurn (d : DriveNo) : (c.releaseVerifySlab d).fileDoneTurn = c.fileDoneTurn := by
  simp only [Ctl.releaseVerifySlab]
  repeat' split
  all_goals simp
@[simp] theorem Ctl.releaseVerifySlab_fileDoneWaiting (d : DriveNo) : (c.releaseVerifySlab d).fileDoneWaiting = c.fileDoneWaiting := by
  simp only [Ctl.releaseVerifySlab]
  repeat' split
  all_goals simp
@[simp] theorem Ctl.releaseVerifySlab_fillSeq (d : DriveNo) : (c.releaseVerifySlab d).fillSeq = c.fillSeq := by
  simp only [Ctl.releaseVerifySlab]
  repeat' split
  all_goals simp
@[simp] theorem Ctl.releaseVerifySlab_notices (d : DriveNo) : (c.releaseVerifySlab d).notices = c.notices := by
  simp only [Ctl.releaseVerifySlab]
  repeat' split
  all_goals simp
@[simp] theorem Ctl.releaseVerifySlab_linkFault (d : DriveNo) : (c.releaseVerifySlab d).linkFault = c.linkFault := by
  simp only [Ctl.releaseVerifySlab]
  repeat' split
  all_goals simp
@[simp] theorem Ctl.releaseVerifySlab_rateCode (d : DriveNo) : (c.releaseVerifySlab d).rateCode = c.rateCode := by
  simp only [Ctl.releaseVerifySlab]
  repeat' split
  all_goals simp
@[simp] theorem Ctl.releaseVerifySlab_debounce (d : DriveNo) : (c.releaseVerifySlab d).debounce = c.debounce := by
  simp only [Ctl.releaseVerifySlab]
  repeat' split
  all_goals simp
@[simp] theorem Ctl.releaseVerifySlab_freeDraws (d : DriveNo) : (c.releaseVerifySlab d).freeDraws = c.freeDraws := by
  simp only [Ctl.releaseVerifySlab]
  repeat' split
  all_goals simp

@[simp] theorem Ctl.abandonContext_files (d : DriveNo) : (c.abandonContext d).files = c.files := by
  simp only [Ctl.abandonContext]
  repeat' split
  all_goals simp
@[simp] theorem Ctl.abandonContext_nextFile (d : DriveNo) : (c.abandonContext d).nextFile = c.nextFile := by
  simp only [Ctl.abandonContext]
  repeat' split
  all_goals simp
@[simp] theorem Ctl.abandonContext_fileDoneTurn (d : DriveNo) : (c.abandonContext d).fileDoneTurn = c.fileDoneTurn := by
  simp only [Ctl.abandonContext]
  repeat' split
  all_goals simp
@[simp] theorem Ctl.abandonContext_fileDoneWaiting (d : DriveNo) : (c.abandonContext d).fileDoneWaiting = c.fileDoneWaiting := by
  simp only [Ctl.abandonContext]
  repeat' split
  all_goals simp
@[simp] theorem Ctl.abandonContext_fillSeq (d : DriveNo) : (c.abandonContext d).fillSeq = c.fillSeq := by
  simp only [Ctl.abandonContext]
  repeat' split
  all_goals simp
@[simp] theorem Ctl.abandonContext_notices (d : DriveNo) : (c.abandonContext d).notices = c.notices := by
  simp only [Ctl.abandonContext]
  repeat' split
  all_goals simp
@[simp] theorem Ctl.abandonContext_linkFault (d : DriveNo) : (c.abandonContext d).linkFault = c.linkFault := by
  simp only [Ctl.abandonContext]
  repeat' split
  all_goals simp
@[simp] theorem Ctl.abandonContext_rateCode (d : DriveNo) : (c.abandonContext d).rateCode = c.rateCode := by
  simp only [Ctl.abandonContext]
  repeat' split
  all_goals simp
@[simp] theorem Ctl.abandonContext_debounce (d : DriveNo) : (c.abandonContext d).debounce = c.debounce := by
  simp only [Ctl.abandonContext]
  repeat' split
  all_goals simp
@[simp] theorem Ctl.abandonContext_freeDraws (d : DriveNo) : (c.abandonContext d).freeDraws = c.freeDraws := by
  simp only [Ctl.abandonContext]
  repeat' split
  all_goals simp

@[simp] theorem Ctl.leaveWriting_files (d : DriveNo) : (c.leaveWriting d).files = c.files := by
  simp only [Ctl.leaveWriting]
  repeat' split
  all_goals simp
@[simp] theorem Ctl.leaveWriting_nextFile (d : DriveNo) : (c.leaveWriting d).nextFile = c.nextFile := by
  simp only [Ctl.leaveWriting]
  repeat' split
  all_goals simp
@[simp] theorem Ctl.leaveWriting_fileDoneTurn (d : DriveNo) : (c.leaveWriting d).fileDoneTurn = c.fileDoneTurn := by
  simp only [Ctl.leaveWriting]
  repeat' split
  all_goals simp
@[simp] theorem Ctl.leaveWriting_fileDoneWaiting (d : DriveNo) : (c.leaveWriting d).fileDoneWaiting = c.fileDoneWaiting := by
  simp only [Ctl.leaveWriting]
  repeat' split
  all_goals simp
@[simp] theorem Ctl.leaveWriting_fillSeq (d : DriveNo) : (c.leaveWriting d).fillSeq = c.fillSeq := by
  simp only [Ctl.leaveWriting]
  repeat' split
  all_goals simp
@[simp] theorem Ctl.leaveWriting_notices (d : DriveNo) : (c.leaveWriting d).notices = c.notices := by
  simp only [Ctl.leaveWriting]
  repeat' split
  all_goals simp
@[simp] theorem Ctl.leaveWriting_linkFault (d : DriveNo) : (c.leaveWriting d).linkFault = c.linkFault := by
  simp only [Ctl.leaveWriting]
  repeat' split
  all_goals simp
@[simp] theorem Ctl.leaveWriting_rateCode (d : DriveNo) : (c.leaveWriting d).rateCode = c.rateCode := by
  simp only [Ctl.leaveWriting]
  repeat' split
  all_goals simp
@[simp] theorem Ctl.leaveWriting_debounce (d : DriveNo) : (c.leaveWriting d).debounce = c.debounce := by
  simp only [Ctl.leaveWriting]
  repeat' split
  all_goals simp
@[simp] theorem Ctl.leaveWriting_freeDraws (d : DriveNo) : (c.leaveWriting d).freeDraws = c.freeDraws := by
  simp only [Ctl.leaveWriting]
  repeat' split
  all_goals simp

@[simp] theorem Ctl.closeWriting_files (d : DriveNo) (b : Bool) : (c.closeWriting d b).files = c.files := by
  simp only [Ctl.closeWriting]
  repeat' split
  all_goals simp
@[simp] theorem Ctl.closeWriting_nextFile (d : DriveNo) (b : Bool) : (c.closeWriting d b).nextFile = c.nextFile := by
  simp only [Ctl.closeWriting]
  repeat' split
  all_goals simp
@[simp] theorem Ctl.closeWriting_fileDoneTurn (d : DriveNo) (b : Bool) : (c.closeWriting d b).fileDoneTurn = c.fileDoneTurn := by
  simp only [Ctl.closeWriting]
  repeat' split
  all_goals simp
@[simp] theorem Ctl.closeWriting_fileDoneWaiting (d : DriveNo) (b : Bool) : (c.closeWriting d b).fileDoneWaiting = c.fileDoneWaiting := by
  simp only [Ctl.closeWriting]
  repeat' split
  all_goals simp
@[simp] theorem Ctl.closeWriting_fillSeq (d : DriveNo) (b : Bool) : (c.closeWriting d b).fillSeq = c.fillSeq := by
  simp only [Ctl.closeWriting]
  repeat' split
  all_goals simp
@[simp] theorem Ctl.closeWriting_notices (d : DriveNo) (b : Bool) : (c.closeWriting d b).notices = c.notices := by
  simp only [Ctl.closeWriting]
  repeat' split
  all_goals simp
@[simp] theorem Ctl.closeWriting_linkFault (d : DriveNo) (b : Bool) : (c.closeWriting d b).linkFault = c.linkFault := by
  simp only [Ctl.closeWriting]
  repeat' split
  all_goals simp
@[simp] theorem Ctl.closeWriting_rateCode (d : DriveNo) (b : Bool) : (c.closeWriting d b).rateCode = c.rateCode := by
  simp only [Ctl.closeWriting]
  repeat' split
  all_goals simp
@[simp] theorem Ctl.closeWriting_debounce (d : DriveNo) (b : Bool) : (c.closeWriting d b).debounce = c.debounce := by
  simp only [Ctl.closeWriting]
  repeat' split
  all_goals simp
@[simp] theorem Ctl.closeWriting_freeDraws (d : DriveNo) (b : Bool) : (c.closeWriting d b).freeDraws = c.freeDraws := by
  simp only [Ctl.closeWriting]
  repeat' split
  all_goals simp

@[simp] theorem Ctl.endWriting_files (d : DriveNo) (b : Bool) : (c.endWriting d b).files = c.files := by
  simp only [Ctl.endWriting]
  repeat' split
  all_goals simp
@[simp] theorem Ctl.endWriting_nextFile (d : DriveNo) (b : Bool) : (c.endWriting d b).nextFile = c.nextFile := by
  simp only [Ctl.endWriting]
  repeat' split
  all_goals simp
@[simp] theorem Ctl.endWriting_fileDoneTurn (d : DriveNo) (b : Bool) : (c.endWriting d b).fileDoneTurn = c.fileDoneTurn := by
  simp only [Ctl.endWriting]
  repeat' split
  all_goals simp
@[simp] theorem Ctl.endWriting_fileDoneWaiting (d : DriveNo) (b : Bool) : (c.endWriting d b).fileDoneWaiting = c.fileDoneWaiting := by
  simp only [Ctl.endWriting]
  repeat' split
  all_goals simp
@[simp] theorem Ctl.endWriting_fillSeq (d : DriveNo) (b : Bool) : (c.endWriting d b).fillSeq = c.fillSeq := by
  simp only [Ctl.endWriting]
  repeat' split
  all_goals simp
@[simp] theorem Ctl.endWriting_notices (d : DriveNo) (b : Bool) : (c.endWriting d b).notices = c.notices := by
  simp only [Ctl.endWriting]
  repeat' split
  all_goals simp
@[simp] theorem Ctl.endWriting_linkFault (d : DriveNo) (b : Bool) : (c.endWriting d b).linkFault = c.linkFault := by
  simp only [Ctl.endWriting]
  repeat' split
  all_goals simp
@[simp] theorem Ctl.endWriting_rateCode (d : DriveNo) (b : Bool) : (c.endWriting d b).rateCode = c.rateCode := by
  simp only [Ctl.endWriting]
  repeat' split
  all_goals simp
@[simp] theorem Ctl.endWriting_debounce (d : DriveNo) (b : Bool) : (c.endWriting d b).debounce = c.debounce := by
  simp only [Ctl.endWriting]
  repeat' split
  all_goals simp
@[simp] theorem Ctl.endWriting_freeDraws (d : DriveNo) (b : Bool) : (c.endWriting d b).freeDraws = c.freeDraws := by
  simp only [Ctl.endWriting]
  repeat' split
  all_goals simp

@[simp] theorem Ctl.withdraw_files (d : DriveNo) (ofSlab : Slab → Bool) (ofFile : FileRef → Bool) (b : Bool) : (c.withdraw d ofSlab ofFile b).files = c.files := by
  simp only [Ctl.withdraw]
  repeat' split
  all_goals simp
@[simp] theorem Ctl.withdraw_nextFile (d : DriveNo) (ofSlab : Slab → Bool) (ofFile : FileRef → Bool) (b : Bool) : (c.withdraw d ofSlab ofFile b).nextFile = c.nextFile := by
  simp only [Ctl.withdraw]
  repeat' split
  all_goals simp
@[simp] theorem Ctl.withdraw_fileDoneTurn (d : DriveNo) (ofSlab : Slab → Bool) (ofFile : FileRef → Bool) (b : Bool) : (c.withdraw d ofSlab ofFile b).fileDoneTurn = c.fileDoneTurn := by
  simp only [Ctl.withdraw]
  repeat' split
  all_goals simp
@[simp] theorem Ctl.withdraw_fileDoneWaiting (d : DriveNo) (ofSlab : Slab → Bool) (ofFile : FileRef → Bool) (b : Bool) : (c.withdraw d ofSlab ofFile b).fileDoneWaiting = c.fileDoneWaiting := by
  simp only [Ctl.withdraw]
  repeat' split
  all_goals simp
@[simp] theorem Ctl.withdraw_fillSeq (d : DriveNo) (ofSlab : Slab → Bool) (ofFile : FileRef → Bool) (b : Bool) : (c.withdraw d ofSlab ofFile b).fillSeq = c.fillSeq := by
  simp only [Ctl.withdraw]
  repeat' split
  all_goals simp
@[simp] theorem Ctl.withdraw_notices (d : DriveNo) (ofSlab : Slab → Bool) (ofFile : FileRef → Bool) (b : Bool) : (c.withdraw d ofSlab ofFile b).notices = c.notices := by
  simp only [Ctl.withdraw]
  repeat' split
  all_goals simp
@[simp] theorem Ctl.withdraw_linkFault (d : DriveNo) (ofSlab : Slab → Bool) (ofFile : FileRef → Bool) (b : Bool) : (c.withdraw d ofSlab ofFile b).linkFault = c.linkFault := by
  simp only [Ctl.withdraw]
  repeat' split
  all_goals simp
@[simp] theorem Ctl.withdraw_rateCode (d : DriveNo) (ofSlab : Slab → Bool) (ofFile : FileRef → Bool) (b : Bool) : (c.withdraw d ofSlab ofFile b).rateCode = c.rateCode := by
  simp only [Ctl.withdraw]
  repeat' split
  all_goals simp
@[simp] theorem Ctl.withdraw_debounce (d : DriveNo) (ofSlab : Slab → Bool) (ofFile : FileRef → Bool) (b : Bool) : (c.withdraw d ofSlab ofFile b).debounce = c.debounce := by
  simp only [Ctl.withdraw]
  repeat' split
  all_goals simp
@[simp] theorem Ctl.withdraw_freeDraws (d : DriveNo) (ofSlab : Slab → Bool) (ofFile : FileRef → Bool) (b : Bool) : (c.withdraw d ofSlab ofFile b).freeDraws = c.freeDraws := by
  simp only [Ctl.withdraw]
  repeat' split
  all_goals simp

@[simp] theorem Ctl.promptDrive_files (n : CardNo) (d : DriveNo) : (Ctl.promptDrive n c d).files = c.files := by
  simp only [Ctl.promptDrive]
  repeat' split
  all_goals simp
@[simp] theorem Ctl.promptDrive_nextFile (n : CardNo) (d : DriveNo) : (Ctl.promptDrive n c d).nextFile = c.nextFile := by
  simp only [Ctl.promptDrive]
  repeat' split
  all_goals simp
@[simp] theorem Ctl.promptDrive_fileDoneTurn (n : CardNo) (d : DriveNo) : (Ctl.promptDrive n c d).fileDoneTurn = c.fileDoneTurn := by
  simp only [Ctl.promptDrive]
  repeat' split
  all_goals simp
@[simp] theorem Ctl.promptDrive_fileDoneWaiting (n : CardNo) (d : DriveNo) : (Ctl.promptDrive n c d).fileDoneWaiting = c.fileDoneWaiting := by
  simp only [Ctl.promptDrive]
  repeat' split
  all_goals simp
@[simp] theorem Ctl.promptDrive_fillSeq (n : CardNo) (d : DriveNo) : (Ctl.promptDrive n c d).fillSeq = c.fillSeq := by
  simp only [Ctl.promptDrive]
  repeat' split
  all_goals simp
@[simp] theorem Ctl.promptDrive_notices (n : CardNo) (d : DriveNo) : (Ctl.promptDrive n c d).notices = c.notices := by
  simp only [Ctl.promptDrive]
  repeat' split
  all_goals simp
@[simp] theorem Ctl.promptDrive_linkFault (n : CardNo) (d : DriveNo) : (Ctl.promptDrive n c d).linkFault = c.linkFault := by
  simp only [Ctl.promptDrive]
  repeat' split
  all_goals simp
@[simp] theorem Ctl.promptDrive_rateCode (n : CardNo) (d : DriveNo) : (Ctl.promptDrive n c d).rateCode = c.rateCode := by
  simp only [Ctl.promptDrive]
  repeat' split
  all_goals simp
@[simp] theorem Ctl.promptDrive_debounce (n : CardNo) (d : DriveNo) : (Ctl.promptDrive n c d).debounce = c.debounce := by
  simp only [Ctl.promptDrive]
  repeat' split
  all_goals simp
@[simp] theorem Ctl.promptDrive_freeDraws (n : CardNo) (d : DriveNo) : (Ctl.promptDrive n c d).freeDraws = c.freeDraws := by
  simp only [Ctl.promptDrive]
  repeat' split
  all_goals simp

@[simp] theorem Ctl.dropWork_files (d : DriveNo) : (c.dropWork d).files = c.files := by
  simp only [Ctl.dropWork]
  repeat' split
  all_goals simp
@[simp] theorem Ctl.dropWork_nextFile (d : DriveNo) : (c.dropWork d).nextFile = c.nextFile := by
  simp only [Ctl.dropWork]
  repeat' split
  all_goals simp
@[simp] theorem Ctl.dropWork_fileDoneTurn (d : DriveNo) : (c.dropWork d).fileDoneTurn = c.fileDoneTurn := by
  simp only [Ctl.dropWork]
  repeat' split
  all_goals simp
@[simp] theorem Ctl.dropWork_fileDoneWaiting (d : DriveNo) : (c.dropWork d).fileDoneWaiting = c.fileDoneWaiting := by
  simp only [Ctl.dropWork]
  repeat' split
  all_goals simp
@[simp] theorem Ctl.dropWork_fillSeq (d : DriveNo) : (c.dropWork d).fillSeq = c.fillSeq := by
  simp only [Ctl.dropWork]
  repeat' split
  all_goals simp
@[simp] theorem Ctl.dropWork_notices (d : DriveNo) : (c.dropWork d).notices = c.notices := by
  simp only [Ctl.dropWork]
  repeat' split
  all_goals simp
@[simp] theorem Ctl.dropWork_linkFault (d : DriveNo) : (c.dropWork d).linkFault = c.linkFault := by
  simp only [Ctl.dropWork]
  repeat' split
  all_goals simp
@[simp] theorem Ctl.dropWork_rateCode (d : DriveNo) : (c.dropWork d).rateCode = c.rateCode := by
  simp only [Ctl.dropWork]
  repeat' split
  all_goals simp
@[simp] theorem Ctl.dropWork_debounce (d : DriveNo) : (c.dropWork d).debounce = c.debounce := by
  simp only [Ctl.dropWork]
  repeat' split
  all_goals simp
@[simp] theorem Ctl.dropWork_freeDraws (d : DriveNo) : (c.dropWork d).freeDraws = c.freeDraws := by
  simp only [Ctl.dropWork]
  repeat' split
  all_goals simp

/-! ## Retirement -/

@[simp] theorem Ctl.endEntries_files (r : FileRef) (d : DriveNo) : (Ctl.endEntries r c d).files = c.files := by
  simp only [Ctl.endEntries]
  repeat' split
  all_goals simp
@[simp] theorem Ctl.endEntries_nextFile (r : FileRef) (d : DriveNo) : (Ctl.endEntries r c d).nextFile = c.nextFile := by
  simp only [Ctl.endEntries]
  repeat' split
  all_goals simp
@[simp] theorem Ctl.endEntries_fileDoneTurn (r : FileRef) (d : DriveNo) : (Ctl.endEntries r c d).fileDoneTurn = c.fileDoneTurn := by
  simp only [Ctl.endEntries]
  repeat' split
  all_goals simp
@[simp] theorem Ctl.endEntries_fileDoneWaiting (r : FileRef) (d : DriveNo) : (Ctl.endEntries r c d).fileDoneWaiting = c.fileDoneWaiting := by
  simp only [Ctl.endEntries]
  repeat' split
  all_goals simp
@[simp] theorem Ctl.endEntries_fillSeq (r : FileRef) (d : DriveNo) : (Ctl.endEntries r c d).fillSeq = c.fillSeq := by
  simp only [Ctl.endEntries]
  repeat' split
  all_goals simp
@[simp] theorem Ctl.endEntries_notices (r : FileRef) (d : DriveNo) : (Ctl.endEntries r c d).notices = c.notices := by
  simp only [Ctl.endEntries]
  repeat' split
  all_goals simp
@[simp] theorem Ctl.endEntries_linkFault (r : FileRef) (d : DriveNo) : (Ctl.endEntries r c d).linkFault = c.linkFault := by
  simp only [Ctl.endEntries]
  repeat' split
  all_goals simp
@[simp] theorem Ctl.endEntries_rateCode (r : FileRef) (d : DriveNo) : (Ctl.endEntries r c d).rateCode = c.rateCode := by
  simp only [Ctl.endEntries]
  repeat' split
  all_goals simp
@[simp] theorem Ctl.endEntries_debounce (r : FileRef) (d : DriveNo) : (Ctl.endEntries r c d).debounce = c.debounce := by
  simp only [Ctl.endEntries]
  repeat' split
  all_goals simp
@[simp] theorem Ctl.endEntries_freeDraws (r : FileRef) (d : DriveNo) : (Ctl.endEntries r c d).freeDraws = c.freeDraws := by
  simp only [Ctl.endEntries]
  repeat' split
  all_goals simp

@[simp] theorem Ctl.retire_nextFile (f : FileRec) (o : FileOutcome) : (c.retire f o).nextFile = c.nextFile := by
  simp [Ctl.retire, eachDrive]
@[simp] theorem Ctl.retire_fileDoneWaiting (f : FileRec) (o : FileOutcome) : (c.retire f o).fileDoneWaiting = c.fileDoneWaiting := by
  simp [Ctl.retire, eachDrive]
@[simp] theorem Ctl.retire_fillSeq (f : FileRec) (o : FileOutcome) : (c.retire f o).fillSeq = c.fillSeq := by
  simp [Ctl.retire, eachDrive]
@[simp] theorem Ctl.retire_notices (f : FileRec) (o : FileOutcome) : (c.retire f o).notices = c.notices := by
  simp [Ctl.retire, eachDrive]
@[simp] theorem Ctl.retire_linkFault (f : FileRec) (o : FileOutcome) : (c.retire f o).linkFault = c.linkFault := by
  simp [Ctl.retire, eachDrive]
@[simp] theorem Ctl.retire_rateCode (f : FileRec) (o : FileOutcome) : (c.retire f o).rateCode = c.rateCode := by
  simp [Ctl.retire, eachDrive]
@[simp] theorem Ctl.retire_debounce (f : FileRec) (o : FileOutcome) : (c.retire f o).debounce = c.debounce := by
  simp [Ctl.retire, eachDrive]
@[simp] theorem Ctl.retire_freeDraws (f : FileRec) (o : FileOutcome) : (c.retire f o).freeDraws = c.freeDraws := by
  simp [Ctl.retire, eachDrive]

/-- Retirement takes the file's records out of the table. -/
theorem Ctl.retire_files (f : FileRec) (o : FileOutcome) :
    (c.retire f o).files = c.files.filter fun g => g.ref != f.ref := by
  simp [Ctl.retire, eachDrive]

/-- The FILE_DONE turn is the job whose file has retired. -/
theorem Ctl.retire_fileDoneTurn (f : FileRec) (o : FileOutcome) : (c.retire f o).fileDoneTurn = f.ref.job := by
  simp [Ctl.retire, eachDrive]

/-- A file no drive holds a write entry of retires with no further consequence at the drives. -/
theorem Ctl.endEntries_none (r : FileRef) (d : DriveNo) (hq : ∀ x ∈ (c.drive d).writeQueue, c.holdsFile r x = false)
    (hs : ∀ g, (c.drive d).staged = some g → g.first = true → c.holdsFile r g.slab = false) :
    Ctl.endEntries r c d = c := by
  simp only [Ctl.endEntries]
  split
  · rfl
  · rename_i h
    refine absurd ?_ h
    have h1 : (c.drive d).writeQueue.filter (c.holdsFile r) = [] := by
      simpa [List.filter_eq_nil_iff] using hq
    rw [h1]
    cases hg : (c.drive d).staged with
    | none => rfl
    | some g =>
      cases hf : g.first with
      | false => simp [Option.filter, hf]
      | true => simp [Option.filter, hf, hs g hg hf]

end Sys2Proof.Machine
end

