-- ==== Sys2Proof/Laws/Handler.lean ====
section
/-! SUPPORT. The output queue, the request handler, the links, and the shape of every meaning, each said once. -/

namespace Sys2Proof.Machine

/-! ## Every command answers a next state -/

/-- No meaning stops. -/
theorem exec_next (i : Instr) (s : State) : ∃ t, exec i s = .next t := by cases i <;> exact ⟨_, rfl⟩

/-- A running part runs. -/
theorem State.run_of_running (s : State) (f : State → State) (h : s.inReset = false) : s.run f = f s := by
  simp [State.run, h]

/-- A part in reset does not. -/
theorem State.run_of_inReset (s : State) (f : State → State) (h : s.inReset = true) : s.run f = s := by
  simp [State.run, h]

theorem State.runCtl_of_running (s : State) (f : Ctl → Ctl) (h : s.inReset = false) :
    s.runCtl f = { s with ctl := f s.ctl } := by
  simp [State.runCtl, State.run, h]

/-! ## Requests -/

/-- The frame the handler takes, in the terms of Takes. -/
theorem State.nextFrame_of_takes {s : State} {k : MsgKind} {f : RxFrame} (h : s.Takes k f) : s.nextFrame = some f := by
  obtain ⟨h1, h2, h3, h4, -⟩ := h
  simp [State.nextFrame, h1, h2, h4, Config.replyLimit, h3]

/-- A frame the handler takes is the head of the buffer, and the handler may take it. -/
theorem State.nextFrame_eq_some {s : State} {f : RxFrame} (h : s.nextFrame = some f) :
    s.inReset = false ∧ s.handlerStopped = false ∧ s.ctl.replyCount < 8 ∧ s.inbuf.head? = some f := by
  unfold State.nextFrame at h
  split at h
  · cases h
  · rename_i g
    simp only [Bool.or_eq_true, Bool.not_eq_true', decide_eq_false_iff_not, not_or, Bool.not_eq_true, not_not] at g
    exact ⟨g.1.1, g.1.2, g.2, h⟩

/-- A taken request is answered by its own part. -/
theorem State.request_of_takes {s : State} {k : MsgKind} {f : RxFrame} (act : List Byte → Ctl → Answer)
    (h : s.Takes k f) : s.request k act = s.answer f (act f.payload s.ctl) := by
  unfold State.request
  rw [State.nextFrame_of_takes h]
  simp [h.2.2.2.2]

/-- A request is taken or changes nothing. -/
theorem State.request_cases (s : State) (k : MsgKind) (act : List Byte → Ctl → Answer) :
    (∃ f, s.Takes k f ∧ s.request k act = s.answer f (act f.payload s.ctl)) ∨ s.request k act = s := by
  unfold State.request
  split
  · rename_i f hf
    split
    · rename_i hk
      obtain ⟨h1, h2, h3, h4⟩ := State.nextFrame_eq_some hf
      exact .inl ⟨f, ⟨h1, h2, h3, h4, hk⟩, rfl⟩
    · exact .inr rfl
  · exact .inr rfl

theorem State.answer_error (s : State) (f : RxFrame) (r : Reason) : s.answer f (.error r) = s.refusedFor f r := rfl

theorem State.answer_unchanged (s : State) (f : RxFrame) (fields : List Byte) :
    s.answer f (.ok (s.ctl, fields)) = s.doneOnly f fields := rfl

/-- A request that is done: its shared state with the reply behind it. -/
theorem State.answer_doneIn (s : State) (f : RxFrame) (c : Ctl) (fields : List Byte) :
    s.DoneIn (s.answer f (.ok (c, fields))) f fields := by
  refine ⟨?_, rfl⟩
  simp [State.answer, Ctl.pushEntry, Ctl.setOutq, RxFrame.done]

/-- What a reply leaves: everything but the output queue. -/
theorem State.answer_ok_ctl (s : State) (f : RxFrame) (c : Ctl) (fields : List Byte) :
    (s.answer f (.ok (c, fields))).ctl = c.pushEntry (f.done fields) := rfl

/-- A job request passes the job number and its state, or is refused for the first that fails (R3). -/
theorem Ctl.forJob_cases (c : Ctl) (k : MsgKind) (b : Byte) (act : CardNo → Answer) :
    (cardNo? b = none ∧ c.forJob k b act = .error .badField)
      ∨ ∃ n, cardNo? b = some n
        ∧ (((c.job n).state.takes k = true ∧ c.forJob k b act = act n)
          ∨ ((c.job n).state.takes k = false ∧ c.forJob k b act = .error (c.job n).state.reason)) := by
  unfold Ctl.forJob
  split
  · rename_i h; exact .inl ⟨h, rfl⟩
  · rename_i n h
    by_cases g : (c.job n).state.takes k = true
    · exact .inr ⟨n, h, .inl ⟨g, by simp [g]⟩⟩
    · exact .inr ⟨n, h, .inr ⟨by simpa using g, by simp [g]⟩⟩

/-- A byte within 0 to 7 is a card port's number. -/
theorem cardNo_of_toNat {b : Byte} {n : CardNo} (h : b.toNat = n.val) : cardNo? b = some n := by
  simp [cardNo?, h]

theorem cardNo_of_lt {b : Byte} (h : 7 < b.toNat) : cardNo? b = none := by
  have hb : ¬b.toNat < 8 := by omega
  simp [cardNo?, hb]

/-! ## The output queue -/

/-- Coalescing changes no entry's kind; it adds at most one entry, of the subject. -/
theorem coalesce_countP (q : List OutEntry) (s : Subject) (p : List Byte) (P : EntryKind → Bool) :
    (coalesce q s p).countP (fun e => P e.kind) =
      q.countP (fun e => P e.kind)
        + if q.any (fun e => e.kind == .notice s) = false ∧ P (.notice s) = true then 1 else 0 := by
  unfold coalesce
  split
  · rename_i h
    simp only [h, Bool.true_eq_false, false_and, if_false, Nat.add_zero, List.countP_map]
    congr 1
    funext e
    simp only [Function.comp]
    split <;> rfl
  · rename_i h
    simp only [h, true_and, List.countP_append, List.countP_cons, List.countP_nil]
    simp

/-- The subject's entry stands in the queue with the payload. -/
theorem coalesce_mem (q : List OutEntry) (s : Subject) (p : List Byte) :
    ∃ e ∈ coalesce q s p, e.kind = .notice s ∧ e.payload = p := by
  unfold coalesce
  split
  · rename_i h
    obtain ⟨e, he, hk⟩ := List.any_eq_true.1 h
    have hk' : e.kind = .notice s := by simpa using hk
    refine ⟨{ e with payload := p }, List.mem_map.2 ⟨e, he, ?_⟩, hk', rfl⟩
    rw [if_pos hk']
  · exact ⟨{ kind := .notice s, tag := 0, payload := p }, by simp, rfl, rfl⟩

/-- An entry of another kind stands as it was. -/
theorem coalesce_mem_of_ne (q : List OutEntry) (s : Subject) (p : List Byte) (e : OutEntry) (he : e ∈ q)
    (h : e.kind ≠ .notice s) : e ∈ coalesce q s p := by
  unfold coalesce
  split
  · refine List.mem_map.2 ⟨e, he, ?_⟩
    rw [if_neg h]
  · exact List.mem_append_left _ he

/-! ## Links -/

theorem Link.issue_idle (l : Link) (h : l.cond = .idle) (k : TxnKind) (a n g t : Nat) :
    l.issue k a n g t =
      { cond := .inFlight { kind := k, seq := l.seq + 1, start := a, count := n, grade := g,
                            blocks := if k = .write then n else 0, checkFailed := false, period := t }
        seq := l.seq + 1 } := by
  simp [Link.issue, Link.isIdle, h]

theorem Link.issue_busy (l : Link) (h : l.cond ≠ .idle) (k : TxnKind) (a n g t : Nat) : l.issue k a n g t = l := by
  simp [Link.issue, Link.isIdle, h]

/-- A link after an issue carries the kind issued, or what it carried. -/
theorem Link.issue_carries (l : Link) (k k' : TxnKind) (a n g t : Nat) :
    (l.issue k a n g t).carries k' = true → k' = k ∨ l.carries k' = true := by
  intro e
  by_cases h : l.cond = .idle
  · rw [Link.issue_idle l h] at e
    have e' : (k == k') = true := e
    exact .inl (eq_of_beq e').symm
  · rw [Link.issue_busy l h] at e
    exact .inr e

@[simp] theorem Link.finish_cond (l : Link) : l.finish.cond = .idle := rfl
@[simp] theorem Link.finish_seq (l : Link) : l.finish.seq = l.seq := rfl
@[simp] theorem Link.assertReset_cond (l : Link) : l.assertReset.cond = .resetting := rfl
@[simp] theorem Link.assertReset_seq (l : Link) : l.assertReset.seq = l.seq := rfl

theorem Link.flight_eq_some {l : Link} {f : Flight} : l.flight = some f ↔ l.cond = .inFlight f := by
  unfold Link.flight
  split <;> simp_all

/-! ## The file queue -/

/-- A job's queue after a file has joined the table. -/
theorem Ctl.queue_append (c : Ctl) (n : CardNo) (f : FileRec) :
    ({ c with files := c.files ++ [f] } : Ctl).queue n = c.queue n ++ (if f.ref.job = n then [f] else []) := by
  simp only [Ctl.queue, List.filter_append]
  congr 1
  by_cases h : f.ref.job = n <;> simp [h]

/-- A comparison keeps the record's name. -/
@[simp] theorem FileRec.compare_ref (f : FileRec) : f.compare.ref = f.ref := by unfold FileRec.compare; split <;> rfl
@[simp] theorem FileRec.closeResults_ref (f : FileRec) (v : VerifyMode) (p : DriveNo → Bool) (r : DestResult) :
    (f.closeResults v p r).ref = f.ref := rfl
@[simp] theorem FileRec.modDest_ref (f : FileRec) (d : DriveNo) (g : FileDest → FileDest) :
    (f.modDest d g).ref = f.ref := rfl
@[simp] theorem FileRec.zeroPass_ref (f : FileRec) (v : VerifyMode) : (f.zeroPass v).ref = f.ref := rfl

/-! ## Bytes -/

@[simp] theorem leBytes_length (k v : Nat) : (leBytes k v).length = k := by
  induction k generalizing v with
  | zero => rfl
  | succ k ih => simp [leBytes, ih]

/-- Low-order-first bytes give the number back. -/
theorem ofLe_leBytes (k v : Nat) : ofLe (leBytes k v) = v % 256 ^ k := by
  induction k generalizing v with
  | zero => simp [leBytes, ofLe, Nat.mod_one]
  | succ k ih =>
    simp only [leBytes, ofLe, ih, BitVec.toNat_ofNat]
    rw [show 256 ^ (k + 1) = 256 * 256 ^ k from by rw [Nat.pow_succ, Nat.mul_comm], Nat.mod_mul]

@[simp] theorem unstatedBytes_length (k : Nat) (u : Unstated) : (unstatedBytes k u).length = k := leBytes_length ..

end Sys2Proof.Machine
end

