-- ==== Sys2Proof/Laws/Memory.lean ====
section
/-! SUPPORT. The DRAM list: its canonical form in usable words, that every operation keeps it, and what a read sees
after a write. -/

namespace Sys2Proof.Machine

/-- The canonical form: addresses rise, and no entry equals what an unlisted address reads as. -/
theorem memWf_iff (m : List Host.Cell) :
    memWf m = true ↔ m.Pairwise (fun x y => x.1 < y.1) ∧ ∀ x ∈ m, x.2 ≠ Config.dramUnwritten := by
  induction m with
  | nil => simp [memWf]
  | cons x l ih =>
    obtain ⟨a, b⟩ := x
    cases l with
    | nil => simp [memWf]
    | cons y l =>
      obtain ⟨a', b'⟩ := y
      simp only [memWf, Bool.and_eq_true, bne_iff_ne, ne_eq, decide_eq_true_eq, ih]
      simp only [List.pairwise_cons, List.mem_cons, forall_eq_or_imp]
      constructor
      · rintro ⟨⟨hb, ha⟩, ⟨hl, hp⟩, hb', hn⟩
        exact ⟨⟨⟨ha, fun z hz => ha.trans (hl z hz)⟩, hl, hp⟩, hb, hb', hn⟩
      · rintro ⟨⟨⟨ha, -⟩, hl, hp⟩, hb, hb', hn⟩
        exact ⟨⟨hb, ha⟩, ⟨hl, hp⟩, hb', hn⟩

/-- The memory right after reset has the canonical form. -/
theorem memWf_reset : memWf State.reset.dram = true := rfl

/-- An address below every entry is unwritten. -/
theorem readByte_of_lt (m : List Host.Cell) (a : Nat) (h : ∀ x ∈ m, a < x.1) :
    readByte m a = Config.dramUnwritten := by
  induction m with
  | nil => rfl
  | cons x l ih =>
    have hx := h x (List.mem_cons_self ..)
    rw [readByte, if_neg (by omega)]
    exact ih fun y hy => h y (List.mem_cons_of_mem _ hy)

/-- Entries of a write are the written one and old ones. -/
theorem mem_writeByte (m : List Host.Cell) (a : Nat) (v : Byte) (x : Host.Cell) (h : x ∈ writeByte m a v) :
    x ∈ m ∨ (x = (a, v) ∧ v ≠ Config.dramUnwritten) := by
  induction m with
  | nil =>
    by_cases hv : v = Config.dramUnwritten
    · simp [writeByte, hv] at h
    · simp [writeByte, hv] at h
      exact .inr ⟨h, hv⟩
  | cons y l ih =>
    obtain ⟨b, w⟩ := y
    simp only [writeByte] at h
    split at h
    · split at h
      · exact .inl h
      · rename_i hv
        rcases List.mem_cons.1 h with h | h
        · exact .inr ⟨h, hv⟩
        · exact .inl h
    · split at h
      · split at h
        · exact .inl (List.mem_cons_of_mem _ h)
        · rename_i hv
          rcases List.mem_cons.1 h with h | h
          · exact .inr ⟨h, hv⟩
          · exact .inl (List.mem_cons_of_mem _ h)
      · rcases List.mem_cons.1 h with h | h
        · exact .inl (h ▸ List.mem_cons_self ..)
        · exact (ih h).imp_left (List.mem_cons_of_mem _)

/-- Writing a byte keeps the canonical form. -/
theorem writeByte_wf (m : List Host.Cell) (a : Nat) (v : Byte) (h : memWf m = true) :
    memWf (writeByte m a v) = true := by
  rw [memWf_iff] at h ⊢
  obtain ⟨hp, hn⟩ := h
  constructor
  · clear hn
    induction m with
    | nil => by_cases hv : v = Config.dramUnwritten <;> simp [writeByte, hv]
    | cons y l ih =>
      obtain ⟨b, w⟩ := y
      obtain ⟨hl, hp⟩ := List.pairwise_cons.1 hp
      simp only [writeByte]
      split
      · rename_i hab
        split
        · exact List.pairwise_cons.2 ⟨hl, hp⟩
        · refine List.pairwise_cons.2 ⟨fun z hz => ?_, List.pairwise_cons.2 ⟨hl, hp⟩⟩
          rcases List.mem_cons.1 hz with rfl | hz
          · exact hab
          · exact hab.trans (hl z hz)
      · split
        · rename_i hba
          split
          · exact hp
          · exact List.pairwise_cons.2 ⟨fun z hz => by have := hl z hz; simp at this ⊢; omega, hp⟩
        · refine List.pairwise_cons.2 ⟨fun z hz => ?_, ih hp⟩
          rcases mem_writeByte l a v z hz with hz | ⟨rfl, -⟩
          · exact hl z hz
          · simp; omega
  · intro x hx
    rcases mem_writeByte m a v x hx with hx | ⟨rfl, hv⟩
    · exact hn x hx
    · exact hv

/-- What a read sees after a write. -/
theorem readByte_writeByte (m : List Host.Cell) (a b : Nat) (v : Byte) (h : memWf m = true) :
    readByte (writeByte m a v) b = if b = a then v else readByte m b := by
  obtain ⟨hp, -⟩ := (memWf_iff m).1 h
  clear h
  induction m with
  | nil =>
    by_cases hv : v = Config.dramUnwritten
    · simp [writeByte, readByte, hv]
    · by_cases hb : b = a
      · simp [writeByte, readByte, hv, hb]
      · simp [writeByte, readByte, hv, hb, Ne.symm hb]
  | cons y l ih =>
    obtain ⟨k, w⟩ := y
    obtain ⟨hl, hp⟩ := List.pairwise_cons.1 hp
    have hl' : ∀ x ∈ l, k < x.1 := hl
    simp only [writeByte]
    split
    · rename_i hak
      split
      · rename_i hv
        split
        · rename_i hb
          rw [readByte, if_neg (by omega), readByte_of_lt l b fun x hx => by have := hl' x hx; omega, hv]
        · rfl
      · by_cases hb : b = a
        · simp [readByte, hb]
        · rw [if_neg hb, readByte, if_neg (Ne.symm hb)]
    · split
      · rename_i hka
        split
        · rename_i hv
          by_cases hb : b = a
          · rw [if_pos hb, readByte_of_lt l b fun x hx => by have := hl' x hx; omega, hv]
          · rw [if_neg hb, readByte, if_neg (by omega)]
        · by_cases hb : b = a
          · simp [readByte, hb]
          · rw [if_neg hb, readByte, readByte, if_neg (Ne.symm hb), if_neg (by omega)]
      · by_cases hb : k = b
        · rw [readByte, if_pos hb, readByte, if_pos hb, if_neg (by omega)]
        · rw [readByte, if_neg hb, ih hp, readByte, if_neg hb]

/-- Writing bytes keeps the canonical form. -/
theorem writeBytes_wf (bytes : List Byte) (m : List Host.Cell) (a : Nat) (h : memWf m = true) :
    memWf (writeBytes m a bytes) = true := by
  induction bytes generalizing m a with
  | nil => exact h
  | cons b l ih => exact ih _ _ (writeByte_wf m a b h)

/-- Bytes outside the written ones read as before. -/
theorem readByte_writeBytes_outside (bytes : List Byte) (m : List Host.Cell) (a b : Nat) (h : memWf m = true)
    (hb : b < a ∨ a + bytes.length ≤ b) : readByte (writeBytes m a bytes) b = readByte m b := by
  induction bytes generalizing m a with
  | nil => rfl
  | cons v l ih =>
    simp only [List.length_cons] at hb
    rw [writeBytes, ih _ _ (writeByte_wf m a v h) (by omega), readByte_writeByte m a b v h, if_neg (by omega)]

/-- A written byte reads as written. -/
theorem readByte_writeBytes_inside (bytes : List Byte) (m : List Host.Cell) (a k : Nat) (h : memWf m = true)
    (hk : k < bytes.length) : readByte (writeBytes m a bytes) (a + k) = bytes[k] := by
  induction bytes generalizing m a k with
  | nil => simp at hk
  | cons v l ih =>
    rw [writeBytes]
    cases k with
    | zero =>
      rw [readByte_writeBytes_outside l _ _ _ (writeByte_wf m a v h) (by omega), readByte_writeByte m a _ v h]
      simp
    | succ k =>
      have := ih (writeByte m a v) (a + 1) k (writeByte_wf m a v h) (by simpa using hk)
      rw [show a + (k + 1) = a + 1 + k by omega]
      simpa using this

/-- Placing a block keeps the canonical form. -/
theorem State.placeBlock_wf (s : State) (p : PortId) (f : Flight) (data : List Byte) (h : memWf s.dram = true) :
    memWf (s.placeBlock p f data).dram = true := by
  unfold State.placeBlock
  split
  · exact h
  · split
    · exact writeBytes_wf _ _ _ h
    · exact h

end Sys2Proof.Machine
end

