-- ==== Sys2Proof/WellFormed.lean ====
section
/-! DEFINITION. When a command's operands have the form its rule gives: a data block is 512 bytes (R158, R160). The
types of the other operands admit no ill-formed value. -/

namespace Sys2Proof

/-- The operands have the form the spec gives them. -/
def Instr.wellFormed : Instr → Bool
  | .dataBlockReceived _ _ data _ => data.length == 512
  | .frameReceived _ | .receiveGapTimeout | .badKindRequest | .ident | .partReset | .noticeSet | .portQuery
  | .lampSet | .jobOpen | .jobStart | .fileAdd | .jobClose | .jobSuspend | .jobResume | .jobDrop | .jobStop
  | .jobClear | .jobFree | .jobQuery | .scanStart | .scanStop | .transmitStart | .frameSent
  | .partResetTimerExpiry _ | .resetPinAssert | .resetPinRelease _ | .supplyFail | .supplyValid _
  | .linkResetExpiry _ | .cardInsertionBegin _ | .cardSettled _ | .cardRemoval _ | .driveAttachBegin _
  | .driveSettled _ | .driveAbsence _ | .statusRecordReceived _ _ _ _ _ | .linkTimeout _ | .digestStart
  | .digestComputationEnd | .blankCheckEnd _ | .lampBlinkToggle _ | .presentSample _ _ => true

end Sys2Proof
end

