-- ==== Sys2Proof/Laws/PerInstr.lean ====
section
/-! SUPPORT. Statements about each command as syntax. -/

namespace Sys2Proof

/-- A command is ill-formed only as a data block of another length than 512 bytes (R158). -/
def Laws.Operands.Statement (i : Instr) : Prop :=
  i.wellFormed = true ∨ ∃ p seq data check, i = .dataBlockReceived p seq data check ∧ data.length ≠ 512

theorem Laws.Operands.frameReceived (bytes : List RxByte) :
    Laws.Operands.Statement (Instr.frameReceived bytes) := .inl rfl
theorem Laws.Operands.receiveGapTimeout :
    Laws.Operands.Statement Instr.receiveGapTimeout := .inl rfl
theorem Laws.Operands.badKindRequest :
    Laws.Operands.Statement Instr.badKindRequest := .inl rfl
theorem Laws.Operands.ident :
    Laws.Operands.Statement Instr.ident := .inl rfl
theorem Laws.Operands.partReset :
    Laws.Operands.Statement Instr.partReset := .inl rfl
theorem Laws.Operands.noticeSet :
    Laws.Operands.Statement Instr.noticeSet := .inl rfl
theorem Laws.Operands.portQuery :
    Laws.Operands.Statement Instr.portQuery := .inl rfl
theorem Laws.Operands.lampSet :
    Laws.Operands.Statement Instr.lampSet := .inl rfl
theorem Laws.Operands.jobOpen :
    Laws.Operands.Statement Instr.jobOpen := .inl rfl
theorem Laws.Operands.jobStart :
    Laws.Operands.Statement Instr.jobStart := .inl rfl
theorem Laws.Operands.fileAdd :
    Laws.Operands.Statement Instr.fileAdd := .inl rfl
theorem Laws.Operands.jobClose :
    Laws.Operands.Statement Instr.jobClose := .inl rfl
theorem Laws.Operands.jobSuspend :
    Laws.Operands.Statement Instr.jobSuspend := .inl rfl
theorem Laws.Operands.jobResume :
    Laws.Operands.Statement Instr.jobResume := .inl rfl
theorem Laws.Operands.jobDrop :
    Laws.Operands.Statement Instr.jobDrop := .inl rfl
theorem Laws.Operands.jobStop :
    Laws.Operands.Statement Instr.jobStop := .inl rfl
theorem Laws.Operands.jobClear :
    Laws.Operands.Statement Instr.jobClear := .inl rfl
theorem Laws.Operands.jobFree :
    Laws.Operands.Statement Instr.jobFree := .inl rfl
theorem Laws.Operands.jobQuery :
    Laws.Operands.Statement Instr.jobQuery := .inl rfl
theorem Laws.Operands.scanStart :
    Laws.Operands.Statement Instr.scanStart := .inl rfl
theorem Laws.Operands.scanStop :
    Laws.Operands.Statement Instr.scanStop := .inl rfl
theorem Laws.Operands.transmitStart :
    Laws.Operands.Statement Instr.transmitStart := .inl rfl
theorem Laws.Operands.frameSent :
    Laws.Operands.Statement Instr.frameSent := .inl rfl
theorem Laws.Operands.partResetTimerExpiry (straps : StrapPins) :
    Laws.Operands.Statement (Instr.partResetTimerExpiry straps) := .inl rfl
theorem Laws.Operands.resetPinAssert :
    Laws.Operands.Statement Instr.resetPinAssert := .inl rfl
theorem Laws.Operands.resetPinRelease (straps : StrapPins) :
    Laws.Operands.Statement (Instr.resetPinRelease straps) := .inl rfl
theorem Laws.Operands.supplyFail :
    Laws.Operands.Statement Instr.supplyFail := .inl rfl
theorem Laws.Operands.supplyValid (straps : StrapPins) :
    Laws.Operands.Statement (Instr.supplyValid straps) := .inl rfl
theorem Laws.Operands.linkResetExpiry (port : PortId) :
    Laws.Operands.Statement (Instr.linkResetExpiry port) := .inl rfl
theorem Laws.Operands.cardInsertionBegin (n : CardNo) :
    Laws.Operands.Statement (Instr.cardInsertionBegin n) := .inl rfl
theorem Laws.Operands.cardSettled (n : CardNo) :
    Laws.Operands.Statement (Instr.cardSettled n) := .inl rfl
theorem Laws.Operands.cardRemoval (n : CardNo) :
    Laws.Operands.Statement (Instr.cardRemoval n) := .inl rfl
theorem Laws.Operands.driveAttachBegin (d : DriveNo) :
    Laws.Operands.Statement (Instr.driveAttachBegin d) := .inl rfl
theorem Laws.Operands.driveSettled (d : DriveNo) :
    Laws.Operands.Statement (Instr.driveSettled d) := .inl rfl
theorem Laws.Operands.driveAbsence (d : DriveNo) :
    Laws.Operands.Statement (Instr.driveAbsence d) := .inl rfl
theorem Laws.Operands.dataBlockReceived (port : PortId) (seq : Byte) (data : List Byte) (check : BitVec 16) :
    Laws.Operands.Statement (Instr.dataBlockReceived port seq data check) := by
  by_cases h : data.length = 512
  · exact .inl (by simp [Instr.wellFormed, h])
  · exact .inr ⟨port, seq, data, check, rfl, h⟩
theorem Laws.Operands.statusRecordReceived (port : PortId) (seq code : Byte) (identity : Option (BitVec 48 × Serial)) (check : BitVec 16) :
    Laws.Operands.Statement (Instr.statusRecordReceived port seq code identity check) := .inl rfl
theorem Laws.Operands.linkTimeout (port : PortId) :
    Laws.Operands.Statement (Instr.linkTimeout port) := .inl rfl
theorem Laws.Operands.digestStart :
    Laws.Operands.Statement Instr.digestStart := .inl rfl
theorem Laws.Operands.digestComputationEnd :
    Laws.Operands.Statement Instr.digestComputationEnd := .inl rfl
theorem Laws.Operands.blankCheckEnd (n : CardNo) :
    Laws.Operands.Statement (Instr.blankCheckEnd n) := .inl rfl
theorem Laws.Operands.lampBlinkToggle (n : CardNo) :
    Laws.Operands.Statement (Instr.lampBlinkToggle n) := .inl rfl
theorem Laws.Operands.presentSample (port : PortId) (high : Bool) :
    Laws.Operands.Statement (Instr.presentSample port high) := .inl rfl

end Sys2Proof
end

