-- ==== Sys2Proof/Tests/Slice0.lean ====
section
/-! SUPPORT. Tests: the well-formedness smoke, values the spec works out (each names its file), and one small step of each
kind; then, for every statement that has hypotheses, a state that meets them. -/

namespace Sys2Proof.Tests

open Sys2Proof Sys2Proof.Machine

set_option Elab.async false

/-! ## Small states -/

/-- The shared state right after reset. -/
def c0 : Ctl := State.reset.ctl

/-- A running part with the shared state c. -/
def st (c : Ctl) : State := { State.reset with ctl := c }

/-- A request frame with tag 7. -/
def req (k : MsgKind) (p : List Byte) : RxFrame := { kind := k.code, tag := 7, payload := p }

/-- A part whose handler is about to take a request. -/
def ask (c : Ctl) (k : MsgKind) (p : List Byte) : State := { st c with inbuf := [req k p] }

/-- The state a command leaves. -/
def after (i : Instr) (s : State) : State :=
  match exec i s with
  | .next t => t
  | _ => s

/-- The last entry of the output queue: its kind and payload. -/
def lastOut (s : State) : Option (EntryKind × List Byte) := s.ctl.outq.getLast?.map fun e => (e.kind, e.payload)

/-- A serial of one repeated byte. -/
def serial (v : Byte) : Serial := Vector.replicate 16 v

/-- Card 0 and drives D0 and D1 are READY over IDLE links; sequence numbers 40. -/
def up : Ctl :=
  let drive := fun (v : Byte) (p : DrivePort) =>
    { p with state := DriveState.ready, capacity := 5000, serial := serial v, link := { cond := .idle, seq := 40 } }
  ((c0.modCard 0 fun p => { p with
      state := .ready, capacity := 4000000, serial := serial 1, link := { cond := .idle, seq := 40 } }).modDrive 0
    (drive 8)).modDrive 1 (drive 9)

/-- Job 0 in a state, with D0 and D1 LIVE, clearance 1, verify mode OFF. -/
def withJob (x : JobState) : Ctl :=
  up.modJob 0 fun j => { j with
    state := x, serial := serial 1, clearance := 1, cardCapacity := 4000000
    dests := [{ port := 0, serial := serial 8, live := true, capacity := 5000 },
      { port := 1, serial := serial 9, live := true, capacity := 5000 }] }

/-- A file of job 0, number k, of 1000 bytes in two blocks. -/
def file (k : Nat) (x : FileState) : FileRec where
  ref := { job := 0, num := k }
  id := 100 + k
  len := 1000
  source := [{ start := 10, count := 2 }]
  readOffset := 0
  state := x
  acc := { a := 0, b := 0, words := 0 }
  result := .pending
  dests := [0, 1].map fun d =>
    { port := d, extents := [{ start := 0, count := 2 }], bytesWritten := 0, verA := 0, verB := 0, stored := false,
      result := .pending }

/-- The table with two files of job 0. -/
def withFiles (c : Ctl) (a b : FileState) : Ctl := { c with files := [file 0 a, file 1 b], nextFile := 2 }

/-- Bytes without framing error. -/
def clean (l : List Byte) : List RxByte := l.map fun b => { data := b, framingError := false }

/-! ## Well-formed commands -/

theorem test_wellFormed_dataBlock :
    (Instr.dataBlockReceived (.card 0) 1 (List.replicate 512 0) 0).wellFormed = true
      ∧ (Instr.dataBlockReceived (.card 0) 1 (List.replicate 511 0) 0).wellFormed = false
      ∧ (Instr.dataBlockReceived (.card 0) 1 (List.replicate 513 0) 0).wellFormed = false := by decide +kernel

/-- No row of the opcode table gives bits. -/
theorem test_decode_none : decodeTableWord 16 0x1234 = none ∧ (st c0).withFetchWord 16 0x1234 = st c0 := ⟨rfl, rfl⟩

/-! ## The line (file 10) -/

/-- The nine bytes of 10.2 and their check. -/
theorem test_crc : crc16 [0x31, 0x32, 0x33, 0x34, 0x35, 0x36, 0x37, 0x38, 0x39] = 0x29B1#16 := by decide +kernel

/-- The IDENT request with tag 7 of 10.2: A5 00 00 01 07 and its check. -/
theorem test_frame_ident :
    frameBytes 0x01 7 [] = 0xA5 :: [0x00, 0x00, 0x01, 0x07] ++ crcBytes (crc16 [0x00, 0x00, 0x01, 0x07])
      ∧ (after (.frameReceived (clean (frameBytes 0x01 7 []))) (st c0)).inbuf
          = [{ kind := 0x01, tag := 7, payload := [] }] := by decide +kernel

/-- The line's gap discards a frame begun, with the GAP kind (R175). -/
theorem test_gap :
    (after .receiveGapTimeout (after (.frameReceived (clean [0xA5, 0x00])) (st c0))).ctl.linkFault
      = { kind := some .gap, count := 1 } := by decide +kernel

/-- IDENT's reply (R184). -/
theorem test_ident : lastOut (after .ident (ask c0 .ident [])) =
    some (.done 0x01, [0x01, 0x71, 0x3A, 0x40, 0x08, 1, 0, 2, 8, 4, 0, 6, 0, 0, 0]) := by decide +kernel

/-- A KIND that names no request (R178). -/
theorem test_badKind :
    lastOut (after .badKindRequest { st c0 with inbuf := [{ kind := 0x13, tag := 7, payload := [] }] }) =
      some (.refused 0x13, [0x13, 1]) := by decide +kernel

/-- A later setting of one kind overrides an earlier one; a step above 8 becomes 8 (R183). -/
theorem test_noticeSet : lastOut (after .noticeSet (ask c0 .noticeSet [9, 0xC2, 0, 0xC2, 1, 0xC5, 0, 0xC4, 0])) =
    some (.done 0x03, [0x03, 1, 1, 0, 1, 8]) := by decide +kernel

/-- PORT_QUERY of C0, EMPTY and unbound (R133, R191): the reply's first bytes, and 57 bytes behind the KIND. -/
theorem test_portQuery :
    ((lastOut (after .portQuery (ask c0 .portQuery [0]))).map fun e => (e.2.take 5, e.2.length)) =
      some ([0x04, 0, 0, 0, 0], 58) := by decide +kernel

/-- JOB_QUERY of a FREE job carries the free values of R1: quota 48, no destination. -/
theorem test_jobQuery :
    ((lastOut (after .jobQuery (ask c0 .jobQuery [7]))).map fun e => (e.2.length, e.2.take 3, e.2.drop 30)) =
      some (59, [0x10, 7, 0], 0 :: 0 :: 48 :: List.replicate 26 0) := by
  decide +kernel

/-- LAMP_SET HOST GREEN, then AUTO on an EMPTY port shows OFF (R113, R111). -/
theorem test_lampSet : lastOut (after .lampSet (ask c0 .lampSet [3, 1, 5])) = some (.done 0x05, [0x05, 1, 5])
    ∧ lastOut (after .lampSet (ask c0 .lampSet [3, 0, 5])) = some (.done 0x05, [0x05, 0, 0]) := by decide +kernel

/-- Straps 1, 1 give N = 10, and READY carries cause, rate code and N (R173, R189). -/
theorem test_reset_pin :
    lastOut (after (.resetPinRelease { rate1 := true, rate0 := false, deb1 := true, deb0 := true })
      (after .resetPinAssert (st c0))) = some (.notice .ready, [1, 2, 10]) := by decide +kernel

/-- PART_RESET: the handler stops, and the FRAME_SENT behind its DONE begins a reset (R187). -/
theorem test_partReset :
    let s := after .partReset (ask c0 .partReset [])
    let t := after .frameSent (after .transmitStart (after .frameSent (after .transmitStart s)))
    s.handlerStopped = true ∧ t.inReset = true ∧ t.ctl.outq = []
      ∧ lastOut (after (.partResetTimerExpiry { rate1 := false, rate0 := true, deb1 := false, deb0 := true }) t)
          = some (.notice .ready, [2, 1, 8]) := by decide +kernel

/-- A supply failure beats the pin: READY reports POWER_ON (R173). -/
theorem test_supply :
    lastOut (after (.supplyValid { rate1 := false, rate0 := false, deb1 := false, deb0 := false })
      (after .supplyFail (st c0))) = some (.notice .ready, [0, 0, 6]) := by decide +kernel

/-! ## Digest (file 04, worked cases) -/

theorem test_digest_cases :
    partialDigest (wordsOf [0x01, 0x00, 0x02, 0x00, 0x03, 0x00]) = (6, 10)
      ∧ partialDigest (wordsOf [0x02, 0x00, 0x01, 0x00, 0x03, 0x00]) = (6, 11)
      ∧ partialDigest (wordsOf [0x10, 0x20, 0x30, 0x40, 0x50]) = (24720, 57568)
      ∧ partialDigest [65535, 65535] = (32, 48) := by decide +kernel

theorem test_fold_two_spans :
    let start : Acc := { a := 0, b := 0, words := 0 }
    (start.fold 32768 501 40000 12345).fold 501 0 30000 777 = { a := 4481, b := 4308, words := 33269 }
      ∧ (start.fold 501 0 30000 777).fold 32768 501 40000 12345 = { a := 4481, b := 4308, words := 33269 } := by
  decide +kernel

theorem test_fold_large_trailer :
    let start : Acc := { a := 0, b := 0, words := 0 }
    (((start.fold 32768 1713 50000 60000).fold 32768 34464 65000 10).fold 32768 1696 1 2).fold 1696 0 65518 65518
      = { a := 49481, b := 12726, words := 100000 } := by decide +kernel

/-! ## Cutting a file (file 02's example) -/

theorem test_cut :
    let source : List Extent := [{ start := 10000, count := 300 }, { start := 52000, count := 91 }]
    let d2 : List Extent := [{ start := 4096, count := 200 }, { start := 9000, count := 191 }]
    spanLen 200000 196608 = 3392 ∧ blocksFor 200000 = 391 ∧ txnAt source 256 384 = some (10256, 44)
      ∧ txnAt source 300 384 = some (52000, 84) ∧ txnAt d2 128 256 = some (4224, 72)
      ∧ txnAt d2 200 256 = some (9000, 56) := by decide +kernel

/-! ## Jobs and files -/

/-- JOB_OPEN on a READY card and drive: OPEN, quota 4 raised to 8 (R4, R5). -/
theorem test_jobOpen :
    let s := after .jobOpen (ask up .jobOpen [0, 2, 0, 1, 0, 0, 1, 1, 4, 0, 1, 0])
    lastOut s = some (.done 0x06, [0x06, 0, 8]) ∧ (s.ctl.job 0).state = .opened
      ∧ (s.ctl.job 0).driveAction = .hold := by decide +kernel

/-- JOB_START reads the first file: the lowest slab is granted and a READ of 2 blocks is issued (R6, R42, R124). -/
theorem test_jobStart :
    let s := after .jobStart (ask (withFiles (withJob .opened) .queued .queued) .jobStart [0])
    (s.ctl.job 0).state = .running ∧ (s.ctl.slab 0).state = .filling ∧ (s.ctl.slab 0).len = 1000
      ∧ ((s.ctl.card 0).link.flight.map fun f => (f.kind, f.seq, f.start, f.count)) = some (.read, 41, 10, 2) := by
  decide +kernel

/-- FILE_ADD of one block for the source and each destination (R36 to R39, R191). -/
theorem test_fileAdd :
    let list : List Byte := [1, 5, 0, 0, 0, 0, 0, 1, 0, 0, 0]
    let s := after .fileAdd (ask (withJob .opened) .fileAdd ([0, 9, 0, 0, 0, 0, 2, 0, 0, 0] ++ list ++ list ++ list))
    lastOut s = some (.done 0x08, [0x08, 0, 9, 0, 0, 0, 1, 0xFF, 0x01])
      ∧ (s.ctl.files.map fun f => (f.id, f.len, f.source)) = [(9, 512, [{ start := 5, count := 1 }])] := by decide +kernel

/-- JOB_CLOSE of an idle running job ends it COMPLETE and clears its card (R7, R8, R107, R111). -/
theorem test_jobClose :
    let s := after .jobClose (ask (withJob .running) .jobClose [0])
    (s.ctl.job 0).state = .ended ∧ (s.ctl.job 0).endReason = .complete ∧ (s.ctl.card 0).cleared = true
      ∧ (s.ctl.card 0).pattern = .green := by decide +kernel

/-- JOB_SUSPEND FINISH of an idle job drains at once (R19, R21). -/
theorem test_jobSuspend :
    let s := after .jobSuspend (ask (withJob .running) .jobSuspend [0, 1])
    (s.ctl.job 0).state = .suspended ∧ (s.ctl.job 0).suspend = .finish := by decide +kernel

/-- JOB_RESUME of a HELD job with a ready cause (R17). -/
theorem test_jobResume :
    let c := (withJob .held).modJob 0 fun j => { j with holds := j.holds.setCard (some .ready) }
    let s := after .jobResume (ask c .jobResume [0])
    (s.ctl.job 0).state = .running ∧ (s.ctl.job 0).lastRelease = .cardGone
      ∧ lastOut s = some (.done 0x0B, [0x0B, 0, 1, 0, 0, 0, 0, 0, 0, 0, 0, 0]) := by decide +kernel

/-- JOB_DROP of one of two destinations, then of the last (R18, R27). -/
theorem test_jobDrop :
    let s := after .jobDrop (ask (withJob .running) .jobDrop [0, 0])
    let t := after .jobDrop { s with inbuf := [req .jobDrop [0, 1]] }
    ((s.ctl.job 0).dests.map (·.live)) = [false, true] ∧ (s.ctl.job 0).state = .running
      ∧ (t.ctl.job 0).state = .ended ∧ (t.ctl.job 0).endReason = .noDestination := by decide +kernel

/-- JOB_STOP of an idle job: its unfinished files retire ABANDONED and it ends STOPPED (R24 to R26, R55). -/
theorem test_jobStop :
    let s := after .jobStop (ask (withFiles (withJob .opened) .queued .queued) .jobStop [0])
    (s.ctl.job 0).state = .ended ∧ (s.ctl.job 0).endReason = .stopped ∧ s.ctl.files = []
      ∧ (s.ctl.job 0).retired = 2 ∧ (s.ctl.card 0).unclean = true := by decide +kernel

/-- JOB_CLEAR of a job faulted CARD_UNREADABLE (R30). -/
theorem test_jobClear :
    let c := (withJob .faulted).modJob 0 fun j => { j with faultCause := .cardUnreadable, failures := 3 }
    let s := after .jobClear (ask c .jobClear [0])
    (s.ctl.job 0).state = .running ∧ (s.ctl.job 0).failures = 0 := by decide +kernel

/-- JOB_FREE returns the record (R31). -/
theorem test_jobFree :
    let s := after .jobFree (ask (withFiles (withJob .opened) .queued .queued) .jobFree [0])
    (s.ctl.job 0).state = .free ∧ s.ctl.files = [] ∧ (s.ctl.job 0).retired = 0 := by decide +kernel

/-! ## Scans (file 09's examples) -/

/-- The downward scan's first chunk is 3,999,872 to 3,999,999. -/
theorem test_scanStart :
    let s := after .scanStart (ask up .scanStart ([0] ++ leBytes 6 2999700 ++ leBytes 6 1000300 ++ [1, 2]))
    let q := (s.ctl.card 0).scan
    (q.chunkStart, q.chunkSize, q.phase, q.slab) = (3999872, 128, .reading, some 0) := by decide +kernel

/-- Its second chunk, 3,999,744 to 3,999,871 with 128 examined, here with data in the third block in scan order. -/
theorem test_blankCheck :
    let c := up.modCard 0 fun p => { p with
      scan := { phase := .checking, first := 2999700, count := 1000300, direction := .down, pattern := .either,
                examined := 128, chunkStart := 3999744, chunkSize := 128, slab := some 14 } }
    let s := after (.blankCheckEnd 0) { st c with dram := [(14 * 65536 + 125 * 512 + 5, 0x77)] }
    lastOut s = some (.notice (.scanDone 0), [0, 1] ++ leBytes 6 3999869 ++ leBytes 6 131)
      ∧ (s.ctl.card 0).residue = true := by decide +kernel

/-- The upward scan stopped on the wait list reports block 384 with 384 examined. -/
theorem test_scanStop :
    let c := (up.modCard 0 fun p => { p with
      scan := { phase := .awaitingSlab, first := 0, count := 2000, direction := .up, pattern := .zero,
                examined := 384, chunkStart := 384, chunkSize := 128, slab := none } }).setWait 0 (some .scan)
    let s := after .scanStop (ask c .scanStop [0])
    (s.ctl.outq.any fun e => e.kind == .notice (.scanDone 0) && e.payload == [0, 2] ++ leBytes 6 384 ++ leBytes 6 384)
      ∧ s.ctl.waits 0 = none := by decide +kernel

/-! ## Ports and links (files 03, 06, 07, 08) -/

/-- C4, C6 and C1 wait and C3 was granted last: a freed slab goes to C4 (file 03's example). -/
theorem test_waitList :
    let c := { ((c0.setWait 1 (some .source)).setWait 4 (some .scan)).setWait 6 (some .source) with lastGranted := 3 }
    (c.nextWaiting, { c.setWait 4 none with lastGranted := 4 }.nextWaiting) = (some 4, some 6) := by decide +kernel

/-- A slab filled when the counter holds 1,041 is stamped 1,041 (file 03's example). -/
theorem test_fillSeq :
    let c := { withJob .running with fillSeq := 1041 }
    let t := c.fillSlab 0 90 (file 0 .reading)
    (t.slab 90).fillSeq = 1041 ∧ t.fillSeq = 1042 ∧ t.digest.fifo = [90] ∧ (t.drive 1).writeQueue = [90] := by
  decide +kernel

/-- A first high sample, then the one that reaches N = 6 (R116, R118). -/
theorem test_card_presence :
    let s := after (.cardInsertionBegin 2) (st c0)
    let c := s.ctl.modCard 2 fun p => { p with highRun := 5, link := { cond := .idle, seq := 255 } }
    let t := after (.cardSettled 2) (st c)
    (s.ctl.card 2).state = .settling ∧ (t.ctl.card 2).state = .identifying ∧ (t.ctl.card 2).link.seq = 0 := by
  decide +kernel

/-- A supply that fails and is valid again within the millisecond of a PART_RESET leaves the millisecond to run (R187). -/
theorem test_supply_in_part_reset :
    let pins : StrapPins := { rate0 := false, rate1 := false, deb0 := false, deb1 := false }
    let s := after .frameSent { st c0 with tx := some { bytes := [], resetAfter := true } }
    let t := after (.supplyValid pins) (after .supplyFail s)
    t.inReset = true ∧ (after (.partResetTimerExpiry pins) t).inReset = false ∧ t.resetCtl.cause = .powerOn := by
  decide +kernel

/-- The eighth low sample of file 06's example: EMPTY, grade 0, job HELD with CARD_GONE pending, the READ abandoned. -/
theorem test_cardRemoval :
    let c := (withFiles (withJob .running) .reading .queued).raiseSource 0
    let c := { c.modCard 0 fun p => { p with lowRun := 7, grade := 1 } with debounce := 8 }
    let s := after (.cardRemoval 0) (st c)
    (s.ctl.card 0).state = .empty ∧ (s.ctl.card 0).grade = 0 ∧ (s.ctl.card 0).link.cond = .resetting
      ∧ (s.ctl.job 0).state = .held ∧ (s.ctl.job 0).holds.cardGone = some .pending
      ∧ (s.ctl.slab 0).state = .free := by decide +kernel

/-- A drive attaches and settles (R135, R137). -/
theorem test_drive_presence :
    let s := after (.driveAttachBegin 3) (st c0)
    let t := after (.driveSettled 3) (st (s.ctl.modDrive 3 fun p => { p with highRun := 5 }))
    (s.ctl.drive 3).state = .settling ∧ (t.ctl.drive 3).state = .identifying ∧ (t.ctl.drive 3).attempts = 1
      ∧ ((after (.linkResetExpiry (.drive 3)) t).ctl.drive 3).link.carries .identify = true := by decide +kernel

/-- A drive absent from READY is dropped from a job that drops (R136, R13). -/
theorem test_driveAbsence :
    let c := (withJob .running).modDrive 0 fun p => { p with lowRun := 5 }
    let s := after (.driveAbsence 0) (st c)
    (s.ctl.drive 0).state = .absent ∧ (s.ctl.drive 0).capacity = 0
      ∧ ((s.ctl.job 0).dests.map (·.live)) = [false, true] := by decide +kernel

/-- A sample short of N moves the runs alone (R116). -/
theorem test_presentSample :
    let s := after (.presentSample (.card 0) false) (st up)
    (s.ctl.card 0).state = .ready ∧ (s.ctl.card 0).lowRun = 1 := by decide +kernel

/-- Port 0 reads its file's span: sequence 41 in flight (file 08's first example, at its own numbers). -/
def reading : Ctl := (withFiles (withJob .running) .reading .queued).raiseSource 0

/-- 1,000 ms with no status: TIMEOUT, one failed attempt, and 42 is sent (file 08's example). -/
theorem test_linkTimeout :
    let s := after (.linkTimeout (.card 0)) (st reading)
    (s.ctl.card 0).attemptsAtGrade = 1 ∧ ((s.ctl.card 0).link.flight.map (·.seq)) = some 42 := by decide +kernel

/-- The third failed attempt at grade 0 steps to grade 1 (file 06's example). -/
theorem test_ladder :
    let c := reading.modCard 0 fun p => { p with attemptsAtGrade := 2 }
    let s := after (.statusRecordReceived (.card 0) 41 3 none (crc16 [41, 3])) (st c)
    (s.ctl.card 0).grade = 1 ∧ (s.ctl.card 0).attemptsAtGrade = 0
      ∧ ((s.ctl.card 0).link.flight.map fun f => (f.seq, f.grade)) = some (42, 1) := by decide +kernel

/-- The late status of 41 is discarded while 42 is in flight (file 08's example). -/
theorem test_stale_status :
    let s := after (.linkTimeout (.card 0)) (st reading)
    ((after (.statusRecordReceived (.card 0) 41 0 none (crc16 [41, 0])) s).ctl.card 0).link.flight.map (·.seq)
      = some 42 := by decide +kernel

/-- The first block of the READ goes to the slab's first bytes; one whose check is wrong is placed and remembered
(R160). -/
theorem test_dataBlock :
    let s := after (.dataBlockReceived (.card 0) 41 [0x5A, 0x00, 0x5C] 0) (st reading)
    s.dram = [(0, 0x5A), (2, 0x5C)]
      ∧ ((s.ctl.card 0).link.flight.map fun f => (f.blocks, f.checkFailed)) = some (1, true) := by
  decide +kernel

/-- D3 of file 08's example: the third failed attempt is a TIMEOUT of a WRITE, and the port is LOST. -/
theorem test_driveLost :
    let w : Flight := { kind := .write, seq := 202, start := 0, count := 128, grade := 0, blocks := 0,
                        checkFailed := false, period := 4000 }
    let c := c0.modDrive 3 fun p => { p with
      state := .ready, failed := 2, writing := some { slab := 5, next := 0 }, link := { cond := .inFlight w, seq := 202 } }
    let s := after (.linkTimeout (.drive 3)) (st c)
    (s.ctl.drive 3).state = .lost ∧ (s.ctl.drive 3).loss = some { kind := .write, outcome := .timeout }
      ∧ (s.ctl.drive 3).link.cond = .resetting := by decide +kernel

/-- A WRITE of two blocks from slab 5 by D0, of file 0, job 0 RUNNING under READBACK, its digest done; the sequence number
is 40. Blocks sent are two (R155). -/
def writing : Ctl :=
  let w : Flight := { kind := .write, seq := 40, start := 0, count := 2, grade := 0, blocks := 2, checkFailed := false,
                      period := 4000 }
  let c := ((withFiles (withJob .running) .draining .queued).modJob 0 fun j => { j with verify := .readback }).modSlab 5
    fun x => { x with
      state := .filled, purpose := .source, job := some 0, file := some { job := 0, num := 0 }, len := 1000
      pendingWrites := noDrives.set 0 true, inFlight := noDrives.set 0 true, digested := true }
  c.modDrive 0 fun p => { p with
    writing := some { slab := 5, next := 0 }, link := { cond := .inFlight w, seq := 40 } }

/-- GOOD on its last block: bytes written rise, the result is WRITTEN, the slab is released and the read-back begins
(R49, R69, R98, R99). -/
theorem test_writeGood :
    let t := (after (.statusRecordReceived (.drive 0) 40 0 none (crc16 [40, 0])) (st writing)).ctl
    (t.files.map fun f => f.dests.map fun e => (e.bytesWritten, e.result)) =
        [[(1000, .written), (0, .pending)], [(0, .pending), (0, .pending)]]
      ∧ (t.slab 5).state = .free ∧ (t.job 0).released = 1 ∧ (t.slab 508).state = .filling
      ∧ (t.drive 0).link.carries .read = true := by decide +kernel

/-- PROTECTED: the result is WRITE_FAILED (R50, R150). -/
theorem test_writeProtected :
    let t := (after (.statusRecordReceived (.drive 0) 40 4 none (crc16 [40, 4])) (st writing)).ctl
    (t.files.map fun f => f.dests.map (·.result)) = [[.writeFailed, .pending], [.pending, .pending]]
      ∧ (t.slab 5).state = .free ∧ (t.drive 0).writing = none := by decide +kernel

/-- The source of file 0 fails while D0, which reads a copy back, is between two WRITEs of slab 5, and D1 has an entry of it:
no entry stays, and the slab is released once (R47, R152, R79). -/
theorem test_sourceFailsBetweenWrites :
    let flight := fun (k : TxnKind) => ({
      kind := k, seq := 40, start := 0, count := 1, grade := 0, blocks := 0, checkFailed := false, period := 4000 } : Flight)
    let link := fun k => ({ cond := .inFlight (flight k), seq := 40 } : Link)
    let c := reading.modSlab 5 fun x => { x with
      state := .filled, purpose := .source, job := some 0, file := some { job := 0, num := 0 }, len := 1000
      pendingWrites := (noDrives.set 0 true).set 1 true, inFlight := noDrives.set 0 true, digested := true }
    let c := (c.modDrive 0 fun p => { p with writing := some { slab := 5, next := 1 }, link := link .read }).modDrive 1
      fun p => { p with writeQueue := [5], link := link .write }
    let t := (after (.statusRecordReceived (.card 0) 41 1 none (crc16 [41, 1])) (st c)).ctl
    (t.drive 1).writeQueue = [] ∧ (t.drive 1).staged = none ∧ (t.drive 0).writing = none ∧ (t.job 0).released = 1
      ∧ (t.file? { job := 0, num := 0 }) = none := by decide +kernel

/-- The unit takes a slab of the six-byte file and ends with the digest 6, 10 (file 04's first case). -/
def digesting : State :=
  let f := { file 0 .draining with len := 6, readOffset := 6 }
  let c := { withJob .running with files := [f], nextFile := 1 }.modSlab 3 fun x => { x with
    state := .filled, purpose := .source, job := some 0, file := some { job := 0, num := 0 }, len := 6 }
  { st { c with digest := { c.digest with fifo := [3] } } with
    dram := [(3 * 65536, 1), (3 * 65536 + 2, 2), (3 * 65536 + 4, 3)] }

theorem test_digest_unit :
    let s := after .digestStart digesting
    let t := after .digestComputationEnd s
    (s.ctl.digest.busy, s.ctl.digest.m, s.ctl.digest.t, s.ctl.digest.fifo) = (some 3, 3, 0, [])
      ∧ (t.ctl.files.map fun f => (f.acc, f.result)) = [({ a := 6, b := 10, words := 3 }, .good)]
      ∧ t.ctl.digest.busy = none := by decide +kernel

/-- The read-back of that file on D0 ends with the same digest, and the copy is VERIFIED (R101, R104). -/
def verifying : State :=
  let e := fun (d : DriveNo) =>
    ({ port := d, extents := [{ start := 0, count := 1 }], bytesWritten := 6, verA := 0, verB := 0, stored := false,
       result := .written } : FileDest)
  let r : FileRef := { job := 0, num := 0 }
  let f := { file 0 .draining with
    len := 6, readOffset := 6, result := .good, acc := { a := 6, b := 10, words := 3 }, dests := [e 0, e 1] }
  let k : Context := { file := r, nextOffset := 6, span := some { offset := 0, len := 6 }, nextBlock := 1,
                       acc := { a := 0, b := 0, words := 0 } }
  let c := ({ withJob .running with files := [f], nextFile := 1 }.modJob 0 fun j => { j with verify := .readback }
    ).modSlab 508 fun x => { x with
      state := .filled, purpose := .verify, port := some (.drive 0), file := some r, len := 6 }
  let c := c.modDrive 0 fun p => { p with context := some k }
  { st { c with digest := { c.digest with fifo := [508] } } with
    dram := [(508 * 65536, 1), (508 * 65536 + 2, 2), (508 * 65536 + 4, 3)] }

theorem test_verify_digest :
    let t := after .digestComputationEnd (after .digestStart verifying)
    (t.ctl.files.map fun f => f.dests.map fun e => (e.result, e.verA, e.verB)) = [[(.verified, 6, 10), (.written, 0, 0)]]
      ∧ (t.ctl.drive 0).context = none ∧ (t.ctl.slab 508).state = .free := by decide +kernel

/-- A blinking lamp toggles; TRANSMIT_START sends READY first after a reset (R112, R189). -/
theorem test_lamp_and_transmit :
    ((after (.lampBlinkToggle 0) (st (c0.modCard 0 fun p => { p with pattern := .redBlink }))).ctl.card 0).lit = false
      ∧ (after .transmitStart (st c0)).tx = some { bytes := frameBytes 0xC0 0 [0, 0, 6], resetAfter := false } := by
  decide +kernel

/-! ## States that meet the statements' hypotheses

One theorem per statement that has any, with each clause at a boundary of its range. -/

/-- Two facts of the head of the buffer make a request taken. -/
theorem takes_ask (c : Ctl) (k : MsgKind) (p : List Byte) (h : c.replyCount < 8) : (ask c k p).Takes k (req k p) :=
  ⟨rfl, rfl, h, rfl, rfl⟩

theorem takes_up (k : MsgKind) (p : List Byte) : (ask up k p).Takes k (req k p) := takes_ask _ _ _ (by decide +kernel)

theorem takes_job (x : JobState) (k : MsgKind) (p : List Byte) : (ask (withJob x) k p).Takes k (req k p) :=
  takes_ask _ _ _ (by revert x; intro x; cases x <;> decide +kernel)

theorem slab_free (x : SlabNo) : c0.slab x = Slab.freeValues := by
  show (Vector.replicate 512 Slab.freeValues)[x] = _
  simp

theorem witness_StepRunsTheFrontCommand :
    ({ st c0 with pending := [.ident, .partReset] } : State).pending = .ident :: [.partReset]
      ∧ (st c0).pending = [] ∧ ∃ t, exec .digestStart { st c0 with pending := [.ident] } = .next t := ⟨rfl, rfl, _, rfl⟩

theorem witness_OnlyDataBlocksWriteMemory :
    (∀ p q d k, Instr.resetPinAssert ≠ .dataBlockReceived p q d k)
      ∧ ∃ t, exec .resetPinAssert { st c0 with dram := [(3, 1)] } = .next t :=
  by
  refine ⟨fun _ _ _ _ h => ?_, _, rfl⟩
  cases h

/-- A job with two files about to start, over a memory with one byte: the five invariants hold and a step is taken. -/
def starting : State :=
  { ask (withFiles (withJob .opened) .queued .queued) .jobStart [0] with pending := [.jobStart], dram := [(7, 1)] }

/-- For DramFormKept, and for every invariant: a step that answers a next state. -/
theorem witness_invariants_step : (∃ t, step starting = .next t) ∧ starting.dramCanonical = true := by
  refine ⟨⟨_, rfl⟩, by decide +kernel⟩

theorem witness_OutputLimitsKept : OutputLimits starting.ctl.outq := by
  unfold OutputLimits
  refine ⟨by decide +kernel, by decide +kernel, by decide +kernel, by decide +kernel, ?_, by decide +kernel,
    by decide +kernel⟩
  intro p
  cases p with
  | card n => revert n; decide +kernel
  | drive d => revert d; decide +kernel

/-- For FileNamesStayDistinct. -/
theorem witness_FileNamesFresh : starting.ctl.FileNamesFresh := by
  unfold Ctl.FileNamesFresh
  decide +kernel

theorem witness_SlabUseStaysApart : starting.ctl.SlabUseKept := by
  have hs : ∀ x, starting.ctl.slab x = Slab.freeValues := slab_free
  have hr : ∀ n, (starting.ctl.card n).reader = none := by decide +kernel
  have hx : ∀ n, (starting.ctl.card n).scan.slab = none := by decide +kernel
  refine ⟨fun x h => ?_, fun x h => ?_, fun n r h => ?_, fun n x h => ?_⟩
  · rw [hs] at h; cases h
  · rw [hs] at h; rcases h with h | h <;> cases h
  · rw [hr] at h; cases h
  · rw [hx] at h; cases h

/-- A pool with every slab FREE, and one with none and a port that waits. -/
theorem witness_PoolIsSharedByTheRules :
    let full := { up with slabs := Vector.replicate 512 { Slab.freeValues with state := .filled } }.setWait 3 (some .scan)
    starting.ctl.PoolShared ∧ full.PoolShared ∧ full.waits 3 = some .scan := by
  have hs : ∀ x, starting.ctl.slab x = Slab.freeValues := slab_free
  have hf : ∀ x : SlabNo, ({ up with slabs := Vector.replicate 512 { Slab.freeValues with state := .filled } }.setWait 3
      (some .scan)).slab x = { Slab.freeValues with state := .filled } := fun x => by
    show (Vector.replicate 512 { Slab.freeValues with state := .filled })[x] = _
    simp
  refine ⟨⟨fun x _ => by rw [hs]; rfl, fun _ _ _ => by decide +kernel, by decide +kernel⟩,
    ⟨fun x h => ?_, fun x _ h => ?_, by decide +kernel⟩, by decide +kernel⟩
  · rw [hf] at h; cases h
  · rw [hf] at h; cases h

theorem witness_CardsAreNeverWritten : starting.ctl.CardLinksOnlyRead := by
  unfold Ctl.CardLinksOnlyRead
  decide +kernel

theorem witness_SpeedGradeNeverRises :
    let s : State := { st up with pending := [.presentSample (.card 0) false] }
    ∃ t, step s = .next t ∧ (s.ctl.card 0).state ≠ .empty ∧ (t.ctl.card 0).state ≠ .empty :=
  ⟨_, rfl, by decide +kernel, by decide +kernel⟩

/-- A close that ends a job, clean and not. -/
theorem witness_ClearedOnlyAtACompleteEnd :
    let s : State := { ask (withJob .running) .jobClose [0] with pending := [.jobClose] }
    (∃ t, step s = .next t ∧ (s.ctl.card 0).cleared = false ∧ (t.ctl.card 0).cleared = true)
      ∧ ∃ t, step { s with ctl := s.ctl.modJob 0 fun j => { j with clean := false } } = .next t
        ∧ (s.ctl.job 0).state ≠ .ended ∧ (t.ctl.job 0).state = .ended ∧ (t.ctl.job 0).clean = false
        ∧ (t.ctl.card 0).unclean = true := by
  refine ⟨⟨_, rfl, ?_⟩, _, rfl, ?_⟩ <;> decide +kernel

/-- FILE_ADD of an empty file to an OPEN job: a file joins. -/
theorem witness_FilesLeaveFromTheHead :
    let c := withFiles (withJob .opened) .queued .queued
    let s : State := { ask c .fileAdd [0, 9, 0, 0, 0, 0, 0, 0, 0, 0, 0, 0, 0] with pending := [.fileAdd] }
    (∃ t, step s = .next t ∧ ((t.ctl.queue 0).map (·.ref.num)) = [0, 1, 2]) ∧ (s.ctl.files.map (·.ref)).Nodup
      ∧ s.ctl.nextFile = 2 := ⟨⟨_, rfl, by decide +kernel⟩, by decide +kernel, by decide +kernel⟩

/-- The digest's end makes the only file of a RUNNING job COMPLETE, D0 WRITTEN under OFF and D1 failed: with clearance 1 it
retires GOOD and the mark stands, with clearance 2 SHORT and the mark becomes no (R53, R54, R56, R106). -/
theorem witness_Retires : ∀ k : Fin 2,
    let s := digesting
    let results := fun (f : FileRec) =>
      { f with dests := f.dests.map fun e => { e with result := if e.port = 0 then .written else .writeFailed } }
    let c := { s.ctl with files := s.ctl.files.map results }
    let s := after .digestStart { s with ctl := c.modJob 0 fun j => { j with clearance := k.val + 1 } }
    ∃ t, step { s with pending := [.digestComputationEnd] } = .next t ∧ (s.ctl.job 0).clean = true
      ∧ (s.ctl.job 0).state = .running ∧ (t.ctl.job 0).state = .running
      ∧ s.ctl.queue 0 ≠ [] ∧ t.ctl.queue 0 = [] ∧ (t.ctl.job 0).retired = 1 ∧ (t.ctl.job 0).clean = decide (k = 0)
      ∧ (t.ctl.outq.filter OutEntry.isFileDone).map (fun e => e.payload.getD 10 9) = [if k = 0 then 0 else 1] := by
  refine fun k => ⟨_, rfl, ?_⟩; revert k; decide +kernel

/-- A head that is COMPLETE, with room and without, one that is not, and no head. -/
theorem witness_testRetire :
    let c := withFiles (withJob .running) (.complete .short) .draining
    let full := { c with outq := List.replicate 16 { kind := .notice (.fileDone 3), tag := 0, payload := [] } }
    (c.queue 0).map (·.state) = [.complete .short, .draining] ∧ c.fileDoneCount < 16 ∧ 16 ≤ full.fileDoneCount
      ∧ ((withFiles (withJob .running) .draining .queued).queue 0).map (·.isComplete) = [false, false] ∧ c.queue 1 = []
      ∧ (c.files.map (·.ref)).Nodup := by decide +kernel

theorem witness_DigestDoesNotDependOnFoldOrder :
    [([3], 0), ([1, 2], 1)].Perm (withTrailers [[1, 2], [3]]) := by decide

/-- A slab at the FIFO's head with its file, as a source slab and as the verify slab of D0; a busy unit. -/
theorem witness_DigestStartTakesTheHead :
    let r : FileRef := { job := 0, num := 0 }
    let v := (digesting.ctl.modSlab 3 fun s => { s with purpose := .verify, port := some (.drive 0) })
    (digesting.inReset = false ∧ digesting.ctl.digest.busy = none ∧ digesting.ctl.digest.fifo = [3]
      ∧ (digesting.ctl.slab 3).file = some r ∧ (digesting.ctl.file? r).isSome = true
      ∧ (digesting.ctl.slab 3).purpose = .source)
      ∧ ((v.slab 3).purpose = .verify ∧ (v.slab 3).port = some (.drive 0) ∧ (v.slab 3).file = some r)
      ∧ (after .digestStart digesting).ctl.digest.busy ≠ none ∧ (st c0).ctl.digest.fifo = [] := by decide +kernel

/-- A source computation that reaches W, one word short of W, past W on a PENDING and on a GOOD source, on a FAILED source,
and with the discard mark. -/
theorem witness_SourceFoldIsAppliedRefusedOrDiscarded :
    let r : FileRef := { job := 0, num := 0 }
    let s := after .digestStart digesting
    let m := s.ctl.digest.m
    let is := fun (g : FileRec → FileRec) (p : FileRec → Bool) => ((s.ctl.modFile r g).file? r).any p
    let words := fun (f : FileRec) => (f.len + 1) / 2
    s.inReset = false ∧ s.ctl.digest.busy = some 3 ∧ s.ctl.digest.target = some (.source r)
      ∧ (s.ctl.job r.job).state ≠ .stopping ∧ (s.ctl.files.map (·.ref)) = [r] ∧ s.ctl.nextFile = 1
      ∧ s.ctl.digest.discard = false
      ∧ is id (fun f => f.result == .pending && f.acc.words + m == words f) = true
      ∧ is (fun f => { f with len := 7 }) (fun f => f.result == .pending && decide (f.acc.words + m < words f)) = true
      ∧ is (fun f => { f with acc := { f.acc with words := 1 } })
          (fun f => f.result == .pending && f.state != .queued && decide (words f < f.acc.words + m)) = true
      ∧ is (fun f => { f with result := .good, acc := { f.acc with words := 1 } })
          (fun f => f.result == .good && decide (words f < f.acc.words + m)) = true
      ∧ is (fun f => { f with result := .failed }) (fun f => f.result == .failed) = true
      ∧ (s.ctl.modDigest fun u => { u with discard := true }).digest.discard = true := by decide +kernel

/-- A verify computation that reaches W, one word short of W, past W, and with the discard mark. -/
theorem witness_VerifyFoldIsAppliedRefusedOrDiscarded :
    let s := after .digestStart verifying
    let words := fun (k : Nat) (l : Nat) =>
      let c := (s.ctl.modFile { job := 0, num := 0 } fun f => { f with len := l }).modDrive 0 fun p =>
        { p with context := p.context.map fun x => { x with acc := { x.acc with words := k } } }
      (c.drive 0).context.bind fun x => (c.file? x.file).map fun f => (x.acc.words + c.digest.m, (f.len + 1) / 2)
    s.inReset = false ∧ s.ctl.digest.busy = some 508 ∧ s.ctl.digest.target = some (.verify 0)
      ∧ (s.ctl.files.map (·.ref)).Nodup ∧ s.ctl.nextFile = 1 ∧ s.ctl.digest.discard = false
      ∧ (s.ctl.drive 0).verifyQueue = [] ∧ words 0 6 = some (3, 3) ∧ words 0 7 = some (3, 4) ∧ words 1 6 = some (4, 3)
      ∧ (s.ctl.modDigest fun u => { u with discard := true }).digest.discard = true := by decide +kernel

/-- A GOOD file with one stored WRITTEN copy of two, clearance 1 against 1 and against 2 good copies needed. -/
theorem witness_DigestsAndCopiesDecideTheOutcome :
    let e := fun (d : DriveNo) (x : DestResult) (b : Bool) =>
      ({ port := d, extents := [], bytesWritten := 0, verA := 0, verB := 0, stored := b, result := x } : FileDest)
    let f := { file 0 .draining with result := .good, dests := [e 0 .written true, e 1 .verified false] }
    let j := fun k => { (withJob .running).job 0 with verify := .readback, clearance := k }
    f.result = .good ∧ (f.dests[0].result = .written ∧ f.dests[0].stored = true) ∧ f.dests[1].stored = false
      ∧ (j 1).clearance ≤ f.goodCopies .readback ∧ f.goodCopies .readback < (j 2).clearance
      ∧ (file 0 .draining).result ≠ .good ∧ { f with result := .failed }.result = .failed := by decide +kernel

/-- A file whose results are all final, under OFF and not under READBACK, and the outcome it is given behind an unfinished
head; a file that is COMPLETE; a name that is no file's. -/
theorem witness_testComplete :
    let f := { file 1 .draining with
      result := .good, dests := (file 1 .draining).dests.map fun e => { e with result := .written } }
    let c := { withJob .running with files := [file 0 .draining, f], nextFile := 2 }
    c.file? f.ref = some f ∧ f.isComplete = false ∧ f.result ≠ .pending
      ∧ (∀ e ∈ f.dests, e.result ≠ .pending ∧ e.result = .written) ∧ (c.job 0).verify = .off
      ∧ ((c.testComplete f.ref).queue 0).map (·.state) = [.draining, .complete .good]
      ∧ (file 0 (.complete .good)).isComplete = true ∧ (c.file? { job := 0, num := 5 }).isNone = true
      ∧ (c.files.map (·.ref)).Nodup := by decide +kernel

/-- A receiver in HUNT, the longest payload, and a buffer with one place left and with none. -/
theorem witness_FrameBytesAreReceivedWhole :
    (st c0).inReset = false ∧ (st c0).rx = .hunt ∧ (List.replicate 480 (0 : Byte)).length ≤ 480
      ∧ ({ st c0 with inbuf := List.replicate 3 (req .ident []) } : State).inbuf.length < 4
      ∧ 4 ≤ ({ st c0 with inbuf := List.replicate 4 (req .ident []) } : State).inbuf.length := by decide +kernel

/-- Wrong check bytes, LEN 481, a byte other than 0xA5, a phase of each kind from LENGTH on; the notice disabled, enabled
and waiting. -/
theorem witness_DamagedFramesAreDiscarded :
    let off := { c0 with notices := { c0.notices with linkFault := false } }
    ([0, 0] : List Byte) ≠ crcBytes (crc16 (leBytes 2 0 ++ [0x01, 7] ++ [])) ∧ 480 < (0xE1 : Byte).toNat + 256 * (1 : Byte).toNat
      ∧ (0x01 : Byte) ≠ 0xA5 ∧ (∀ r ∈ [RxPhase.length [], .header 1 [1, 0], .payload 1 [1, 0, 1, 7], .check 0 [0, 0, 1, 7]], r ≠ .hunt)
      ∧ off.notices.linkFault = false ∧ c0.notices.linkFault = true
      ∧ (c0.outq.any fun e => e.kind == .notice .linkFault) = false
      ∧ ((c0.lineFault .gap).outq.any fun e => e.kind == .notice .linkFault) = true := by decide +kernel

/-- READY, a LINK_FAULT and a FILE_DONE at the head; no line free, no entry. -/
theorem witness_TransmitterSendsTheHead :
    let entry := fun x => ({ kind := .notice x, tag := 0, payload := [] } : OutEntry)
    (st c0).tx = none ∧ (st c0).ctl.outq = [{ kind := .notice .ready, tag := 0, payload := [0, 0, 6] }]
      ∧ (entry .linkFault).kind = .notice .linkFault
      ∧ ((entry (.fileDone 0)).isFileDone = true ∧ ∀ n : CardNo, c0.fileDoneWaiting[n] = false)
      ∧ (after .transmitStart (st c0)).tx ≠ none ∧ (after .transmitStart (st c0)).ctl.outq = [] := by decide +kernel

/-- Sixteen FILE_DONE entries, job 0 waiting with a COMPLETE head, the turn at job 0's own number, so that job 0 comes last
round; a job STOPPING with its last file and nothing under way, and one RUNNING, closed, with its last file. -/
theorem witness_FileDoneRoomGoesRoundTheJobs :
    let c := fun (x : JobState) => { (withFiles (withJob x) (.complete .good) (.complete .good)).setFileDoneWaiting 0 true with
      outq := List.replicate 16 { kind := .notice (.fileDone 3), tag := 0, payload := [] }, fileDoneTurn := 0 }
    let last := fun (x : JobState) =>
      { (c x).modJob 0 fun j => { j with closed := true } with files := [file 1 (.complete .good)] }
    (c .suspending).fileDoneCount = 16 ∧ (c .suspending).fileDoneWaiting[(0 : CardNo)] = true
      ∧ (∀ j : CardNo, (j - 0 - 1).val < (0 - 0 - 1 : CardNo).val → (c .suspending).fileDoneWaiting[j] = false)
      ∧ ((c .suspending).queue 0).map (·.state) = [.complete .good, .complete .good]
      ∧ ((c .suspending).files.map (·.ref)).Nodup ∧ ((last .stopping).job 0).state = .stopping
      ∧ ((last .stopping).queue 0).map (·.state) = [.complete .good] ∧ (last .stopping).txnOf 0 = false
      ∧ (last .stopping).digestOf 0 = false ∧ (∀ d, ((last .stopping).drive d).writeQueue = []
          ∧ ((last .stopping).drive d).staged = none)
      ∧ ((last .running).job 0).closed = true ∧ ((last .running).sourceCount 0 == 0) = true := by decide +kernel

/-- The room of a sent FILE_DONE retires a SHORT and an ABANDONED file, and a GOOD one after a clean and an unclean mark
(R106). -/
theorem witness_cleanMark :
    let mark := fun (o : FileOutcome) (b : Bool) =>
      let c := { ((withFiles (withJob .running) (.complete o) .draining).setFileDoneWaiting 0 true).modJob 0
          (fun j => { j with clean := b }) with
        outq := List.replicate 16 { kind := .notice (.fileDone 3), tag := 0, payload := [] } }
      let j := (after .transmitStart (st c)).ctl.job 0
      (j.retired, j.clean)
    mark .short true = (1, false) ∧ mark .abandoned true = (1, false) ∧ mark .good true = (1, true)
      ∧ mark .good false = (1, false) := by decide +kernel

theorem witness_ResetsBeginAndEnd :
    let a := after .resetPinAssert (st c0)
    let b := after .supplyFail (st c0)
    let t := after .frameSent { st c0 with tx := some { bytes := [], resetAfter := true } }
    let two := after .supplyFail a
    ((st c0).resetCtl.pinLow = false ∧ (st c0).resetCtl.supplyBad = false ∧ (st c0).resetCtl.timer = false)
      ∧ ((st c0).inReset = false ∧ (st c0).tx = none)
      ∧ (a.resetCtl.pinLow = true ∧ a.resetCtl.supplyBad = false ∧ a.resetCtl.timer = false)
      ∧ (b.resetCtl.pinLow = false ∧ b.resetCtl.supplyBad = true ∧ b.resetCtl.timer = false)
      ∧ (t.resetCtl.pinLow = false ∧ t.resetCtl.supplyBad = false ∧ t.resetCtl.timer = true)
      ∧ (two.resetCtl.pinLow = true ∧ two.resetCtl.supplyBad = true)
      ∧ ((after .supplyFail t).resetCtl.supplyBad = true ∧ (after .supplyFail t).resetCtl.timer = true) := by decide +kernel

/-- KIND 0x00 and 0x13 name no request, 0x01 and 0x12 do; a stopped handler, eight replies, an empty buffer, a reset. -/
theorem witness_framesTaken :
    (ask c0 .scanStop [0]).inbuf.head? = some (req .scanStop [0]) ∧ (req .scanStop [0]).kind.toNat = 0x12
      ∧ 0x12 < (0x13 : Byte).toNat ∧ (req .ident []).kind.toNat = 1
      ∧ (after .partReset (ask c0 .partReset [])).handlerStopped = true
      ∧ 8 ≤ { c0 with outq := List.replicate 8 { kind := .done 1, tag := 0, payload := [] } }.replyCount
      ∧ (st c0).inbuf = [] ∧ (after .supplyFail (st c0)).inReset = true ∧ requestKind .ident ≠ none := by decide +kernel

/-- For IdentReportsThePart and the other requests without operands. -/
theorem witness_requests_without_operands :
    (ask up .ident []).Takes .ident (req .ident []) ∧ (ask up .ident [1]).Takes .ident (req .ident [1])
      ∧ (ask up .partReset []).Takes .partReset (req .partReset [])
      ∧ (ask up .partReset [1]).Takes .partReset (req .partReset [1]) :=
  ⟨takes_up _ _, takes_up _ _, takes_up _ _, takes_up _ _⟩

/-- A close that ends a job and a drive that goes, notices enabled; a counter one short of a multiple of 2^1, with PROGRESS
waiting and not. -/
theorem witness_NoticesFollowTheChanges :
    let s := ask (withJob .running) .jobClose [0]
    let d := st ((withJob .running).modDrive 0 fun p => { p with lowRun := 5 })
    let c := { (withJob .running).modJob 0 fun j => { j with released := 1 } with notices := { c0.notices with step := 1 } }
    (∃ t, exec .jobClose s = .next t ∧ t.inReset = false ∧ (s.ctl.job 0).state ≠ (t.ctl.job 0).state
        ∧ ((s.ctl.card 0).cleared ≠ (t.ctl.card 0).cleared) ∧ ∃ e ∈ t.ctl.outq, e ∉ s.ctl.outq ∧ e.kind = .notice (.jobState 0))
      ∧ (∃ t, exec (.driveAbsence 0) d = .next t ∧ (d.ctl.drive 0).state ≠ (t.ctl.drive 0).state)
      ∧ s.inReset = false ∧ s.ctl.notices.jobState = true ∧ s.ctl.notices.portEvent = true
      ∧ (0 < c.notices.step ∧ ((c.job 0).released + 1) % 2 ^ 32 % 2 ^ c.notices.step = 0)
      ∧ (c.outq.any fun e => e.kind == .notice (.progress 0)) = false
      ∧ ((c.pushNotice (.progress 0) []).outq.any fun e => e.kind == .notice (.progress 0)) = true
      ∧ (c.job 0).state ≠ .free := by
  refine ⟨⟨_, rfl, ?_⟩, ⟨_, rfl, ?_⟩, ?_⟩ <;> decide +kernel

/-- Steps 8 and 9, no setting and two; an even length. -/
theorem witness_NoticeSetTakesTheLastSettings :
    (ask up .noticeSet [9, 0xC1, 0, 0xC1, 1]).Takes .noticeSet (req .noticeSet [9, 0xC1, 0, 0xC1, 1])
      ∧ (req .noticeSet [9, 0xC1, 0, 0xC1, 1]).payload
          = 9 :: (([(0xC1, 0), (0xC1, 1)] : List (Byte × Byte)).map fun p => [p.1, p.2]).flatten
      ∧ (ask up .noticeSet [8]).Takes .noticeSet (req .noticeSet [8])
      ∧ (req .noticeSet []).payload.length % 2 = 0 := ⟨takes_up _ _, by decide, takes_up _ _, by decide⟩

/-- Ports 0, 7, 8, 11 and 12; job 7. -/
theorem witness_QueriesReportWithoutChange :
    (ask up .portQuery [12]).Takes .portQuery (req .portQuery [12]) ∧ 11 < (12 : Byte).toNat
      ∧ portCode (.card 0) = 0 ∧ portCode (.card 7) = 7 ∧ portCode (.drive 0) = 8 ∧ portCode (.drive 3) = 11
      ∧ (ask up .jobQuery [7]).Takes .jobQuery (req .jobQuery [7]) ∧ (7 : Byte).toNat = (7 : CardNo).val :=
  ⟨takes_up _ _, by decide, by decide, by decide, by decide, by decide, takes_up _ _, by decide⟩

/-- Lengths one short and one long; a request refused NO_JOB. -/
theorem witness_RefusedRequestsChangeNothing :
    let s := ask up .jobStart [0]
    (∀ p, (ask up .jobStart p).Takes .jobStart (req .jobStart p)) ∧ requestKind .jobStart = some .jobStart
      ∧ (req .jobStart []).payload.length ≠ 1 ∧ (req .jobStart [0, 0]).payload.length ≠ 1
      ∧ (ask up .jobSuspend [0]).Takes .jobSuspend (req .jobSuspend [0]) ∧ (req .jobSuspend [0]).payload.length ≠ 2
      ∧ ∃ t, exec .jobStart s = .next t
        ∧ (t.ctl.outq.getLast?.map fun e => (e.kind, e.payload)) = some (.refused 0x07, [0x07, Reason.noJob.code]) :=
  ⟨takes_up _, rfl, by decide, by decide, takes_up _ _, by decide, _, rfl, by decide +kernel⟩

/-- Ports 7 and 8, modes 1 and 2, patterns 5 and 6. -/
theorem witness_LampSetSetsModeAndPattern :
    (∀ p, (ask up .lampSet p).Takes .lampSet (req .lampSet p)) ∧ 7 < (8 : Byte).toNat ∧ 1 < (2 : Byte).toNat
      ∧ (7 : Byte).toNat = (7 : CardNo).val ∧ Pattern.green.code = 5 ∧ 5 < (6 : Byte).toNat :=
  ⟨takes_up _, by decide +kernel⟩

theorem witness_LampsShown :
    up.lampUpdate 0 |>.LampsShown := by
  unfold Ctl.LampsShown
  decide +kernel

theorem witness_LampsFollowTheTableAndBlink :
    (c0.card 0).state = .empty ∧ (up.card 0).state = .ready ∧ (up.card 0).cleared = false
      ∧ ((up.setMarks 0 true false false).card 0).cleared = true ∧ ((up.setMarks 0 false true false).card 0).residue = true
      ∧ ((withJob .running).job 0).state = .running ∧ ((withJob .ended).job 0).state = .ended
      ∧ (st c0).inReset = false ∧ (c0.card 0).pattern ≠ .redBlink
      ∧ ((c0.modCard 0 fun p => { p with pattern := .amberBlink }).card 0).pattern = .amberBlink := by decide +kernel

/-- Jobs 7 and 8; a FREE job and an ENDED one. -/
theorem witness_JobRequestsFollowTheAvailabilityTable :
    (ask up .jobStart [8]).Takes .jobStart (req .jobStart [8]) ∧ 7 < (8 : Byte).toNat
      ∧ availability .jobStart (up.job 7).state = some .noJob ∧ jobPayloadLength .jobStart = some 1
      ∧ (ask (withJob .ended) .jobStop [0]).Takes .jobStop (req .jobStop [0])
      ∧ availability .jobStop ((withJob .ended).job 0).state = some .wrongState :=
  ⟨takes_up _ _, by decide, by decide +kernel, rfl, takes_job _ _ _, by decide +kernel⟩

/-- Five ports, a clearance above the count, a busy slot, an EMPTY card, an ABSENT drive. -/
theorem witness_JobOpenChecksInOrder :
    (∀ p, (ask up .jobOpen p).Takes .jobOpen (req .jobOpen p)) ∧ 4 < (5 : Byte).toNat
      ∧ ((withJob .opened).job 0).state ≠ .free ∧ (up.job 0).state = .free ∧ (up.card 1).state ≠ .ready
      ∧ (up.card 0).state = .ready ∧ (up.drive 3).state ≠ .ready ∧ (up.drive 0).state = .ready :=
  ⟨takes_up _, by decide +kernel⟩

/-- Two destinations, clearance 2, quota field 7. -/
theorem witness_JobOpenFillsTheRecord :
    let p : List Byte := [0, 2, 1, 0, 0, 0, 2, 1, 7, 0, 1, 1]
    (ask up .jobOpen p).Takes .jobOpen (req .jobOpen p)
      ∧ p = BitVec.ofNat 8 (0 : CardNo).val :: BitVec.ofNat 8 ([1, 0] : List DriveNo).length
          :: (([1, 0] : List DriveNo).map fun d => BitVec.ofNat 8 d.val) ++ [0, 0]
          ++ [2, VerifyMode.readback.code, 7, Release.auto.code, GoneAction.hold.code, Release.host.code]
      ∧ ([1, 0] : List DriveNo).Nodup ∧ (up.job 0).state = .free ∧ (up.card 0).state = .ready
      ∧ ∀ d ∈ ([1, 0] : List DriveNo), (up.drive d).state = .ready :=
  ⟨takes_up _ _, by decide +kernel⟩

/-- An OPEN job without files, and one with two (PoolShared of it: witness_PoolIsSharedByTheRules). -/
theorem witness_JobStartRunsHoldsOrEnds :
    (ask (withJob .opened) .jobStart [0]).Takes .jobStart (req .jobStart [BitVec.ofNat 8 (0 : CardNo).val])
      ∧ ((withJob .opened).job 0).state = .opened ∧ ((withJob .opened).card 0).scan.phase = .none
      ∧ (((withJob .opened).modCard 0 fun p => { p with scan := { p.scan with phase := .ending } }).card 0).scan.phase
          ≠ .none
      ∧ (∀ d, ((withJob .opened).drive d).writeQueue = [] ∧ ((withJob .opened).drive d).staged = none)
      ∧ (let c := starting.ctl
         (c.job 0).holds.isEmpty = true ∧ 0 < (c.job 0).quota ∧ c.queue 0 = [file 0 .queued, file 1 .queued]
          ∧ 0 < (file 0 .queued).len ∧ (file 0 .queued).readOffset = 0
          ∧ (file 0 .queued).source = [{ start := 10, count := 2 }] ∧ (c.card 0).state = .ready
          ∧ (c.card 0).reader = none ∧ (c.card 0).link.cond = .idle ∧ (c.slab 0).state = .free ∧ c.waits 0 = none) :=
  ⟨takes_job _ _ _, by decide +kernel⟩

/-- A FILE_ADD of one block in one list each, with d destination lists. -/
def addOne (len : Nat) (start : Nat) (d : Nat) : FileAddReq where
  job := 0
  id := 100
  len := len
  source := (1, [{ start := start, count := 1 }])
  dests := List.replicate d (1, [{ start := 0, count := 1 }])

/-- A payload as laid out, with one extent in each list; the head alone does not parse. -/
theorem witness_FileAddLayout :
    (addOne 512 3 2).Fits ∧ parseFileAdd (addOne 512 3 2).payload = some (addOne 512 3 2)
      ∧ parseFileAdd ((addOne 512 3 2).payload.take 10) = none := by
  refine ⟨⟨by decide, by decide, ?_⟩, by decide +kernel, by decide +kernel⟩
  decide

/-- Each check of R37 in turn is the first that fails. -/
theorem witness_FileAddChecksInOrder :
    let c := withJob .opened
    (∀ p, (ask c .fileAdd p).Takes .fileAdd (req .fileAdd p)) ∧ parseFileAdd [0, 1] = none
      ∧ availability .fileAdd (c.job 0).state = none
      ∧ c.checkFile 0 (addOne 512 0 1) = some .badField
      ∧ (c.modJob 0 fun j => { j with closed := true }).checkFile 0 (addOne 512 0 2) = some .closed
      ∧ { c with files := [file 0 .queued] }.checkFile 0 (addOne 512 0 2) = some .duplicateId
      ∧ c.checkFile 0 (addOne 513 0 2) = some .extentMismatch
      ∧ c.checkFile 0 (addOne 512 4000000 2) = some .outOfRange
      ∧ c.checkFile 0 (addOne 512 3999999 2) = none
      ∧ { c with files := List.replicate 128 (file 1 .queued) }.checkFile 0 (addOne 512 0 2) = some .queueFull
      ∧ { c with files := List.replicate 512 { file 0 .queued with ref := { job := 1, num := 0 } } }.checkFile 0
          (addOne 512 0 2) = some .tableFull :=
  ⟨takes_job _ _, by decide +kernel⟩

/-- A file of one byte and one of none; no file in the queue of a RUNNING job, one READING, one QUEUED in an OPEN job. -/
theorem witness_FileAddTakesTheFile :
    let p : List Byte := [0, 200, 0, 0, 0, 1, 0, 0, 0, 0] ++ (List.replicate 3 ([1, 5, 0, 0, 0, 0, 0, 1, 0, 0, 0] : List Byte)).flatten
    let z : List Byte := [0, 200, 0, 0, 0, 0, 0, 0, 0, 0, 0, 0, 0]
    let busy := withFiles (withJob .running) .reading .queued
    let fits := fun (c : Ctl) (b : List Byte) (l : Nat) =>
      (parseFileAdd b).any fun q => decide (q.job.toNat = (0 : CardNo).val ∧ q.len = l) && (c.checkFile 0 q).isNone
    (∀ x b, (ask (withJob x) .fileAdd b).Takes .fileAdd (req .fileAdd b))
      ∧ fits (withJob .running) p 1 = true ∧ fits (withJob .running) z 0 = true ∧ fits busy p 1 = true
      ∧ fits (withJob .opened) p 1 = true ∧ availability .fileAdd ((withJob .running).job 0).state = none
      ∧ ((withJob .running).job 0).state ≠ .opened ∧ (withJob .running).files = []
      ∧ (busy.queue 0).map (·.state) = [.reading, .queued] ∧ (busy.files.map (·.ref)).Nodup ∧ busy.nextFile = 2 :=
  ⟨fun _ _ => takes_job _ _ _, by decide +kernel⟩

theorem witness_JobCloseClosesAndMayEnd :
    (∀ x, (ask (withJob x) .jobClose [0]).Takes .jobClose (req .jobClose [BitVec.ofNat 8 (0 : CardNo).val]))
      ∧ availability .jobClose ((withJob .running).job 0).state = none ∧ ((withJob .running).job 0).closed = false
      ∧ (withJob .running).queue 0 = [] ∧ ((withJob .running).sourceCount 0 == 0) = true
      ∧ availability .jobClose ((withJob .opened).job 0).state = none
      ∧ (((withJob .opened).modJob 0 fun j => { j with closed := true }).job 0).closed = true :=
  ⟨fun _ => takes_job _ _ _, by decide +kernel⟩

/-- Modes 0, 1 and 2; SUSPENDING with FINISH already in force. -/
theorem witness_JobSuspendSuspends :
    (∀ x b, (ask (withJob x) .jobSuspend [0, b]).Takes .jobSuspend (req .jobSuspend [BitVec.ofNat 8 (0 : CardNo).val, b]))
      ∧ availability .jobSuspend ((withJob .running).job 0).state = none
      ∧ availability .jobSuspend ((withJob .suspending).job 0).state = none ∧ 1 < (2 : Byte).toNat ∧ (1 : Byte).toNat ≤ 1
      ∧ (((withJob .suspending).modJob 0 fun j => { j with suspend := .finish }).job 0).suspend = .finish
      ∧ (let c := writing.modDrive 0 fun p => { p with
           staged := some { slab := 5, block := 0, first := true }, writeQueue := [7, 6]
           context := some { file := { job := 0, num := 1 }, nextOffset := 0, span := none, nextBlock := 0
                             acc := { a := 0, b := 0, words := 0 } } }
         let g : Staged := { slab := 5, block := 0, first := true }
         (c.drive 0).staged = some g ∧ (c.slab g.slab).job = some 0 ∧ (c.drive 0).link.flight ≠ none
          ∧ (∀ y ∈ g.slab :: (c.drive 0).writeQueue, y.val < 508)
          ∧ ((c.drive 0).context.any fun k => k.file.job == 0) = true) :=
  ⟨fun _ _ => takes_job _ _ _, by decide +kernel⟩

theorem witness_JobResumeLeavesHeldOrSuspended :
    (∀ x, (ask (withJob x) .jobResume [0]).Takes .jobResume (req .jobResume [BitVec.ofNat 8 (0 : CardNo).val]))
      ∧ ((withJob .held).job 0).state = .held ∧ ((withJob .suspended).job 0).state = .suspended
      ∧ ((withJob .held).job 0).holds.cardGone ≠ some .ready
      ∧ (((withJob .held).modJob 0 fun j => { j with holds := j.holds.setDest 3 (some .ready) }).job 0).holds.destGone[(3 : DriveNo)]
          = some .ready :=
  ⟨fun _ => takes_job _ _ _, by decide +kernel⟩

/-- A port in the list and LIVE, one DROPPED, one outside; the release clause's hold. -/
theorem witness_JobDropDropsADestination :
    let c := withJob .held
    let dropped := c.modJob 0 fun j => { j with dests := j.dests.map fun e => { e with live := false } }
    let gone := c.modJob 0 fun j => { j with holds := j.holds.setDest 0 (some .pending) }
    (∀ b, (ask c .jobDrop [0, b]).Takes .jobDrop (req .jobDrop [BitVec.ofNat 8 (0 : CardNo).val, b]))
      ∧ availability .jobDrop (c.job 0).state = none ∧ (∀ e ∈ (c.job 0).dests, e.port.val ≠ (2 : Byte).toNat)
      ∧ ((c.job 0).dests.find? (fun e => e.port == 0)).any (·.live) = true
      ∧ ((dropped.job 0).dests.find? (fun e => e.port == 0)).any (·.live) = false
      ∧ (gone.job 0).holds.destGone[(0 : DriveNo)] ≠ none ∧ ((gone.job 0).holds.setDest 0 none).isEmpty = true
      ∧ (writing.drive 0).writing = some { slab := 5, next := 0 } ∧ (writing.slab 5).inFlight[(0 : DriveNo)] = true
      ∧ (writing.slab 5).isFilledOf 0 = true :=
  ⟨fun _ => takes_job _ _ _, by decide +kernel⟩

theorem witness_JobStopStops :
    (∀ x, (ask (withJob x) .jobStop [0]).Takes .jobStop (req .jobStop [BitVec.ofNat 8 (0 : CardNo).val]))
      ∧ availability .jobStop ((withJob .stopping).job 0).state = none
      ∧ availability .jobStop ((withJob .faulted).job 0).state = none ∧ ((withJob .faulted).job 0).state ≠ .stopping
      ∧ ((writing.slab 5).job = some 0 ∧ (writing.slab 5).pendingWrites[(0 : DriveNo)] = true
        ∧ (writing.slab 5).inFlight[(0 : DriveNo)] = true) :=
  ⟨fun _ => takes_job _ _ _, by decide +kernel⟩

theorem witness_JobClearLeavesFaulted :
    let c := (withJob .faulted).modJob 0 fun j => { j with faultCause := .cardReplaced }
    (ask (withJob .faulted) .jobClear [0]).Takes .jobClear (req .jobClear [BitVec.ofNat 8 (0 : CardNo).val])
      ∧ ((withJob .faulted).job 0).state = .faulted ∧ (c.job 0).faultCause = .cardReplaced ∧ (c.card 0).state ≠ .empty
      ∧ ((c.modCard 0 fun p => { p with state := .empty }).card 0).state = .empty :=
  ⟨takes_job _ _ _, by decide +kernel⟩

theorem witness_JobFreeReturnsTheRecord :
    (∀ x, (ask (withJob x) .jobFree [0]).Takes .jobFree (req .jobFree [BitVec.ofNat 8 (0 : CardNo).val]))
      ∧ availability .jobFree ((withJob .opened).job 0).state = none
      ∧ availability .jobFree ((withJob .ended).job 0).state = none ∧ c0.notices.jobState = true :=
  ⟨fun _ => takes_job _ _ _, by decide +kernel⟩

/-- A range that ends at the card's last block, and one block past it; 128 and 129 blocks; an empty pool. -/
theorem witness_ScanStartChecksThenReads :
    let full := { up with slabs := Vector.replicate 512 { Slab.freeValues with state := .filled } }
    (∀ p, (ask up .scanStart p).Takes .scanStart (req .scanStart p)) ∧ (∀ x, (full.slab x).state ≠ .free)
      ∧ ofLe [128, 0, 0, 0, 0, 0] = 128
      ∧ ofLe [129, 0, 0, 0, 0, 0] = 129 ∧ ofLe (leBytes 6 3999872) + 128 ≤ (up.card 0).capacity
      ∧ (up.card 0).capacity < ofLe (leBytes 6 3999872) + 129 ∧ (up.card 0).state = .ready ∧ (up.card 1).state ≠ .ready
      ∧ (up.job 0).state = .free ∧ (up.card 0).scan.phase = .none ∧ up.waits 0 = none ∧ (up.card 0).link.cond = .idle
      ∧ (up.slab 0).state = .free := by
  refine ⟨takes_up _, fun x => ?_, by decide +kernel⟩
  show ((Vector.replicate 512 { Slab.freeValues with state := .filled })[x]).state ≠ .free
  simp

/-- A chunk of two blocks, of which one may be examined, blank, and the other not; no port waits, and one that does. -/
theorem witness_ScanStopByPhase :
    let q : Scan := { Scan.resetValues with phase := .checking, count := 2, chunkSize := 2, slab := some 5 }
    (∀ b, (ask up .scanStop [b]).Takes .scanStop (req .scanStop [b])) ∧ 7 < (8 : Byte).toNat
      ∧ (7 : Byte).toNat = (7 : CardNo).val
      ∧ (∀ x : ScanPhase, ((up.modCard 0 fun p => { p with scan := { p.scan with phase := x } }).card 0).scan.phase = x)
      ∧ ((∀ m, up.waits m = none) ∧ (up.setWait 0 (some .scan)).waits 0 = some .scan
        ∧ ((up.modCard 0 fun p => { p with scan := q }).card 0).scan.slab = some 5 ∧ (up.card 0).scan.slab = none)
      ∧ q.MayHaveExamined [] 0 ∧ q.MayHaveExamined [] 1 ∧ ¬q.MayHaveExamined [] 2 :=
  ⟨fun _ => takes_up _ _, by decide, by decide, fun x => by cases x <;> decide +kernel, by decide +kernel, .inl rfl,
    .inr ⟨5, rfl, rfl, by decide, fun i _ => by
      intro v h
      obtain ⟨_, _, rfl⟩ := List.mem_map.mp h
      rfl⟩,
    fun h => h.elim (by decide) fun ⟨_, _, _, h, _⟩ => absurd h (by decide)⟩

/-- A chunk of two blocks of which the second is not blank, a chunk of blank blocks, and blocks remaining or none. -/
theorem witness_BlankCheckFindsTheFirstResidue :
    let c := up.modCard 0 fun p => { p with scan := { p.scan with
      phase := .checking, count := 3, chunkSize := 2, slab := some 5 } }
    let m : List Host.Cell := [(5 * 65536 + 512, 1)]
    (st c).inReset = false ∧ (c.card 0).scan.phase = .checking ∧ (c.card 0).scan.slab = some 5 ∧ c.waits 0 = none
      ∧ (c.card 0).scan.firstResidue m 5 = some 1 ∧ (c.card 0).scan.firstResidue [] 5 = none
      ∧ (c.card 0).scan.examined + (c.card 0).scan.chunkSize < (c.card 0).scan.count
      ∧ ({ (c.card 0).scan with count := 2 } : Scan).count ≤ 0 + 2 ∧ (up.card 0).scan.phase ≠ .checking := by
  decide +kernel

/-- Runs at N − 1 and at N − 2 (N is 6). -/
theorem witness_PresenceSamplesSettleAPort :
    let card := fun k => (c0.modCard 0 fun p => { p with state := .settling, highRun := k, lowRun := k }).card 0
    let drive := fun k => (c0.modDrive 0 fun p => { p with state := .settling, highRun := k, lowRun := k }).drive 0
    (c0.card 0).state = .empty ∧ (c0.drive 0).state = .absent ∧ c0.debounce ≤ (card 5).highRun + 1
      ∧ (card 4).highRun + 1 < c0.debounce ∧ (card 4).lowRun + 1 < c0.debounce ∧ (card 5).state = .settling
      ∧ c0.debounce ≤ (card 5).lowRun + 1 ∧ c0.debounce ≤ (drive 5).lowRun + 1
      ∧ c0.debounce ≤ (drive 5).highRun + 1 ∧ (drive 4).lowRun + 1 < c0.debounce ∧ (up.card 0).link.cond = .idle
      ∧ (c0.card 0).link.cond = .resetting := by decide +kernel

/-- A job that loses D0 under each drive-gone action, with D1 still LIVE and without, a file PENDING and one WRITTEN there,
and a slab that owes D0 a write. -/
theorem witness_LosesDrive :
    let c := fun (a : GoneAction) => (writing.modJob 0 fun j => { j with driveAction := a }).modFile { job := 0, num := 1 }
      fun f => f.modDest 0 fun e => { e with result := .written, stored := true }
    let last := (c .drop).modJob 0 fun j => { j with dests := j.dests.take 1 }
    (∀ a, (∃ e ∈ ((c a).job 0).dests, e.port = 0 ∧ e.live = true) ∧ (∃ e ∈ ((c a).job 0).dests, e.port ≠ 0 ∧ e.live = true)
        ∧ ((c a).job 0).driveAction = a ∧ ((c a).job 0).state = .running ∧ ((c a).job 0).holds.destGone[(0 : DriveNo)] = none
        ∧ (((c a).queue 0).map fun f => f.resultOn 0) = [some .pending, some .written]
        ∧ ((c a).slab 5).isFilledOf 0 = true ∧ ((c a).slab 5).pendingWrites[(0 : DriveNo)] = true)
      ∧ (∀ e ∈ (last.job 0).dests, (if e.port = 0 then { e with live := false } else e).live = false)
      ∧ ((c .drop).files.map (·.ref)).Nodup ∧ (c .drop).nextFile = 2 :=
  ⟨fun a => by cases a <;> decide +kernel, by decide +kernel⟩

/-- For CardRemovalEmptiesThePort and DriveAbsenceDropsTheWork: runs at N − 1, a scan under way, a job that is active; under
HOLD the job is HELD by DEST_GONE(D0) pending after the absence, with D0 still LIVE. -/
theorem witness_removals :
    let c := (withJob .running).modCard 0 fun p => { p with lowRun := 5, scan := { p.scan with phase := .reading } }
    let d := (withJob .running).modDrive 0 fun p => { p with lowRun := 5 }
    (c.card 0).state ≠ .empty ∧ c.debounce ≤ (c.card 0).lowRun + 1 ∧ (c.job 0).state ≠ .free ∧ (c.job 0).state ≠ .ended
      ∧ (c.card 0).scan.phase ≠ .none ∧ c.notices.scanDone = true ∧ (up.card 0).lowRun + 1 < up.debounce
      ∧ (d.drive 0).state = .ready ∧ d.debounce ≤ (d.drive 0).lowRun + 1
      ∧ (∃ e ∈ (d.job 0).dests, e.port = 0 ∧ e.live = true) ∧ (d.job 0).driveAction = .drop
      ∧ (let h := d.modJob 0 fun j => { j with driveAction := .hold }
         let t := (after (.driveAbsence 0) (st h)).ctl.job 0
         (h.job 0).driveAction = .hold ∧ (h.job 0).state = .running ∧ t.state = .held
           ∧ t.holds.destGone[(0 : DriveNo)] = some .pending ∧ (t.dests.map (·.live)) = [true, true]) := by decide +kernel

/-- A READ with its blocks still to come and with none to come; a right check over another sequence number; the reader's,
the scan's and the last verify slab. -/
theorem witness_DataBlocksFillTheSlab :
    (st reading).inReset = false ∧ (st reading).dramCanonical = true ∧ ((st c0).ctl.link (.card 0)).flight = none
      ∧ (reading.link (.card 0)).flight.any (fun f => f.kind == .read && decide (f.blocks < f.count) && f.seq == 41) = true
      ∧ reading.blockPlace (.card 0)
          { kind := .read, seq := 41, start := 10, count := 2, grade := 0, blocks := 1, checkFailed := false, period := 1000 }
          = some (0, 1)
      ∧ (reading.card 0).reader = some { slab := 0, next := 0 } ∧ (up.card 0).reader = none
      ∧ ((up.modCard 0 fun p => { p with scan := { p.scan with slab := some 9 } }).card 0).scan.slab = some 9
      ∧ (up.drive 3).readAbandoned = false ∧ (511 : SlabNo).val = 508 + (3 : DriveNo).val := by decide +kernel

/-- A record with the right check and the flight's number, codes 4 and 5, and a wrong check. -/
theorem witness_StatusRecordsFormTheOutcome :
    (st reading).inReset = false ∧ ((st reading).ctl.link (.card 0)).flight.isSome = true
      ∧ crc16 ([41, 4] ++ []) = crc16 [41, 4] ∧ crc16 [41, 4] ≠ 0 ∧ 4 < (5 : Byte).toNat
      ∧ (reading.link (.card 0)).flight.any (fun f => f.seq == 41 && !f.checkFailed && decide (f.blocks < f.count)) = true := by
  decide +kernel

/-- Attempts 2 and 3, capacities 0 and 1; a RESETTING link of a port that waits in IDENTIFYING and of one that does not. -/
theorem witness_IdentifyDecidesThePort :
    let c := c0.modCard 0 fun p => { p with state := .identifying, attempts := 2 }
    (c.card 0).attempts < 3 ∧ 3 ≤ ((c.modCard 0 fun p => { p with attempts := 3 }).card 0).attempts
      ∧ (c.link (.card 0)).cond = .resetting ∧ ((c.card 0).state == .identifying) = true
      ∧ ((c0.card 0).state == .identifying) = false ∧ (up.link (.card 0)).cond ≠ .resetting := by decide +kernel

/-- A job HELD by CARD_GONE with its own card's serial and with another, alone and beside another cause, AUTO and HOST; and
an OPEN one with QUEUED files, of which none is taken up when another card faults it (log 39). -/
theorem witness_ReturnedCardsReleaseOrFault :
    let gone := fun (x : JobState) => (withJob x).modJob 0 fun j => { j with holds := j.holds.setCard (some .pending) }
    ((gone .held).job 0).holds.cardGone ≠ none ∧ ((gone .held).job 0).serial = serial 1
      ∧ ((gone .held).job 0).serial ≠ serial 2 ∧ ((gone .stopping).job 0).state = .stopping
      ∧ { ((gone .held).job 0).holds with cardGone := none }.isEmpty = true
      ∧ { ((gone .held).job 0).holds.setDest 1 (some .ready) with cardGone := none }.isEmpty = false
      ∧ ((gone .held).job 0).cardRelease = .auto ∧ (gone .held).queue 0 = []
      ∧ ((withJob .ended).job 0).holds.cardGone = none
      ∧ (let c := withFiles (gone .opened) .queued .queued
         let w : Flight := { kind := .identify, seq := 1, start := 0, count := 1, grade := 0, blocks := 0,
                             checkFailed := false, period := 4000 }
         let t := c.endTxn (.card 0) w .good 1 (serial 2)
         (c.job 0).state = .opened ∧ (t.job 0).state = .faulted ∧ t.files = c.files) := by decide +kernel

/-- A job HELD by DEST_GONE(D0) under READBACK, slab 5 owing D0, file 1 WRITTEN there; the serial recorded and another. -/
theorem witness_ReturnedDrivesTakeTheirWork :
    let c := (((writing.modJob 0 fun j => { j with state := .held, holds := j.holds.setDest 0 (some .pending) }).modFile
      { job := 0, num := 1 } fun f => f.modDest 0 fun e => { e with result := .written }).modDrive 0 fun _ =>
        { DrivePort.resetValues with state := .identifying })
    (c.drive 0).writeQueue = [] ∧ (c.drive 0).verifyQueue = [] ∧ (c.drive 0).writing = none
      ∧ (c.drive 0).staged = none ∧ (c.drive 0).context = none ∧ (c.job 0).holds.destGone[(0 : DriveNo)] ≠ none
      ∧ (((c.job 0).dests.find? fun e => e.port == 0).any fun e => e.serial == serial 8) = true
      ∧ (((c.job 0).dests.find? fun e => e.port == 0).any fun e => e.serial == serial 9) = false
      ∧ ((c.job 0).holds.setDest 0 none).isEmpty = true ∧ (c.slab 5).isFilledOf 0 = true
      ∧ (c.slab 5).pendingWrites[(0 : DriveNo)] = true ∧ ((c.slab 5).file.bind c.file?).isSome = true
      ∧ (c.writeTxn 0 5 ((c.slab 5).offset / 512)).isSome = true ∧ (c.job 0).verify = .readback
      ∧ ((c.queue 0).map fun f => f.resultOn 0) = [some .pending, some .written] := by decide +kernel

/-- The span in hand of a context, and the span at its next byte offset. -/
theorem witness_verifyReads :
    let c := verifying.ctl
    let again := fun (x : Option Span) => (c.modDrive 0 fun p => { p with
      context := p.context.map fun k => { k with nextOffset := 0, span := x, nextBlock := 0 } }).modSlab 508 fun _ =>
        Slab.freeValues
    (∃ k f, (again (some { offset := 0, len := 6 })).VerifyReadIs 0 k f { offset := 0, len := 6 } 0)
      ∧ ∃ k f, (again none).VerifyReadIs 0 k f { offset := 0, len := 6 } 0 :=
  ⟨⟨_, _, rfl, rfl, .inl (by decide +kernel)⟩, _, _, rfl, rfl, .inr (by decide +kernel)⟩

/-- A writing entry with a WRITE of one of its two blocks in flight, and the entry of slab 5 behind one that may not go. -/
theorem witness_drivesTakeTheirWork :
    let w : Flight := { kind := .write, seq := 40, start := 0, count := 1, grade := 0, blocks := 1, checkFailed := false,
                        period := 4000 }
    let half := writing.modDrive 0 fun p => { p with link := { cond := .inFlight w, seq := 40 } }
    let entry := writing.modDrive 0 fun p => { p with writing := none, writeQueue := [7, 5] }
    half.NextWriteIs 0 5 1 ∧ entry.OldestEntryIs 0 [7] 5 []
      ∧ ((half.drive 0).state = .ready ∧ (half.drive 0).context = none ∧ (half.drive 0).verifyQueue = []
        ∧ (half.drive 0).staged = none ∧ entry.writeTxn 0 5 ((entry.slab 5).offset / 512) = some (0, 2)) := by
  intro w half entry
  have owner : (half.slab 5).job = some 0 ∧ (entry.slab 5).job = some 0 ∧ (entry.slab 7).job = none := by decide +kernel
  have live : ∃ m ∈ (half.job 0).dests, m.port = 0 ∧ m.live = true := by decide +kernel
  have runs : (entry.job 0).state = .running := by decide +kernel
  refine ⟨⟨⟨_, rfl, rfl, rfl⟩, by decide +kernel, 0, file 0 .draining, _, owner.1, by decide +kernel, by decide +kernel, live,
    rfl, rfl⟩, ⟨rfl, ⟨0, owner.2.1, .inl runs⟩, fun y h ⟨n, hn, _⟩ => ?_⟩, by decide +kernel⟩
  rw [List.mem_singleton.mp h, owner.2.2] at hn
  cases hn

/-- An IDLE context whose first entry is of a job that is SUSPENDED and whose second is of one that runs. -/
theorem witness_takesVerify :
    let r : FileRef := { job := 0, num := 0 }
    let c := ((withJob .running).modJob 1 fun j => { j with state := .suspended }).modDrive 0 fun p => { p with
      verifyQueue := [{ job := 1, num := 7 }] ++ r :: [] }
    (c.drive 0).state = .ready ∧ (c.drive 0).context = none
      ∧ (c.drive 0).verifyQueue = [{ job := 1, num := 7 }] ++ r :: []
      ∧ (∀ q ∈ [({ job := 1, num := 7 } : FileRef)], ¬(c.job q.job).LetsWorkGoOn) ∧ (c.job r.job).LetsWorkGoOn
      ∧ (c0.drive 0).state ≠ .ready := by
  unfold Job.LetsWorkGoOn
  decide +kernel

/-- A span's READ after two failed attempts at grades 2 and 3; two failures counted; a PROMPT suspend; a file made UNREADABLE
while its READ is in flight; scans in READING and ENDING. -/
theorem witness_CardReadsEnd :
    let scan := fun (x : ScanPhase) => up.modCard 0 fun p => { p with
      scan := { p.scan with phase := x, count := 9, chunkSize := 9, slab := some 4 } }
    (reading.files.map (·.ref)).Nodup ∧ reading.nextFile = 2 ∧ reading.waits 0 = none
      ∧ (reading.card 0).reader = some { slab := 0, next := 0 }
      ∧ ((reading.slab 0).file.bind reading.file?).any (fun g => g.ref.job == 0 && g.result == .pending && g.state == .reading) = true
      ∧ (reading.job 0).state = .running ∧ (∀ h ∈ reading.queue 0, h.state = .queued → 0 < h.len)
      ∧ (reading.card 0).link.carries .read = true ∧ ((withJob .suspending).job 0).suspend ≠ .finish
      ∧ ((reading.modJob 0 fun j => { j with failures := 2 }).job 0).failures = 2
      ∧ ((reading.sourceFail { job := 0, num := 0 } .unreadable).file? { job := 0, num := 0 }).all (·.state != .reading) = true
      ∧ ((reading.sourceFail { job := 0, num := 0 } .unreadable).card 0).link.carries .read = true
      ∧ (reading.slab 0).state = .filling
      ∧ ((scan .reading).card 0).reader = none ∧ ((scan .ending).card 0).scan.phase = .ending
      ∧ ((scan .reading).card 0).scan.slab = some 4 := by decide +kernel

theorem witness_outcomes :
    TxnOutcome.timeout.IsFailedAttempt ∧ TxnOutcome.linkCheck.IsFailedAttempt ∧ TxnOutcome.notReady.IsFailedAttempt
      ∧ TxnOutcome.mediaError.IsFailureAtOnce ∧ TxnOutcome.rangeError.IsFailureAtOnce
      ∧ TxnOutcome.protectedMedium.IsFailureAtOnce ∧ ((withJob .running).job 0).LetsWorkGoOn
      ∧ ((withJob .faulted).job 0).LetsWorkGoOn := by
  unfold TxnOutcome.IsFailedAttempt TxnOutcome.IsFailureAtOnce Job.LetsWorkGoOn
  decide +kernel

/-- The span of two blocks in slab 0, after one of its blocks and after both; its file's extents. -/
theorem witness_ReadSpansFillTheirSlabs :
    (reading.slab 0).purpose = .source ∧ (reading.slab 0).state = .filling ∧ (reading.slab 0).job = some 0
      ∧ (reading.slab 0).file = some (file 0 .reading).ref ∧ reading.file? (file 0 .reading).ref = some (file 0 .reading)
      ∧ (reading.slab 0).offset / 512 + ((reading.slab 0).len + 511) / 512 = 2 ∧ 0 + 1 < 2 ∧ 2 ≤ 0 + 2
      ∧ (file 0 .reading).source = [] ++ { start := 10, count := 2 } :: [] ∧ 1 < 2
      ∧ (file 0 .reading).readOffset + (reading.slab 0).len = (file 0 .reading).len := by decide +kernel

/-- A reader whose request stands, with a slab FREE and with none; two ports that wait, C0 last granted. -/
theorem witness_slabGrants :
    let c := withFiles (withJob .running) .reading .queued
    let w := (({ c with lastGranted := 0 }.setWait 0 (some .source)).setWait 7 (some .scan)).modCard 7 fun p =>
      { p with scan := { p.scan with phase := .awaitingSlab } }
    c.queue 0 = [] ++ file 0 .reading :: [file 1 .queued] ∧ (file 0 .reading).readOffset < (file 0 .reading).len
      ∧ (c.job 0).state = .running ∧ c.sourceCount 0 < (c.job 0).quota ∧ (c.card 0).state = .ready
      ∧ (c.card 0).reader = none ∧ (c.card 0).link.cond = .idle ∧ c.waits 0 = none ∧ (c.slab 0).state = .free
      ∧ w.waits 7 = some .scan ∧ (∀ m : CardNo, (m - w.lastGranted - 1).val < (7 - w.lastGranted - 1).val → w.waits m = none)
      ∧ (w.card 7).scan.phase = .awaitingSlab ∧ w.waits 0 = some .source := by decide +kernel

/-- A WRITE of one block and of the last, its result PENDING and final, its job RUNNING and STOPPING, its drive DROPPED, and
the staged next transaction of its entry. -/
theorem witness_WritesEnd :
    let g := file 0 .draining
    let dropped := writing.modJob 0 fun j => { j with dests := j.dests.map fun e => { e with live := false } }
    (writing.files.map (·.ref)).Nodup ∧ writing.nextFile = 2 ∧ (writing.drive 0).writing = some { slab := 5, next := 0 }
      ∧ (writing.slab 5).job = some 0 ∧ (writing.slab 5).file = some g.ref ∧ writing.file? g.ref = some g
      ∧ (writing.slab 5).state = .filled ∧ (writing.slab 5).purpose = .source ∧ (5 : SlabNo) ∉ (writing.drive 0).writeQueue
      ∧ (writing.drive 0).staged = none ∧ (∃ e ∈ (writing.job 0).dests, e.port = 0 ∧ e.live = true)
      ∧ (∀ e ∈ (dropped.job 0).dests, e.live = false) ∧ (g.dests.find? fun e => e.port == 0).map (·.result) = some .pending
      ∧ (writing.slab 5).offset / 512 + ((writing.slab 5).len + 511) / 512 = 2 ∧ writing.writeTxn 0 5 1 = some (1, 1)
      ∧ (∀ i : DriveNo, i ≠ 0 → (writing.slab 5).pendingWrites[i] = false ∧ (writing.slab 5).inFlight[i] = false)
      ∧ (writing.slab 5).digested = true ∧ (writing.drive 0).link.carries .write = true := by decide +kernel

/-- The read-back of a span of one block, before its last block and after it; a context abandoned. -/
theorem witness_ReadBacksEnd :
    let c := verifying.ctl
    (c.drive 0).readAbandoned = false
      ∧ ((c.drive 0).context.any fun k => k.span == some { offset := 0, len := 6 } && decide (k.file.job = 0)
          && decide (k.file ∉ (c.drive 0).verifyQueue)) = true
      ∧ (c.job 0).state ≠ .stopping ∧ 0 / 512 + (6 + 511) / 512 = 1 ∧ (c.files.map (·.ref)).Nodup ∧ c.nextFile = 1
      ∧ ((c.file? { job := 0, num := 0 }).any fun f => f.resultOn 0 == some .written) = true
      ∧ ((c.modDrive 0 fun p => { p with readAbandoned := true }).drive 0).readAbandoned = true := by decide +kernel

/-- A WRITE with a writing entry and a read-back with a span in hand, after one and after two failed attempts. -/
theorem witness_ThreeFailuresLoseADrive :
    let w := { up.drive 0 with writing := some { slab := 5, next := 0 }, failed := 1 }
    let v := { up.drive 0 with
      context := some { file := { job := 0, num := 0 }, nextOffset := 0, span := some { offset := 0, len := 9 },
                        nextBlock := 0, acc := { a := 0, b := 0, words := 0 } }, failed := 2 }
    w.writing ≠ none ∧ w.failed < 2 ∧ v.readAbandoned = false ∧ (v.context.any fun k => k.span.isSome) = true
      ∧ 2 ≤ v.failed := by decide +kernel

end Sys2Proof.Tests
end

/-! # Proofs: the offload jobs (01)

First what several statements share (requests taken, bytes of numbers, the availability table), then one part per statement. -/

namespace Sys2Proof.Machine

/-! ## Requests that are taken -/

/-- What a command that is a request does once its frame is taken. -/
theorem exec_of_takes {i : Instr} {s : State} {k : MsgKind} {act : List Byte → Ctl → Answer} {f : RxFrame}
    (hi : exec i s = .next (s.request k act)) (ht : s.Takes k f) :
    exec i s = .next (s.answer f (act f.payload s.ctl)) := by
  rw [hi, State.request_of_takes act ht]

theorem toNat_ofNat_card (n : CardNo) : (BitVec.ofNat 8 n.val).toNat = n.val := by
  rw [BitVec.toNat_ofNat]; omega

theorem toNat_ofNat_drive (d : DriveNo) : (BitVec.ofNat 8 d.val).toNat = d.val := by
  rw [BitVec.toNat_ofNat]; omega

@[simp] theorem cardNo_ofNat (n : CardNo) : cardNo? (BitVec.ofNat 8 n.val) = some n :=
  cardNo_of_toNat (toNat_ofNat_card n)

/-- The kinds whose requests name a job: FILE_ADD and those of fixed length. -/
def MsgKind.NamesJob (k : MsgKind) : Prop := k = .fileAdd ∨ (jobPayloadLength k).isSome = true

/-- The two forms of the table of 1.3 agree: what a state takes and refuses, and the rows by request. -/
theorem availability_eq_takes (k : MsgKind) (x : JobState) (hk : k.NamesJob) :
    availability k x = if x.takes k then none else some x.reason := by
  cases k
  case ident | partReset | noticeSet | portQuery | lampSet | jobOpen | scanStart | scanStop =>
    simp [MsgKind.NamesJob, jobPayloadLength] at hk
  all_goals cases x <;> rfl

theorem takes_of_availability {k : MsgKind} {x : JobState} (hk : k.NamesJob) (h : availability k x = none) :
    x.takes k = true := by
  rw [availability_eq_takes k x hk] at h
  by_contra g
  simp [g] at h

theorem refuses_of_availability {k : MsgKind} {x : JobState} {r : Reason} (hk : k.NamesJob)
    (h : availability k x = some r) : x.takes k = false ∧ x.reason = r := by
  rw [availability_eq_takes k x hk] at h
  by_cases g : x.takes k = true
  · simp [g] at h
  · simpa [g] using h

theorem Ctl.forJob_taken {c : Ctl} {k : MsgKind} {b : Byte} {n : CardNo} (act : CardNo → Answer)
    (hb : cardNo? b = some n) (h : (c.job n).state.takes k = true) : c.forJob k b act = act n := by
  simp [Ctl.forJob, hb, h]

/-- A job request with the job number alone, of a job whose state takes it, is answered by its own part. -/
theorem exec_jobRequest {i : Instr} {s : State} {k : MsgKind} {act : Ctl → CardNo → Answer} {f : RxFrame} {n : CardNo}
    (hi : exec i s = .next (s.request k (jobRequest k act))) (ht : s.Takes k f) (hp : f.payload = [BitVec.ofNat 8 n.val])
    (h : (s.ctl.job n).state.takes k = true) : exec i s = .next (s.answer f (act s.ctl n)) := by
  rw [exec_of_takes hi ht, hp, jobRequest, Ctl.forJob_taken _ (cardNo_ofNat n) h]

/-! ## The availability table (1.3) -/

/-- Refusals of a job request by its job number or its job's state (R3). -/
def Ctl.RefusedByTable (c : Ctl) (k : MsgKind) (b : Byte) (a : Answer) : Prop :=
  (7 < b.toNat → a = .error .badField)
    ∧ ∀ (n : CardNo) (r : Reason), b.toNat = n.val → availability k (c.job n).state = some r → a = .error r

theorem Ctl.forJob_refused (c : Ctl) (k : MsgKind) (b : Byte) (act : CardNo → Answer) (hk : k.NamesJob) :
    c.RefusedByTable k b (c.forJob k b act) := by
  refine ⟨fun h => by simp [Ctl.forJob, cardNo_of_lt h], fun n r hb ha => ?_⟩
  obtain ⟨ht, hr⟩ := refuses_of_availability hk ha
  simp [Ctl.forJob, cardNo_of_toNat hb, ht, hr]

theorem jobRequest_refused (k : MsgKind) (act : Ctl → CardNo → Answer) (b : Byte) (more : List Byte) (c : Ctl)
    (hk : jobPayloadLength k = some 1) (hl : jobPayloadLength k = some (b :: more).length) :
    c.RefusedByTable k b (jobRequest k act (b :: more) c) := by
  have hm : more = [] := by
    rw [hk] at hl
    simpa using hl
  subst hm
  exact c.forJob_refused k b _ (.inr (by simp [hk]))

/-- A refused answer is a REFUSED reply, and nothing else. -/
theorem refusedByTable_exec {i : Instr} {s : State} {k : MsgKind} {act : List Byte → Ctl → Answer} {f : RxFrame} {b : Byte}
    (hi : exec i s = .next (s.request k act)) (ht : s.Takes k f) (h : s.ctl.RefusedByTable k b (act f.payload s.ctl)) :
    (7 < b.toNat → exec i s = .next (s.refusedFor f .badField))
      ∧ ∀ (n : CardNo) (r : Reason), b.toNat = n.val → availability k (s.ctl.job n).state = some r →
          exec i s = .next (s.refusedFor f r) := by
  rw [exec_of_takes hi ht]
  exact ⟨fun hb => by rw [h.1 hb, State.answer_error], fun n r hb ha => by rw [h.2 n r hb ha, State.answer_error]⟩

/-- Settles O32: each job request is answered by the check of the job number and of the state before its own part. -/
theorem jobRequestsFollowTheAvailabilityTable : Obligations.JobRequestsFollowTheAvailabilityTable := by
  intro s i k f b more hk ht hl hp
  rw [hp] at hl
  have two (l : List Byte) (h : 2 = (b :: l).length) : ∃ v, l = [v] := List.length_eq_one_iff.1 (by simpa using h.symm)
  cases i
  case jobStart | jobClose | jobResume | jobStop | jobClear | jobFree | jobQuery =>
    cases hk
    refine refusedByTable_exec rfl ht ?_
    rw [hp]
    exact jobRequest_refused _ _ b more s.ctl rfl hl
  case jobSuspend =>
    cases hk
    obtain ⟨v, rfl⟩ := two more (Option.some.inj hl)
    refine refusedByTable_exec rfl ht ?_
    rw [hp]
    exact s.ctl.forJob_refused .jobSuspend b _ (.inr rfl)
  case jobDrop =>
    cases hk
    obtain ⟨v, rfl⟩ := two more (Option.some.inj hl)
    refine refusedByTable_exec rfl ht ?_
    rw [hp]
    exact s.ctl.forJob_refused .jobDrop b _ (.inr rfl)
  all_goals cases hk <;> cases hl

end Sys2Proof.Machine

namespace Sys2Proof.Machine

/-! ## Reads of a state with the same fields -/

section
variable {c t : Ctl}

theorem Ctl.job_of_jobs (h : t.jobs = c.jobs) (m : CardNo) : t.job m = c.job m := by simp only [Ctl.job, h]
theorem Ctl.card_of_cards (h : t.cards = c.cards) (m : CardNo) : t.card m = c.card m := by simp only [Ctl.card, h]
theorem Ctl.drive_of_drives (h : t.drives = c.drives) (d : DriveNo) : t.drive d = c.drive d := by simp only [Ctl.drive, h]
theorem Ctl.slab_of_slabs (h : t.slabs = c.slabs) (x : SlabNo) : t.slab x = c.slab x := by simp only [Ctl.slab, h]
theorem Ctl.queue_of_files (h : t.files = c.files) (m : CardNo) : t.queue m = c.queue m := by simp only [Ctl.queue, h]
theorem Ctl.waits_of_waitList (h : t.waitList = c.waitList) (m : CardNo) : t.waits m = c.waits m := by
  simp only [Ctl.waits, h]
theorem Ctl.sourceCount_of_slabs (h : t.slabs = c.slabs) (m : CardNo) : t.sourceCount m = c.sourceCount m := by
  simp only [Ctl.sourceCount, h]
theorem Ctl.file_of_files (h : t.files = c.files) (r : FileRef) : t.file? r = c.file? r := by simp only [Ctl.file?, h]

end

/-! ## A record after an update, by its number -/

section
variable (c : Ctl)

@[simp] theorem Ctl.pushEntry_job (e : OutEntry) (m : CardNo) : (c.pushEntry e).job m = c.job m := rfl
@[simp] theorem Ctl.pushEntry_card (e : OutEntry) (m : CardNo) : (c.pushEntry e).card m = c.card m := rfl
@[simp] theorem Ctl.pushEntry_drive (e : OutEntry) (d : DriveNo) : (c.pushEntry e).drive d = c.drive d := rfl
@[simp] theorem Ctl.pushEntry_slab (e : OutEntry) (x : SlabNo) : (c.pushEntry e).slab x = c.slab x := rfl
@[simp] theorem Ctl.pushEntry_queue (e : OutEntry) (m : CardNo) : (c.pushEntry e).queue m = c.queue m := rfl
@[simp] theorem Ctl.pushEntry_waits (e : OutEntry) (m : CardNo) : (c.pushEntry e).waits m = c.waits m := rfl
@[simp] theorem Ctl.pushEntry_sourceCount (e : OutEntry) (m : CardNo) :
    (c.pushEntry e).sourceCount m = c.sourceCount m := rfl

theorem Ctl.modJob_job_ite (n m : CardNo) (f : Job → Job) :
    (c.modJob n f).job m = if m = n then f (c.job n) else c.job m := by
  split
  · next h => rw [h, Ctl.modJob_job]
  · next h => exact Ctl.modJob_job_ne c f h

theorem Ctl.modDrive_drive_ite (d e : DriveNo) (f : DrivePort → DrivePort) :
    (c.modDrive d f).drive e = if e = d then f (c.drive d) else c.drive e := by
  split
  · next h => rw [h, Ctl.modDrive_drive]
  · next h => exact Ctl.modDrive_drive_ne c f h

theorem Ctl.modSlab_slab_ite (x y : SlabNo) (f : Slab → Slab) :
    (c.modSlab x f).slab y = if y = x then f (c.slab x) else c.slab y := by
  split
  · next h => rw [h, Ctl.modSlab_slab]
  · next h => exact Ctl.modSlab_slab_ne c f h

theorem Ctl.updJob_job_ne {n m : CardNo} (f : Job → Job) (h : m ≠ n) : (c.updJob n f).job m = c.job m :=
  (Ctl.job_of_jobs (c := c.modJob n f) (by simp) m).trans (Ctl.modJob_job_ne c f h)

/-! ## Card ports: the lamp, the marks, the end of a job -/

/-- The two ports differ in the lamp alone. -/
def CardPort.SameButLamp (p q : CardPort) : Prop := q = { p with pattern := q.pattern, lit := q.lit }

theorem CardPort.SameButLamp.trans {p q r : CardPort} (h : p.SameButLamp q) (g : q.SameButLamp r) : p.SameButLamp r := by
  unfold CardPort.SameButLamp at *
  rw [h] at g
  exact g

/-- What a port keeps when its lamp alone may change. -/
theorem CardPort.SameButLamp.fields {p q : CardPort} (h : p.SameButLamp q) :
    q.cleared = p.cleared ∧ q.residue = p.residue ∧ q.unclean = p.unclean ∧ q.link = p.link ∧ q.state = p.state
      ∧ q.reader = p.reader := by
  rw [h]
  exact ⟨rfl, rfl, rfl, rfl, rfl, rfl⟩

theorem CardPort.show_sameButLamp (p : CardPort) (q : Pattern) : p.SameButLamp (p.show q) := by
  unfold CardPort.show CardPort.SameButLamp
  split <;> rfl

theorem Ctl.lampUpdate_card (n : CardNo) : (c.card n).SameButLamp ((c.lampUpdate n).card n) := by
  unfold Ctl.lampUpdate
  split
  · rw [Ctl.modCard_card]; exact CardPort.show_sameButLamp _ _
  · rfl

theorem Ctl.lampUpdate_card_ne {n m : CardNo} (h : m ≠ n) : (c.lampUpdate n).card m = c.card m := by
  unfold Ctl.lampUpdate
  split
  · exact Ctl.modCard_card_ne c _ h
  · rfl

/-- The card ports that a change of marks leaves: the port itself with its new marks, but for the lamp, and the others. -/
theorem Ctl.setMarks_card (n : CardNo) (a b u : Bool) :
    { c.card n with cleared := a, residue := b, unclean := u }.SameButLamp ((c.setMarks n a b u).card n) := by
  simp only [Ctl.setMarks]
  split
  · next h =>
    obtain ⟨rfl, rfl, rfl⟩ := h
    rfl
  · rw [Ctl.card_of_cards (Ctl.notifyPort_cards _ _)]
    have h := Ctl.lampUpdate_card (c.modCard n fun p => { p with cleared := a, residue := b, unclean := u }) n
    rwa [Ctl.modCard_card] at h

theorem Ctl.setMarks_card_ne {n m : CardNo} (a b u : Bool) (h : m ≠ n) : (c.setMarks n a b u).card m = c.card m := by
  simp only [Ctl.setMarks]
  split
  · rfl
  · rw [Ctl.card_of_cards (Ctl.notifyPort_cards _ _), Ctl.lampUpdate_card_ne _ h, Ctl.modCard_card_ne _ _ h]

theorem Ctl.evaluateClearance_card_ne {n m : CardNo} (h : m ≠ n) : (c.evaluateClearance n).card m = c.card m := by
  simp only [Ctl.evaluateClearance]
  split <;> exact Ctl.setMarks_card_ne c _ _ _ h

/-- The job record as the job's end leaves it (R8, R26). -/
def Job.endedBy (j : Job) (reason : EndReason) : Job :=
  { j with state := .ended, endReason := reason, holds := HoldSet.empty, suspend := .none, faultCause := .none }

theorem Job.endedBy_complete (j : Job) : j.endedBy .complete = j.endedComplete := rfl

@[simp] theorem Ctl.endJob_jobs (n : CardNo) (r : EndReason) :
    (c.endJob n r).jobs = (c.modJob n fun j => j.endedBy r).jobs := by simp [Ctl.endJob, Job.endedBy]
@[simp] theorem Ctl.endJob_files (n : CardNo) (r : EndReason) : (c.endJob n r).files = c.files := by simp [Ctl.endJob]
@[simp] theorem Ctl.endJob_slabs (n : CardNo) (r : EndReason) : (c.endJob n r).slabs = c.slabs := by simp [Ctl.endJob]
@[simp] theorem Ctl.endJob_drives (n : CardNo) (r : EndReason) : (c.endJob n r).drives = c.drives := by simp [Ctl.endJob]
@[simp] theorem Ctl.endJob_digest (n : CardNo) (r : EndReason) : (c.endJob n r).digest = c.digest := by simp [Ctl.endJob]
@[simp] theorem Ctl.endJob_fillSeq (n : CardNo) (r : EndReason) : (c.endJob n r).fillSeq = c.fillSeq := by
  simp [Ctl.endJob]
@[simp] theorem Ctl.endJob_nextFile (n : CardNo) (r : EndReason) : (c.endJob n r).nextFile = c.nextFile := by
  simp [Ctl.endJob]
@[simp] theorem Ctl.endJob_lastGranted (n : CardNo) (r : EndReason) : (c.endJob n r).lastGranted = c.lastGranted := by
  simp [Ctl.endJob]
@[simp] theorem Ctl.endJob_notices (n : CardNo) (r : EndReason) : (c.endJob n r).notices = c.notices := by
  simp [Ctl.endJob]
@[simp] theorem Ctl.endJob_linkFault (n : CardNo) (r : EndReason) : (c.endJob n r).linkFault = c.linkFault := by
  simp [Ctl.endJob]
@[simp] theorem Ctl.endJob_rateCode (n : CardNo) (r : EndReason) : (c.endJob n r).rateCode = c.rateCode := by
  simp [Ctl.endJob]
@[simp] theorem Ctl.endJob_debounce (n : CardNo) (r : EndReason) : (c.endJob n r).debounce = c.debounce := by
  simp [Ctl.endJob]

@[simp] theorem Ctl.endJob_job (n : CardNo) (r : EndReason) : (c.endJob n r).job n = (c.job n).endedBy r := by
  rw [Ctl.job_of_jobs (c.endJob_jobs n r), Ctl.modJob_job]

theorem Ctl.endJob_job_ne {n m : CardNo} (r : EndReason) (h : m ≠ n) : (c.endJob n r).job m = c.job m := by
  rw [Ctl.job_of_jobs (c.endJob_jobs n r), Ctl.modJob_job_ne c _ h]

theorem Ctl.endJob_card_ne {n m : CardNo} (r : EndReason) (h : m ≠ n) : (c.endJob n r).card m = c.card m := by
  rw [Ctl.endJob, Ctl.card_of_cards (Ctl.notifyJob_cards _ _), Ctl.lampUpdate_card_ne _ h,
    Ctl.evaluateClearance_card_ne _ h, Ctl.card_of_cards (Ctl.dropWaitUnlessRunning_cards _ _), Ctl.modJob_card]

end

/-! ## Frames over the shared state -/

section
variable {c t u : Ctl} {n : CardNo}

theorem Ctl.OtherJobsSame.trans (h : c.OtherJobsSame t n) (g : t.OtherJobsSame u n) : c.OtherJobsSame u n := by
  obtain ⟨hj, h1, h2, h3, h4⟩ := h
  obtain ⟨gj, g1, g2, g3, g4⟩ := g
  exact ⟨fun m e => ⟨(gj m e).1.trans (hj m e).1, (gj m e).2.trans (hj m e).2⟩, g1.trans h1, g2.trans h2, g3.trans h3,
    g4.trans h4⟩

theorem Ctl.OtherPortsSame.trans (h : c.OtherPortsSame t n) (g : t.OtherPortsSame u n) : c.OtherPortsSame u n := by
  obtain ⟨hc, h1, h2, h3⟩ := h
  obtain ⟨gc, g1, g2, g3⟩ := g
  exact ⟨fun m e => (gc m e).trans (hc m e), g1.trans h1, g2.trans h2, g3.trans h3⟩

theorem Ctl.OtherPortsSame.of_eq (hc : t.cards = c.cards) (hd : t.drives = c.drives) (hu : t.digest = c.digest)
    (hs : t.fillSeq = c.fillSeq) : c.OtherPortsSame t n := ⟨fun m _ => Ctl.card_of_cards hc m, hd, hu, hs⟩

theorem Ctl.OtherJobsSame.of_eq (hj : t.jobs = c.jobs) (hf : t.files = c.files)
    (hk : t.notices = c.notices ∧ t.linkFault = c.linkFault ∧ t.rateCode = c.rateCode ∧ t.debounce = c.debounce) :
    c.OtherJobsSame t n := ⟨fun m _ => ⟨Ctl.job_of_jobs hj m, Ctl.queue_of_files hf m⟩, hk⟩

variable (c n)

theorem Ctl.modJob_otherJobs (f : Job → Job) : c.OtherJobsSame (c.modJob n f) n :=
  ⟨fun _ h => ⟨Ctl.modJob_job_ne c f h, rfl⟩, rfl, rfl, rfl, rfl⟩

theorem Ctl.modJob_otherPorts (f : Job → Job) : c.OtherPortsSame (c.modJob n f) n := .of_eq rfl rfl rfl rfl

theorem Ctl.pushEntry_otherJobs (e : OutEntry) : c.OtherJobsSame (c.pushEntry e) n := .of_eq rfl rfl ⟨rfl, rfl, rfl, rfl⟩

theorem Ctl.pushEntry_otherPorts (e : OutEntry) : c.OtherPortsSame (c.pushEntry e) n := .of_eq rfl rfl rfl rfl

theorem Ctl.updJob_otherJobs (f : Job → Job) : c.OtherJobsSame (c.updJob n f) n :=
  ⟨fun _ h => ⟨Ctl.updJob_job_ne c f h, Ctl.queue_of_files (by simp) _⟩, by simp⟩

theorem Ctl.updJob_card_ne {m : CardNo} (f : Job → Job) (h : m ≠ n) : (c.updJob n f).card m = c.card m := by
  have base : (((c.modJob n f).dropWaitUnlessRunning n).lampUpdate n).card m = c.card m := by
    rw [Ctl.lampUpdate_card_ne _ h, Ctl.card_of_cards (Ctl.dropWaitUnlessRunning_cards _ _), Ctl.modJob_card]
  simp only [Ctl.updJob]
  split
  · exact base
  · rw [Ctl.card_of_cards (Ctl.notifyJob_cards _ _)]; exact base

theorem Ctl.updJob_otherPorts (f : Job → Job) : c.OtherPortsSame (c.updJob n f) n :=
  ⟨fun _ h => c.updJob_card_ne n f h, by simp, by simp, by simp⟩

theorem Ctl.endJob_otherJobs (r : EndReason) : c.OtherJobsSame (c.endJob n r) n :=
  ⟨fun _ h => ⟨c.endJob_job_ne r h, Ctl.queue_of_files (by simp) _⟩, by simp⟩

theorem Ctl.endJob_otherPorts (r : EndReason) : c.OtherPortsSame (c.endJob n r) n :=
  ⟨fun _ h => c.endJob_card_ne r h, by simp, by simp, by simp⟩

end

/-! ## Values after a reset -/

theorem Ctl.resetValues_job (a b : Nat) (j : CardNo) : (Ctl.resetValues a b).job j = Job.freeValues := by
  simp [Ctl.job, Ctl.resetValues]

theorem Ctl.resetValues_card (a b : Nat) (j : CardNo) : (Ctl.resetValues a b).card j = CardPort.resetValues := by
  simp [Ctl.card, Ctl.resetValues]

theorem Ctl.resetValues_drive (a b : Nat) (d : DriveNo) : (Ctl.resetValues a b).drive d = DrivePort.resetValues := by
  simp [Ctl.drive, Ctl.resetValues]

theorem Ctl.resetValues_slab (a b : Nat) (x : SlabNo) : (Ctl.resetValues a b).slab x = Slab.freeValues := by
  simp [Ctl.slab, Ctl.resetValues]

theorem Ctl.resetValues_sourceCount (a b : Nat) (j : CardNo) : (Ctl.resetValues a b).sourceCount j = 0 := by
  show (Vector.replicate 512 Slab.freeValues).toList.countP _ = 0
  rw [Vector.toList_replicate, List.countP_replicate]
  rfl

theorem Ctl.resetValues_freePool (a b : Nat) : (Ctl.resetValues a b).freePool = 508 := by
  show ((Vector.replicate 512 Slab.freeValues).toList.take 508).countP _ = 508
  rw [Vector.toList_replicate, List.take_replicate, List.countP_replicate]
  rfl

/-- Settles O24: each block's reset values, read off the state a reset leaves. -/
theorem resetValuesOfEveryBlock : Obligations.ResetValuesOfEveryBlock := by
  intro rate n c
  have jobs (j : CardNo) : c.job j = Job.freeValues := Ctl.resetValues_job rate n j
  have cards (j : CardNo) : c.card j = CardPort.resetValues := Ctl.resetValues_card rate n j
  have drives (d : DriveNo) : c.drive d = DrivePort.resetValues := Ctl.resetValues_drive rate n d
  refine ⟨fun j => ?_, rfl, rfl, rfl, rfl, Ctl.resetValues_freePool rate n, rfl, Ctl.resetValues_slab rate n, rfl,
    fun j => ?_, fun d => ?_, fun p => ?_, rfl, rfl, rfl, rfl⟩
  · simp only [Ctl.isBound, jobs]
    refine ⟨rfl, rfl, rfl, rfl, rfl, rfl, rfl, rfl, rfl, by decide, rfl, rfl, rfl, rfl, rfl, rfl, rfl, rfl, rfl, rfl, rfl,
      rfl, rfl, ?_, ?_, Ctl.resetValues_sourceCount rate n j⟩
    · show (Vector.replicate 8 false)[j] = false
      simp
    · show (Vector.replicate 8 none)[j] = none
      simp
  · simp only [cards]
    simp [CardPort.resetValues, Scan.resetValues]
  · simp only [drives]
    simp [DrivePort.resetValues]
  · cases p <;> simp [Ctl.link, cards, drives, CardPort.resetValues, DrivePort.resetValues, Link.resetValues]

end Sys2Proof.Machine

namespace Sys2Proof.Machine

/-! ## JOB_CLOSE (R7, R8) -/

/-- The end condition of R8, in words. -/
theorem Ctl.endCondition_iff (c : Ctl) (n : CardNo) :
    c.endCondition n = true ↔ ((c.job n).state = .running ∨ (c.job n).state = .held) ∧ (c.job n).closed = true
      ∧ c.queue n = [] ∧ c.sourceCount n = 0 := by
  simp [Ctl.endCondition, and_assoc]

/-- What a JOB_CLOSE that ends the job leaves. -/
theorem Ctl.closeJob_ends {c : Ctl} {n : CardNo} (hc : (c.job n).closed = false)
    (h : ((c.job n).state = .running ∨ (c.job n).state = .held) ∧ c.queue n = [] ∧ c.sourceCount n = 0) :
    c.closeJob n = (c.modJob n fun j => { j with closed := true }).endJob n .complete := by
  obtain ⟨hs, hq, hn⟩ := h
  have he : (c.modJob n fun j => { j with closed := true }).endCondition n = true := by
    rw [Ctl.endCondition_iff]
    simpa [hq, Ctl.sourceCount_of_slabs (Ctl.modJob_slabs c n _), hn] using hs
  simp [Ctl.closeJob, hc, Ctl.evaluateEnd, he]

/-- A JOB_CLOSE that ends nothing sets the closed flag. -/
theorem Ctl.closeJob_stays {c : Ctl} {n : CardNo} (hc : (c.job n).closed = false)
    (h : ¬(((c.job n).state = .running ∨ (c.job n).state = .held) ∧ c.queue n = [] ∧ c.sourceCount n = 0)) :
    c.closeJob n = c.modJob n fun j => { j with closed := true } := by
  have he : ¬(c.modJob n fun j => { j with closed := true }).endCondition n = true := by
    rw [Ctl.endCondition_iff]
    simpa [Ctl.sourceCount_of_slabs (Ctl.modJob_slabs c n _)] using h
  simp [Ctl.closeJob, hc, Ctl.evaluateEnd, he]

/-- Settles O38: the closed flag, and the end condition evaluated with it set. -/
theorem jobCloseClosesAndMayEnd : Obligations.JobCloseClosesAndMayEnd := by
  intro s f n ht hp ha
  have run : exec .jobClose s = .next (s.answer f (.ok (s.ctl.closeJob n, []))) :=
    exec_jobRequest (act := fun c n => .ok (c.closeJob n, [])) rfl ht hp (takes_of_availability (.inr rfl) ha)
  refine ⟨fun hc => ?_, fun hc => ?_⟩
  · rw [run, Ctl.closeJob, if_pos hc, State.answer_unchanged]
  intro ends
  refine ⟨fun h => ?_, fun h => ?_⟩
  · rw [run, Ctl.closeJob_stays hc h]
    rfl
  · rw [Ctl.closeJob_ends hc h] at run
    refine ⟨_, run, State.answer_doneIn .., ?_, ?_, ?_, ?_, ?_⟩
    all_goals rw [State.answer_ok_ctl]
    · rw [Ctl.job_of_jobs (Ctl.pushEntry_jobs _ _), Ctl.endJob_job, Ctl.modJob_job, Job.endedBy]
    · exact ((s.ctl.modJob_otherJobs n _).trans (Ctl.endJob_otherJobs _ n _)).trans (Ctl.pushEntry_otherJobs _ n _)
    · exact ((s.ctl.modJob_otherPorts n _).trans (Ctl.endJob_otherPorts _ n _)).trans (Ctl.pushEntry_otherPorts _ n _)
    · simp
    · simp

/-! ## JOB_FREE (R31, R35, R57, R61) -/

/-- The shared state in which job n's files are discarded and its record has its free values. -/
def Ctl.recordFreed (c : Ctl) (n : CardNo) : Ctl :=
  (({ c with files := c.files.filter fun f => f.ref.job != n } : Ctl).setFileDoneWaiting n false).modJob n
    fun _ => Job.freeValues

theorem Ctl.freeJob_eq (c : Ctl) (n : CardNo) :
    c.freeJob n = (((c.recordFreed n).lampUpdate n).notifyPort (.card n)).notifyJob n := rfl

theorem Ctl.recordFreed_queue (c : Ctl) (n : CardNo) : (c.recordFreed n).queue n = [] := by
  simp [Ctl.recordFreed, Ctl.queue]

theorem Ctl.recordFreed_otherJobs (c : Ctl) (n : CardNo) : c.OtherJobsSame (c.recordFreed n) n := by
  refine ⟨fun m hm => ⟨Ctl.modJob_job_ne _ _ hm, ?_⟩, rfl, rfl, rfl, rfl⟩
  simp only [Ctl.recordFreed, Ctl.queue, Ctl.modJob_files, Ctl.setFileDoneWaiting_files, List.filter_filter]
  refine List.filter_congr fun f _ => ?_
  by_cases h : f.ref.job = m <;> simp [h, hm]

/-- A JOB_STATE that is queued while enabled tells the job as it stands. -/
theorem Ctl.notifyJob_tells (c : Ctl) (n : CardNo) (h : c.notices.jobState = true) :
    (c.notifyJob n).Tells (.jobState n) (c.jobStatePayload n) := by
  unfold Ctl.notifyJob Ctl.Tells
  rw [if_pos h, Ctl.pushNotice_outq]
  exact coalesce_mem _ _ _

/-- The payload of JOB_STATE is the job record's. -/
theorem Ctl.jobStatePayload_of_jobs {c t : Ctl} (h : t.jobs = c.jobs) (n : CardNo) :
    t.jobStatePayload n = c.jobStatePayload n := by
  simp only [Ctl.jobStatePayload, Ctl.job_of_jobs h n]

theorem Ctl.Tells.pushEntry {c : Ctl} {x : Subject} {p : List Byte} (h : c.Tells x p) (e : OutEntry) :
    (c.pushEntry e).Tells x p := by
  obtain ⟨e', he, hk⟩ := h
  exact ⟨e', by simp [he], hk⟩

/-- Settles O44: the record freed, then a lamp and two notices that change no other field. -/
theorem jobFreeReturnsTheRecord : Obligations.JobFreeReturnsTheRecord := by
  intro s f n ht hp ha
  have run : exec .jobFree s = .next (s.answer f (.ok (s.ctl.freeJob n, []))) :=
    exec_jobRequest (act := fun c n => .ok (c.freeJob n, [])) rfl ht hp (takes_of_availability (.inr rfl) ha)
  refine ⟨_, run, State.answer_doneIn .., ?_⟩
  rw [State.answer_ok_ctl]
  have jobs : ((s.ctl.freeJob n).pushEntry (f.done [])).jobs = (s.ctl.recordFreed n).jobs := by simp [Ctl.freeJob_eq]
  have files : ((s.ctl.freeJob n).pushEntry (f.done [])).files = (s.ctl.recordFreed n).files := by
    simp [Ctl.freeJob_eq]
  have job : ((s.ctl.freeJob n).pushEntry (f.done [])).job n = Job.freeValues := by
    rw [Ctl.job_of_jobs jobs, Ctl.recordFreed, Ctl.modJob_job]
  have cards : ((s.ctl.freeJob n).pushEntry (f.done [])).cards = ((s.ctl.recordFreed n).lampUpdate n).cards := by
    simp [Ctl.freeJob_eq]
  refine ⟨job, ?_, ?_, ?_, ?_, fun hn => ?_, ?_, ⟨fun m hm => ?_, ?_, ?_, ?_⟩, ?_, ?_⟩
  · rw [Ctl.queue_of_files files, Ctl.recordFreed_queue]
  · rw [Ctl.isBound, job]; rfl
  · simp [Ctl.freeJob_eq, Ctl.recordFreed, Ctl.setFileDoneWaiting]
  · rw [Ctl.card_of_cards cards]; exact Ctl.lampUpdate_card (s.ctl.recordFreed n) n
  · have tells := (Ctl.notifyJob_tells (((s.ctl.recordFreed n).lampUpdate n).notifyPort (.card n)) n
      (by simpa [Ctl.recordFreed] using hn)).pushEntry (f.done [])
    rw [← Ctl.jobStatePayload_of_jobs (t := (s.ctl.freeJob n).pushEntry (f.done [])) (by simp [Ctl.freeJob_eq])] at tells
    exact tells
  · exact (s.ctl.recordFreed_otherJobs n).trans
      (.of_eq jobs files (by simp [Ctl.freeJob_eq]))
  · rw [Ctl.card_of_cards cards]; exact Ctl.lampUpdate_card_ne (s.ctl.recordFreed n) hm
  all_goals simp [Ctl.freeJob_eq, Ctl.recordFreed]

/-! ## JOB_OPEN (R4, R5) -/

theorem driveNo_ofNat (d : DriveNo) : driveNo? (BitVec.ofNat 8 d.val) = some d := by
  simp [driveNo?, toNat_ofNat_drive d]

theorem driveNo_eq_none {b : Byte} : driveNo? b = none ↔ 3 < b.toNat := by
  unfold driveNo?
  split <;> simp <;> omega

theorem driveNo_eq_some {b : Byte} {d : DriveNo} : driveNo? b = some d ↔ b = BitVec.ofNat 8 d.val := by
  refine ⟨fun h => ?_, fun h => h ▸ driveNo_ofNat d⟩
  unfold driveNo? at h
  split at h
  · rw [← Option.some.inj h]
    exact BitVec.eq_of_toNat_eq (by simp)
  · cases h

theorem ofNat_drive_injective : Function.Injective fun d : DriveNo => BitVec.ofNat 8 d.val := by
  intro d e h
  have := congrArg driveNo? h
  simpa [driveNo_ofNat] using this

theorem ofNat_drive_inj {d e : DriveNo} : BitVec.ofNat 8 d.val = BitVec.ofNat 8 e.val ↔ d = e :=
  ofNat_drive_injective.eq_iff

/-- The bytes of distinct drive ports, and nothing else, pass the check of the list (R4). -/
theorem drivePorts_eq_some {l : List Byte} {ds : List DriveNo} :
    drivePorts? l = some ds ↔ l = ds.map (fun d => BitVec.ofNat 8 d.val) ∧ ds.Nodup := by
  induction l generalizing ds with
  | nil => cases ds <;> simp [drivePorts?]
  | cons b rest ih =>
    simp only [drivePorts?]
    split
    · next d es hd hes =>
      obtain ⟨rfl, hn⟩ := ih.1 hes
      rw [driveNo_eq_some] at hd
      subst hd
      constructor
      · intro h
        split at h
        · cases h
        · next hmem => cases h; exact ⟨rfl, List.nodup_cons.2 ⟨hmem, hn⟩⟩
      · rintro ⟨hl, hds⟩
        have e : d :: es = ds := List.map_injective_iff.2 ofNat_drive_injective hl
        subst e
        rw [if_neg (List.nodup_cons.1 hds).1]
    · next hno =>
      refine ⟨fun h => (by cases h), fun ⟨hl, hds⟩ => ?_⟩
      cases ds with
      | nil => cases hl
      | cons d es =>
        obtain ⟨rfl, rfl⟩ := List.cons.inj hl
        exact (hno d es (driveNo_ofNat d) (ih.2 ⟨rfl, (List.nodup_cons.1 hds).2⟩)).elim

theorem drivePorts_eq_none {l : List Byte} : drivePorts? l = none ↔ (∃ p ∈ l, 3 < p.toNat) ∨ ¬l.Nodup := by
  induction l with
  | nil => simp [drivePorts?]
  | cons b rest ih =>
    simp only [drivePorts?]
    split
    · next d es hd hes =>
      obtain ⟨rfl, hn⟩ := drivePorts_eq_some.1 hes
      rw [driveNo_eq_some] at hd
      subst hd
      have none' := mt ih.2 (by simp [hes])
      have small : ¬3 < (BitVec.ofNat 8 d.val).toNat := by rw [toNat_ofNat_drive]; omega
      rw [not_or, not_not] at none'
      split <;> simp_all [ofNat_drive_inj]
    · next hno =>
      refine ⟨fun _ => ?_, fun _ => rfl⟩
      cases hd : driveNo? b with
      | none => exact .inl ⟨b, by simp, driveNo_eq_none.1 hd⟩
      | some d =>
        cases he : drivePorts? rest with
        | some es => exact (hno d es hd he).elim
        | none =>
          obtain ⟨p, hp, h3⟩ | hn := ih.1 he
          · exact .inl ⟨p, by simp [hp], h3⟩
          · exact .inr fun h => hn (List.nodup_cons.1 h).2

/-- A byte code of two values is one of them exactly up to 1 (R190). -/
theorem verifyMode_eq_none {b : Byte} : verifyMode? b = none ↔ 1 < b.toNat := by
  unfold verifyMode?; split <;> [skip; split] <;> simp_all; bv_omega
theorem release_eq_none {b : Byte} : release? b = none ↔ 1 < b.toNat := by
  unfold release?; split <;> [skip; split] <;> simp_all; bv_omega
theorem goneAction_eq_none {b : Byte} : goneAction? b = none ↔ 1 < b.toNat := by
  unfold goneAction?; split <;> [skip; split] <;> simp_all; bv_omega

@[simp] theorem verifyMode_code (v : VerifyMode) : verifyMode? v.code = some v := by cases v <;> rfl
@[simp] theorem release_code (r : Release) : release? r.code = some r := by cases r <;> rfl
@[simp] theorem goneAction_code (a : GoneAction) : goneAction? a.code = some a := by cases a <;> rfl

end Sys2Proof.Machine

namespace Sys2Proof.Machine

/-- The fields of a JOB_OPEN that R4's table refuses BAD_FIELD, with the ports already cut to the count. -/
def BadOpenFields (job cnt : Byte) (ports : List Byte) (clr ver cr da dr : Byte) : Prop :=
  7 < job.toNat ∨ cnt.toNat = 0 ∨ 4 < cnt.toNat ∨ (∃ p ∈ ports, 3 < p.toNat) ∨ ¬ports.Nodup ∨ clr.toNat = 0
    ∨ cnt.toNat < clr.toNat ∨ 1 < ver.toNat ∨ 1 < cr.toNat ∨ 1 < da.toNat ∨ 1 < dr.toNat

theorem cardNo_eq_none {b : Byte} : cardNo? b = none ↔ 7 < b.toNat := by
  unfold cardNo?
  split <;> simp <;> omega

section
variable (c : Ctl) (job cnt : Byte) (l : List Byte) (clr ver quo cr da dr : Byte)

/-- Fields that pass R4's checks, decoded. -/
theorem fields_of_not_bad (h : ¬BadOpenFields job cnt (l.take cnt.toNat) clr ver cr da dr) :
    ∃ n ds v cg act dg, cardNo? job = some n ∧ ¬(cnt.toNat < 1 ∨ 4 < cnt.toNat)
      ∧ drivePorts? (l.take cnt.toNat) = some ds ∧ ¬(clr.toNat < 1 ∨ cnt.toNat < clr.toNat)
      ∧ verifyMode? ver = some v ∧ release? cr = some cg ∧ goneAction? da = some act ∧ release? dr = some dg := by
  simp only [BadOpenFields, not_or] at h
  obtain ⟨h1, h2, h3, h4, h5, h6, h7, h8, h9, h10, h11⟩ := h
  have ports : drivePorts? (l.take cnt.toNat) ≠ none := fun g => (drivePorts_eq_none.1 g).elim h4 h5
  obtain ⟨n, hn⟩ := Option.ne_none_iff_exists'.1 (mt cardNo_eq_none.1 h1)
  obtain ⟨ds, hds⟩ := Option.ne_none_iff_exists'.1 ports
  obtain ⟨v, hv⟩ := Option.ne_none_iff_exists'.1 (mt verifyMode_eq_none.1 h8)
  obtain ⟨cg, hcg⟩ := Option.ne_none_iff_exists'.1 (mt release_eq_none.1 h9)
  obtain ⟨act, ha⟩ := Option.ne_none_iff_exists'.1 (mt goneAction_eq_none.1 h10)
  obtain ⟨dg, hdg⟩ := Option.ne_none_iff_exists'.1 (mt release_eq_none.1 h11)
  exact ⟨n, ds, v, cg, act, dg, hn, by omega, hds, by omega, hv, hcg, ha, hdg⟩

/-- A field that R4 refuses makes the request BAD_FIELD. -/
theorem Ctl.checkOpen_bad (h : BadOpenFields job cnt (l.take cnt.toNat) clr ver cr da dr) :
    c.checkOpen job cnt l clr ver quo cr da dr = .error .badField := by
  unfold Ctl.checkOpen
  split
  · rfl
  next n hn =>
  split
  · rfl
  next hcnt =>
  split
  · rfl
  next ds hds =>
  split
  · rfl
  next hclr =>
  split
  · next v cg act dg hv hcg ha hdg =>
    have some_of {α : Type} {o : Option α} {x : α} (e : o = some x) : o ≠ none := by simp [e]
    have ports : ¬((∃ p ∈ l.take cnt.toNat, 3 < p.toNat) ∨ ¬(l.take cnt.toNat).Nodup) :=
      mt drivePorts_eq_none.2 (some_of hds)
    have h1 := mt cardNo_eq_none.2 (some_of hn)
    have h2 := mt verifyMode_eq_none.2 (some_of hv)
    have h3 := mt release_eq_none.2 (some_of hcg)
    have h4 := mt goneAction_eq_none.2 (some_of ha)
    have h5 := mt release_eq_none.2 (some_of hdg)
    obtain h | h | h | h | h | h | h | h | h | h | h := h
    exacts [(h1 h).elim, by omega, by omega, (ports (.inl h)).elim, (ports (.inr h)).elim, by omega, by omega,
      (h2 h).elim, (h3 h).elim, (h4 h).elim, (h5 h).elim]
  · rfl

/-- A JOB_OPEN whose fields are good is decided by the job, its card port and its drive ports. -/
theorem Ctl.checkOpen_good {n : CardNo} {ds : List DriveNo} {v : VerifyMode} {cg dg : Release} {act : GoneAction}
    (hn : cardNo? job = some n) (hcnt : ¬(cnt.toNat < 1 ∨ 4 < cnt.toNat)) (hds : drivePorts? (l.take cnt.toNat) = some ds)
    (hclr : ¬(clr.toNat < 1 ∨ cnt.toNat < clr.toNat)) (hv : verifyMode? ver = some v) (hcg : release? cr = some cg)
    (ha : goneAction? da = some act) (hdg : release? dr = some dg) :
    c.checkOpen job cnt l clr ver quo cr da dr =
      if (c.job n).state ≠ .free then .error .slotInUse
      else if (c.card n).state ≠ .ready then .error .portNotReady
      else if !ds.all (fun d => (c.drive d).state == .ready) then .error .portNotReady
      else .ok (n, { dests := ds, clearance := clr.toNat, verify := v, quota := quotaOf quo, cardRelease := cg,
                     driveAction := act, driveRelease := dg }) := by
  simp only [Ctl.checkOpen, hn, if_neg hcnt, hds, if_neg hclr, hv, hcg, ha, hdg]

end

/-- A JOB_OPEN whose check gives a reason is refused for it. -/
theorem exec_jobOpen_refused {s : State} {f : RxFrame} {job cnt p0 p1 p2 p3 clr ver quo cr da dr : Byte} {r : Reason}
    (ht : s.Takes .jobOpen f) (hp : f.payload = [job, cnt, p0, p1, p2, p3, clr, ver, quo, cr, da, dr])
    (h : s.ctl.checkOpen job cnt [p0, p1, p2, p3] clr ver quo cr da dr = .error r) :
    exec .jobOpen s = .next (s.refusedFor f r) := by
  rw [exec_of_takes (act := reqJobOpen) rfl ht, hp, reqJobOpen, h, State.answer_error]

/-- Settles O33: the check of R4 refuses BAD_FIELD for its fields first, then for the job, the card and the drives. -/
theorem jobOpenChecksInOrder : Obligations.JobOpenChecksInOrder := by
  intro s f job cnt p0 p1 p2 p3 clr ver quo cr da dr ht hp ports badFields
  refine ⟨fun h => exec_jobOpen_refused ht hp (Ctl.checkOpen_bad _ _ _ _ _ _ _ _ _ _ h), fun h n hjob => ?_⟩
  obtain ⟨m, ds, v, cg, act, dg, hn, hcnt, hds, hclr, hv, hcg, ha, hdg⟩ := fields_of_not_bad job cnt _ clr ver cr da dr h
  have good := s.ctl.checkOpen_good job cnt _ clr ver quo cr da dr hn hcnt hds hclr hv hcg ha hdg
  obtain rfl : n = m := Option.some.inj ((cardNo_of_toNat hjob).symm.trans hn)
  refine ⟨fun hj => ?_, fun hj hc => ?_, fun hj hc ⟨d, hd, hready⟩ => ?_⟩
  all_goals refine exec_jobOpen_refused ht hp (good.trans ?_)
  · rw [if_pos hj]
  · rw [if_neg (not_not.2 hj), if_pos hc]
  · have listed : d ∈ ds := by
      have hm : BitVec.ofNat 8 d.val ∈ ds.map fun d => BitVec.ofNat 8 d.val := (drivePorts_eq_some.1 hds).1 ▸ hd
      obtain ⟨e, he, hde⟩ := List.mem_map.1 hm
      exact ofNat_drive_inj.1 hde ▸ he
    have all : (!ds.all fun d => (s.ctl.drive d).state == .ready) = true := by
      simp only [Bool.not_eq_true', List.all_eq_false]
      exact ⟨d, listed, by simpa using hready⟩
    rw [if_neg (not_not.2 hj), if_neg (not_not.2 hc), if_pos all]

/-! ## The record of an opened job -/

section
variable (c : Ctl) (n : CardNo) (o : OpenReq)

@[simp] theorem Ctl.openJob_jobs : (c.openJob n o).jobs = c.jobs.set n (c.openedJob n o) := by simp [Ctl.openJob]

/-- The card ports of an opened job: the port's marks, but for the lamp (R108). -/
theorem Ctl.openJob_card :
    { c.card n with cleared := false, unclean := false }.SameButLamp ((c.openJob n o).card n) := by
  rw [Ctl.openJob, Ctl.card_of_cards (Ctl.notifyJob_cards _ _), Ctl.card_of_cards (Ctl.notifyPort_cards _ _)]
  exact (Ctl.setMarks_card (c.modJob n fun _ => c.openedJob n o) n false (c.card n).residue false).trans
    (Ctl.lampUpdate_card _ n)

theorem Ctl.openJob_card_ne {m : CardNo} (h : m ≠ n) : (c.openJob n o).card m = c.card m := by
  rw [Ctl.openJob, Ctl.card_of_cards (Ctl.notifyJob_cards _ _), Ctl.card_of_cards (Ctl.notifyPort_cards _ _),
    Ctl.lampUpdate_card_ne _ h, Ctl.setMarks_card_ne _ _ _ _ h, Ctl.modJob_card]

theorem Ctl.openJob_otherJobs : c.OtherJobsSame (c.openJob n o) n :=
  (c.modJob_otherJobs n fun _ => c.openedJob n o).trans (.of_eq (by simp) (by simp [Ctl.openJob]) (by simp [Ctl.openJob]))

theorem Ctl.openJob_otherPorts : c.OtherPortsSame (c.openJob n o) n :=
  ⟨fun _ h => c.openJob_card_ne n o h, by simp [Ctl.openJob], by simp [Ctl.openJob], by simp [Ctl.openJob]⟩

end

/-- Settles O34: the fields decode, the check passes, and the record is filled. -/
theorem jobOpenFillsTheRecord : Obligations.JobOpenFillsTheRecord := by
  intro s f n ds clr quo pad v cg dg act ht hp hpad hne hnd hclr1 hclr2 hj hc hd quota
  have hcnt : (BitVec.ofNat 8 ds.length).toNat = ds.length := by rw [BitVec.toNat_ofNat]; omega
  have pos : 0 < ds.length := List.length_pos_of_ne_nil hne
  obtain ⟨p0, p1, p2, p3, hl⟩ : ∃ p0 p1 p2 p3, (ds.map fun d => BitVec.ofNat 8 d.val) ++ pad = [p0, p1, p2, p3] :=
    List.length_eq_four.1 (by simpa using hpad)
  have hports : drivePorts? ([p0, p1, p2, p3].take (BitVec.ofNat 8 ds.length).toNat) = some ds := by
    rw [drivePorts_eq_some, ← hl, hcnt]
    exact ⟨by simp, hnd⟩
  have all : ¬(!ds.all fun d => (s.ctl.drive d).state == .ready) = true := by simpa using hd
  have check := s.ctl.checkOpen_good _ _ [p0, p1, p2, p3] clr v.code quo cg.code act.code dg.code (cardNo_ofNat n)
    (by omega) hports (by omega) (verifyMode_code v) (release_code cg) (goneAction_code act) (release_code dg)
  rw [if_neg (not_not.2 hj), if_neg (not_not.2 hc), if_neg all] at check
  have hp' : f.payload = [BitVec.ofNat 8 n.val, BitVec.ofNat 8 ds.length, p0, p1, p2, p3, clr, v.code, quo, cg.code,
      act.code, dg.code] := by
    rw [hp, List.cons_append, List.cons_append, List.cons_append, List.cons_append, hl]
    rfl
  have run := exec_of_takes (i := .jobOpen) (act := reqJobOpen) rfl ht
  rw [hp', reqJobOpen, check] at run
  refine ⟨_, run, State.answer_doneIn .., ?_⟩
  rw [State.answer_ok_ctl]
  obtain ⟨cleared, residue, unclean, link, -⟩ := (s.ctl.openJob_card n
    { dests := ds, clearance := clr.toNat, verify := v, quota := quotaOf quo, cardRelease := cg, driveAction := act,
      driveRelease := dg }).fields
  refine ⟨?_, cleared, unclean, residue, link, (s.ctl.openJob_otherJobs n _).trans (Ctl.pushEntry_otherJobs _ n _),
    (s.ctl.openJob_otherPorts n _).trans (Ctl.pushEntry_otherPorts _ n _), ?_, ?_, ?_⟩
  · rw [Ctl.pushEntry_job, Ctl.job, Ctl.openJob_jobs]
    simp [Ctl.openedJob, quotaOf, quota, Job.freeValues]
  all_goals simp [Ctl.openJob]

end Sys2Proof.Machine

namespace Sys2Proof.Machine

/-! ## What a port takes from the work that is ready for it

The pump of one drive port is at most three moves: the context takes a file, a transaction becomes current, the stage is
filled. Each is one `PortStep`, with the condition under which it is made. -/

/-- The state c with other drive ports and slabs. -/
def Ctl.withWork (c : Ctl) (ds : Vector DrivePort 4) (xs : Vector Slab 512) : Ctl := { c with drives := ds, slabs := xs }

/-- t differs from c in drive port d and in slabs alone. -/
def Ctl.WorkOnly (c t : Ctl) (d : DriveNo) : Prop :=
  (∃ ds xs, t = c.withWork ds xs) ∧ ∀ e, e ≠ d → t.drive e = c.drive e

theorem Ctl.WorkOnly.refl (c : Ctl) (d : DriveNo) : c.WorkOnly c d := ⟨⟨_, _, rfl⟩, fun _ _ => rfl⟩

theorem Ctl.WorkOnly.trans {c t u : Ctl} {d : DriveNo} (h : c.WorkOnly t d) (g : t.WorkOnly u d) : c.WorkOnly u d := by
  obtain ⟨⟨ds, xs, rfl⟩, hd⟩ := h
  obtain ⟨⟨ds', xs', rfl⟩, gd⟩ := g
  exact ⟨⟨ds', xs', rfl⟩, fun e he => (gd e he).trans (hd e he)⟩

theorem Ctl.modDrive_workOnly (c : Ctl) (d : DriveNo) (f : DrivePort → DrivePort) : c.WorkOnly (c.modDrive d f) d :=
  ⟨⟨_, _, rfl⟩, fun _ he => Ctl.modDrive_drive_ne c f he⟩

theorem Ctl.modSlab_workOnly (c : Ctl) (d : DriveNo) (x : SlabNo) (f : Slab → Slab) : c.WorkOnly (c.modSlab x f) d :=
  ⟨⟨_, _, rfl⟩, fun _ _ => rfl⟩

theorem Ctl.driveIssue_workOnly (c : Ctl) (d : DriveNo) (k : TxnKind) (a n : Nat) : c.WorkOnly (c.driveIssue d k a n) d :=
  c.modDrive_workOnly d _

/-- The fields of a state that shares all but drive ports and slabs with c. -/
theorem Ctl.WorkOnly.same {c t : Ctl} {d : DriveNo} (h : c.WorkOnly t d) :
    t.jobs = c.jobs ∧ t.files = c.files ∧ t.cards = c.cards ∧ t.waitList = c.waitList ∧ t.digest = c.digest
      ∧ t.lastGranted = c.lastGranted ∧ t.fillSeq = c.fillSeq ∧ t.outq = c.outq := by
  obtain ⟨⟨ds, xs, rfl⟩, -⟩ := h
  exact ⟨rfl, rfl, rfl, rfl, rfl, rfl, rfl, rfl⟩

/-- A slab as a WRITE of it begins on d: the same but for its writes in flight, which lose no port. -/
def Slab.KeptBut (s s' : Slab) : Prop :=
  s' = { s with inFlight := s'.inFlight } ∧ ∀ e : DriveNo, s.inFlight[e] = true → s'.inFlight[e] = true

theorem Slab.KeptBut.refl (s : Slab) : s.KeptBut s := ⟨rfl, fun _ h => h⟩

theorem Slab.KeptBut.fields {s s' : Slab} (h : s.KeptBut s') :
    s'.job = s.job ∧ s'.state = s.state ∧ s'.purpose = s.purpose ∧ s'.file = s.file ∧ s'.offset = s.offset
      ∧ s'.len = s.len ∧ s'.pendingWrites = s.pendingWrites := by
  rw [h.1]
  exact ⟨rfl, rfl, rfl, rfl, rfl, rfl, rfl⟩

/-! ### The start of a WRITE (R141, R68) -/

section
variable {c : Ctl} {d : DriveNo} {x : SlabNo} {b : Nat} {first : Bool}

theorem Ctl.startWrite_none (h : c.writeTxn d x b = none) : c.startWrite d x b first = c := by
  simp [Ctl.startWrite, h]

/-- The drive port after its WRITE of slab x from block b has begun. -/
def DrivePort.begun (p : DrivePort) (x : SlabNo) (b start count : Nat) (first : Bool) : DrivePort :=
  { p with
    writing := if first then some { slab := x, next := b } else p.writing
    failed := 0
    link := p.link.issue .write start count 0 Config.driveTimeout }

theorem Ctl.startWrite_drive {start count : Nat} (h : c.writeTxn d x b = some (start, count)) :
    (c.startWrite d x b first).drive d = (c.drive d).begun x b start count first := by
  cases first <;> simp [Ctl.startWrite, h, Ctl.driveIssue, DrivePort.begun]

variable (c d x b first)

theorem Ctl.startWrite_workOnly : c.WorkOnly (c.startWrite d x b first) d := by
  unfold Ctl.startWrite
  split
  · exact .refl c d
  · refine .trans (.trans ?_ (Ctl.modDrive_workOnly _ d _)) (Ctl.driveIssue_workOnly ..)
    split
    · exact (c.modDrive_workOnly d _).trans (Ctl.modSlab_workOnly _ d x _)
    · exact .refl c d

theorem Ctl.startWrite_slab (y : SlabNo) : (c.slab y).KeptBut ((c.startWrite d x b first).slab y) := by
  unfold Ctl.startWrite
  split
  · exact .refl _
  · simp only [Ctl.driveIssue, Ctl.modDrive_slab]
    split
    · rw [Ctl.modSlab_slab_ite]
      split
      · next h =>
        subst h
        refine ⟨rfl, fun e he => ?_⟩
        simp only [Ctl.modDrive_slab, Fin.getElem_fin] at he ⊢
        rw [Vector.getElem_set]
        split
        · rfl
        · exact he
      · exact .refl _
    · exact .refl _

/-- What the start of a WRITE leaves of the port's queues, context and stage; a writing entry it makes is of slab x. -/
theorem Ctl.startWrite_port (h : (c.drive d).link.isIdle = true) :
    let p := c.drive d
    let q := (c.startWrite d x b first).drive d
    q.writeQueue = p.writeQueue ∧ q.verifyQueue = p.verifyQueue ∧ q.context = p.context ∧ q.staged = p.staged
      ∧ q.state = p.state ∧ (q.writing = p.writing ∨ first = true ∧ q.writing = some { slab := x, next := b })
      ∧ (q = p ∨ q.link.isIdle = false) := by
  cases hw : c.writeTxn d x b with
  | none =>
    rw [Ctl.startWrite_none hw]
    simp
  | some v =>
    rw [Ctl.startWrite_drive (start := v.1) (count := v.2) hw]
    refine ⟨rfl, rfl, rfl, rfl, rfl, ?_, .inr ?_⟩
    · cases first <;> simp [DrivePort.begun]
    · have hc : (c.drive d).link.cond = .idle := by simpa [Link.isIdle] using h
      rw [DrivePort.begun, Link.issue_idle _ hc]
      rfl

end

end Sys2Proof.Machine

namespace Sys2Proof.Machine

/-! ### The read of a span to be verified (R99) -/

/-- The file a context reads back, and the byte offset it has come to. -/
def Context.place (k : Context) : FileRef × Nat := (k.file, k.nextOffset)

/-- A context that begins to read file r back: at offset 0, with nothing folded (R98). -/
def Context.atStart (r : FileRef) : Context :=
  { file := r, nextOffset := 0, span := none, nextBlock := 0, acc := { a := 0, b := 0, words := 0 } }

/-- The context k with span sp in hand. -/
def Context.holding (k : Context) (sp : Span) : Context := { k with span := some sp, nextBlock := firstBlock sp.offset }

/-- The span that starts at the context's next byte offset of its file f (R99). -/
def Context.spanAt (k : Context) (f : FileRec) : Span := { offset := k.nextOffset, len := spanLen f.len k.nextOffset }

/-- The verify slab of d as the reading of span sp of file r begins (R71). -/
def spanSlab (d : DriveNo) (r : FileRef) (sp : Span) : Slab :=
  { Slab.freeValues with
    state := .filling, purpose := .verify, port := some (.drive d), file := some r, offset := sp.offset, len := sp.len }

/-- A verify read that is ready, taken apart: the context, its file, and the span in hand or to be taken. -/
theorem Ctl.verifyReady_iff (c : Ctl) (d : DriveNo) :
    c.verifyReady d = true ↔ (c.drive d).state = .ready ∧ ∃ k f, (c.drive d).context = some k ∧ c.file? k.file = some f
      ∧ ((k.span = none ∧ k.nextOffset < f.len ∧ (c.slab (verifySlab d)).state = .free)
        ∨ ∃ sp, k.span = some sp ∧ k.nextBlock < endBlock sp.offset sp.len ∧ (c.drive d).link.carries .read = false) := by
  unfold Ctl.verifyReady Ctl.contextFile
  cases hk : (c.drive d).context with
  | none => simp
  | some k =>
    cases hf : c.file? k.file with
    | none => simp [hf]
    | some f => cases hs : k.span <;> simp [hk, hf, hs]

section
variable {c : Ctl} {d : DriveNo} {k : Context} {f : FileRec}

theorem Ctl.takeSpan_none (hk : (c.drive d).context = some k) (hf : c.file? k.file = some f) (hs : k.span = none) :
    c.takeSpan d = (c.modDrive d fun p => { p with context := some (k.holding (k.spanAt f)) }).modSlab (verifySlab d)
      fun _ => spanSlab d k.file (k.spanAt f) := by
  simp [Ctl.takeSpan, Ctl.contextFile, hk, hf, hs, Context.holding, Context.spanAt, spanSlab]

theorem Ctl.takeSpan_some {sp : Span} (hk : (c.drive d).context = some k) (hs : k.span = some sp) :
    c.takeSpan d = c := by
  unfold Ctl.takeSpan
  rw [hk]
  split
  · next k' f' hk' hf' =>
    cases hk'
    simp [hs]
  · rfl

variable (c d)

theorem Ctl.takeSpan_workOnly : c.WorkOnly (c.takeSpan d) d := by
  unfold Ctl.takeSpan
  split
  · split
    · exact .refl c d
    · exact (c.modDrive_workOnly d _).trans (Ctl.modSlab_workOnly _ d _ _)
  · exact .refl c d

/-- The port as a read-back of its span becomes current. -/
def DrivePort.readingBack (p : DrivePort) (start count : Nat) : DrivePort :=
  { p with failed := 0, readAbandoned := false, link := p.link.issue .read start count 0 Config.driveTimeout }

/-- An issue of a read-back changes the port, if anything: no attempt has failed, none is abandoned, the READ is sent. -/
theorem Ctl.issueReadBack_cases :
    c.issueReadBack d = c ∨ ∃ start count, c.issueReadBack d = c.modDrive d fun p => p.readingBack start count := by
  unfold Ctl.issueReadBack
  split
  · split
    · split
      · exact .inr ⟨_, _, by rw [Ctl.driveIssue, Ctl.modDrive_modDrive]; rfl⟩
      · exact .inl rfl
    · exact .inl rfl
  · exact .inl rfl

theorem Ctl.issueReadBack_workOnly : c.WorkOnly (c.issueReadBack d) d := by
  obtain h | ⟨start, count, h⟩ := c.issueReadBack_cases d
  · rw [h]; exact .refl c d
  · rw [h]; exact c.modDrive_workOnly d _

/-- What a ready verify read leaves of the port's queues, writing entry and stage, and whose file its context reads. -/
theorem Ctl.readBack_port (h : c.verifyReady d = true) :
    let p := c.drive d
    let q := ((c.takeSpan d).issueReadBack d).drive d
    q.writeQueue = p.writeQueue ∧ q.verifyQueue = p.verifyQueue ∧ q.writing = p.writing ∧ q.staged = p.staged
      ∧ q.state = p.state ∧ q.context.map Context.place = p.context.map Context.place := by
  obtain ⟨-, k, f, hk, hf, hs⟩ := (c.verifyReady_iff d).1 h
  have span : (((c.takeSpan d).drive d) = c.drive d ∨
      (c.takeSpan d).drive d = { c.drive d with context := some (k.holding (k.spanAt f)) }) := by
    obtain ⟨hs, -, -⟩ | ⟨sp, hs, -⟩ := hs
    · exact .inr (by simp [Ctl.takeSpan_none hk hf hs])
    · exact .inl (by rw [Ctl.takeSpan_some hk hs])
  have issued : ∃ q, ((c.takeSpan d).issueReadBack d).drive d = q ∧ q.writeQueue = ((c.takeSpan d).drive d).writeQueue
      ∧ q.verifyQueue = ((c.takeSpan d).drive d).verifyQueue ∧ q.writing = ((c.takeSpan d).drive d).writing
      ∧ q.staged = ((c.takeSpan d).drive d).staged ∧ q.state = ((c.takeSpan d).drive d).state
      ∧ q.context = ((c.takeSpan d).drive d).context := by
    obtain e | ⟨start, count, e⟩ := (c.takeSpan d).issueReadBack_cases d
    · rw [e]; exact ⟨_, rfl, rfl, rfl, rfl, rfl, rfl, rfl⟩
    · rw [e, Ctl.modDrive_drive]; exact ⟨_, rfl, rfl, rfl, rfl, rfl, rfl, rfl⟩
  obtain ⟨q, hq, q1, q2, q3, q4, q5, q6⟩ := issued
  rw [hq]
  obtain e | e := span <;> rw [e] at q1 q2 q3 q4 q5 q6
  · exact ⟨q1, q2, q3, q4, q5, by rw [q6]⟩
  · exact ⟨q1, q2, q3, q4, q5, by rw [q6, hk]; rfl⟩

/-- The slabs of a ready verify read: all as they were, but a FREE verify slab that is taken for the span. -/
theorem Ctl.readBack_slab (h : c.verifyReady d = true) (y : SlabNo) :
    ((c.takeSpan d).issueReadBack d).slab y = c.slab y
      ∨ y = verifySlab d ∧ (c.slab y).state = .free
        ∧ ∃ r sp, ((c.takeSpan d).issueReadBack d).slab y = spanSlab d r sp := by
  have issued : ((c.takeSpan d).issueReadBack d).slab y = (c.takeSpan d).slab y := by
    obtain e | ⟨start, count, e⟩ := (c.takeSpan d).issueReadBack_cases d <;> rw [e]
    rfl
  obtain ⟨-, k, f, hk, hf, hs⟩ := (c.verifyReady_iff d).1 h
  rw [issued]
  obtain ⟨hs, -, hfree⟩ | ⟨sp, hs, -⟩ := hs
  · rw [Ctl.takeSpan_none hk hf hs, Ctl.modSlab_slab_ite]
    split
    · next e => exact .inr ⟨e, e ▸ hfree, _, _, rfl⟩
    · exact .inl rfl
  · rw [Ctl.takeSpan_some hk hs]; exact .inl rfl

end

/-! ### One move of a port -/

/-- Drive port d takes one piece of work that is ready for it (R98, R143, R144). -/
inductive Ctl.PortStep (d : DriveNo) (c : Ctl) : Ctl → Prop
  | verify (r : FileRef) (hk : (c.drive d).context = none) (hr : r ∈ (c.drive d).verifyQueue)
      (ha : (c.job r.job).allowsWork = true) :
      c.PortStep d (c.modDrive d fun p =>
        { p with verifyQueue := p.verifyQueue.erase r, context := some (Context.atStart r) })
  | staged (g : Staged) (hl : (c.drive d).link.isIdle = true) (hg : (c.drive d).staged = some g) :
      c.PortStep d ((c.modDrive d fun p => { p with staged := none }).startWrite d g.slab g.block g.first)
  | readBack (hl : (c.drive d).link.isIdle = true) (hv : c.verifyReady d = true) :
      c.PortStep d ((c.takeSpan d).issueReadBack d)
  | next (x : SlabNo) (b : Nat) (hl : (c.drive d).link.isIdle = true) (hn : c.nextOfWriting d = some (x, b)) :
      c.PortStep d (c.startWrite d x b false)
  | oldest (x : SlabNo) (hl : (c.drive d).link.isIdle = true) (hx : c.oldestEligible d = some x) :
      c.PortStep d ((c.modDrive d fun p => { p with writeQueue := p.writeQueue.erase x }).startWrite d x
        (firstBlock (c.slab x).offset) true)
  | stageNext (x : SlabNo) (b : Nat) (hs : (c.drive d).staged = none) (hl : (c.drive d).link.flight.isSome = true)
      (hn : c.nextOfWriting d = some (x, b)) :
      c.PortStep d (c.modDrive d fun p => { p with staged := some { slab := x, block := b, first := false } })
  | stageOldest (x : SlabNo) (hs : (c.drive d).staged = none) (hl : (c.drive d).link.flight.isSome = true)
      (hx : c.oldestEligible d = some x) :
      c.PortStep d (c.modDrive d fun p =>
        { p with
          writeQueue := p.writeQueue.erase x
          staged := some { slab := x, block := firstBlock (c.slab x).offset, first := true } })

/-- The context's move, the choice and the filling of the stage are each one step or none. -/
theorem Ctl.takeVerify_step (c : Ctl) (d : DriveNo) : c.takeVerify d = c ∨ c.PortStep d (c.takeVerify d) := by
  simp only [Ctl.takeVerify]
  split
  · next h =>
    split
    · exact .inl rfl
    · next r hr => exact .inr (.verify r h.2 (List.mem_of_find?_eq_some hr) (by simpa using List.find?_some hr))
  · exact .inl rfl

theorem Ctl.choose_step (c : Ctl) (d : DriveNo) : c.choose d = c ∨ c.PortStep d (c.choose d) := by
  simp only [Ctl.choose]
  split
  · next h =>
    split
    · next g hg => exact .inr (.staged g h.2 hg)
    · split
      · next hv => exact .inr (.readBack h.2 hv)
      · split
        · next x b hn => exact .inr (.next x b h.2 hn)
        · split
          · next x hx => exact .inr (.oldest x h.2 hx)
          · exact .inl rfl
  · exact .inl rfl

theorem Ctl.fillStage_step (c : Ctl) (d : DriveNo) : c.fillStage d = c ∨ c.PortStep d (c.fillStage d) := by
  simp only [Ctl.fillStage]
  split
  · next h =>
    obtain ⟨-, hl, hs, -⟩ := h
    split
    · next x b hn => exact .inr (.stageNext x b hs hl hn)
    · split
      · next x hx => exact .inr (.stageOldest x hs hl hx)
      · exact .inl rfl
  · exact .inl rfl

/-- What holds before a pump and is kept by each step of the port holds after it. -/
theorem Ctl.pump_induction {P : Ctl → Prop} {c : Ctl} {d : DriveNo} (h : P c)
    (step : ∀ a b, P a → a.PortStep d b → P b) : P (c.pump d) := by
  have one {a b : Ctl} (ha : P a) (hb : b = a ∨ a.PortStep d b) : P b := hb.elim (fun e => e ▸ ha) (step a b ha)
  exact one (one (one h (c.takeVerify_step d)) (Ctl.choose_step _ d)) (Ctl.fillStage_step _ d)

section
variable {c t : Ctl} {d : DriveNo}

theorem Ctl.PortStep.workOnly (h : c.PortStep d t) : c.WorkOnly t d := by
  cases h with
  | verify | stageNext | stageOldest => exact c.modDrive_workOnly d _
  | staged | oldest => exact (c.modDrive_workOnly d _).trans (Ctl.startWrite_workOnly ..)
  | readBack => exact (c.takeSpan_workOnly d).trans (Ctl.issueReadBack_workOnly _ d)
  | next => exact c.startWrite_workOnly ..

/-- The slabs after a step: each kept but for its writes in flight, or the FREE verify slab taken for a span. -/
theorem Ctl.PortStep.slab (h : c.PortStep d t) (y : SlabNo) :
    (c.slab y).KeptBut (t.slab y)
      ∨ y = verifySlab d ∧ (c.slab y).state = .free ∧ ∃ r sp, t.slab y = spanSlab d r sp := by
  cases h with
  | verify | stageNext | stageOldest => exact .inl (.refl _)
  | staged | oldest => exact .inl (Ctl.startWrite_slab _ d _ _ _ y)
  | readBack hl hv =>
    obtain e | e := c.readBack_slab d hv y
    · rw [e]; exact .inl (.refl _)
    · exact .inr e
  | next => exact .inl (c.startWrite_slab d _ _ _ y)

end

/-- What a step of port d, now q, does to its queues, its context, its stage, its writing entry and its link. -/
structure Ctl.PortEffect (c : Ctl) (d : DriveNo) (q : DrivePort) : Prop where
  /-- The write queue stays, or an eligible entry leaves it, to be staged or written. -/
  entries : q.writeQueue = (c.drive d).writeQueue
    ∨ ∃ x ∈ (c.drive d).writeQueue, c.eligible x = true ∧ q.writeQueue = (c.drive d).writeQueue.erase x
      ∧ ((c.writeTxn d x (firstBlock (c.slab x).offset)).isSome = true →
          (∃ g, q.staged = some g ∧ g.slab = x)
            ∨ q.writing = some { slab := x, next := firstBlock (c.slab x).offset })
  /-- The verify queue and the context's place stay, or the IDLE context takes a file whose job allows verifies. -/
  verifies : (q.verifyQueue = (c.drive d).verifyQueue
      ∧ q.context.map Context.place = (c.drive d).context.map Context.place)
    ∨ ∃ r ∈ (c.drive d).verifyQueue, (c.drive d).context = none ∧ (c.job r.job).allowsWork = true
      ∧ q.verifyQueue = (c.drive d).verifyQueue.erase r ∧ q.context = some (Context.atStart r)
  /-- The stage holds what it held, the next WRITE of the writing entry, or the first of an eligible entry. -/
  staged : ∀ g, q.staged = some g → (c.drive d).staged = some g
    ∨ (∃ w, (c.drive d).writing = some w ∧ g.slab = w.slab ∧ c.writeLive d w.slab = true ∧ g.first = false)
    ∨ g.slab ∈ (c.drive d).writeQueue ∧ c.eligible g.slab = true
  /-- The writing entry is the one that was, or of the slab that was staged, or of an eligible entry. -/
  writing : ∀ w, q.writing = some w → (c.drive d).writing = some w
    ∨ (c.drive d).link.isIdle = true ∧ ((∃ g, (c.drive d).staged = some g ∧ g.slab = w.slab)
        ∨ w.slab ∈ (c.drive d).writeQueue ∧ c.eligible w.slab = true)
  /-- A busy link stays as it is, and with it the writing entry and a stage that is not empty. -/
  busy : (c.drive d).link.isIdle = false → q.link = (c.drive d).link ∧ q.writing = (c.drive d).writing
    ∧ ∀ g, (c.drive d).staged = some g → q.staged = some g
  /-- Over a link that is IDLE afterwards nothing has begun and nothing is staged anew. -/
  idle : q.link.isIdle = true → q.writing = (c.drive d).writing ∧ ∀ g, q.staged = some g → (c.drive d).staged = some g
  state : q.state = (c.drive d).state

/-- The entry that goes on is the writing entry's. -/
theorem Ctl.nextOfWriting_spec {c : Ctl} {d : DriveNo} {x : SlabNo} {b : Nat} (h : c.nextOfWriting d = some (x, b)) :
    ∃ w, (c.drive d).writing = some w ∧ x = w.slab ∧ c.writeLive d w.slab = true := by
  simp only [Ctl.nextOfWriting] at h
  split at h
  · cases h
  · next w hw =>
    split at h
    · next hl =>
      cases h
      exact ⟨w, hw, rfl, (Bool.and_eq_true _ _ ▸ hl).1⟩
    · cases h

theorem Ctl.oldestEligible_spec {c : Ctl} {d : DriveNo} {x : SlabNo} (h : c.oldestEligible d = some x) :
    x ∈ (c.drive d).writeQueue ∧ c.eligible x = true :=
  ⟨List.mem_of_find?_eq_some h, List.find?_some (p := fun x => c.eligible x) h⟩

theorem Link.isIdle_eq_false_of_flight {l : Link} (h : l.flight.isSome = true) : l.isIdle = false := by
  obtain ⟨f, hf⟩ := Option.isSome_iff_exists.1 h
  simp [Link.isIdle, Link.flight_eq_some.1 hf]

theorem Ctl.PortStep.effect {c t : Ctl} {d : DriveNo} (h : c.PortStep d t) : c.PortEffect d (t.drive d) := by
  have idle_ne {P : Prop} (hl : (c.drive d).link.isIdle = true) (h : (c.drive d).link.isIdle = false) : P := by
    rw [hl] at h; cases h
  have idle_ne' {P : Prop} (hl : (c.drive d).link.flight.isSome = true) (h : (c.drive d).link.isIdle = true) : P := by
    rw [Link.isIdle_eq_false_of_flight hl] at h; cases h
  cases h with
  | verify r hk hr ha =>
    rw [Ctl.modDrive_drive]
    exact ⟨.inl rfl, .inr ⟨r, hr, hk, ha, rfl, rfl⟩, fun g e => .inl e, fun w e => .inl e,
      fun _ => ⟨rfl, rfl, fun _ e => e⟩, fun _ => ⟨rfl, fun _ e => e⟩, rfl⟩
  | staged g hl hg =>
    obtain ⟨h1, h2, h3, h4, h5, h6, h7⟩ := Ctl.startWrite_port (c.modDrive d fun p => { p with staged := none }) d g.slab
      g.block g.first (by simpa using hl)
    simp only [Ctl.modDrive_drive] at h1 h2 h3 h4 h5 h6 h7
    refine ⟨.inl h1, .inl ⟨h2, by rw [h3]⟩, fun g' e => ?_, fun w e => ?_, idle_ne hl, fun hq => ⟨?_, fun g' e => ?_⟩, h5⟩
    · rw [h4] at e; cases e
    · obtain h | ⟨-, h⟩ := h6
      · exact .inl (h ▸ e)
      · rw [h] at e
        cases e
        exact .inr ⟨hl, .inl ⟨g, hg, rfl⟩⟩
    · obtain e | e := h7
      · rw [e]
      · rw [e] at hq; cases hq
    · rw [h4] at e; cases e
  | readBack hl hv =>
    obtain ⟨h1, h2, h3, h4, h5, h6⟩ := c.readBack_port d hv
    exact ⟨.inl h1, .inl ⟨h2, h6⟩, fun g e => .inl (h4 ▸ e), fun w e => .inl (h3 ▸ e), idle_ne hl,
      fun _ => ⟨h3, fun g e => h4 ▸ e⟩, h5⟩
  | next x b hl hn =>
    obtain ⟨h1, h2, h3, h4, h5, h6, -⟩ := c.startWrite_port d x b false hl
    have same : ((c.startWrite d x b false).drive d).writing = (c.drive d).writing :=
      h6.resolve_right fun ⟨h, _⟩ => by cases h
    exact ⟨.inl h1, .inl ⟨h2, by rw [h3]⟩, fun g e => .inl (h4 ▸ e), fun w e => .inl (same ▸ e), idle_ne hl,
      fun _ => ⟨same, fun g e => h4 ▸ e⟩, h5⟩
  | oldest x hl hx =>
    obtain ⟨hmem, he⟩ := Ctl.oldestEligible_spec hx
    obtain ⟨h1, h2, h3, h4, h5, h6, h7⟩ := Ctl.startWrite_port
      (c.modDrive d fun p => { p with writeQueue := p.writeQueue.erase x }) d x (firstBlock (c.slab x).offset) true
      (by simpa using hl)
    simp only [Ctl.modDrive_drive] at h1 h2 h3 h4 h5 h6 h7
    refine ⟨.inr ⟨x, hmem, he, h1, fun hw => .inr ?_⟩, .inl ⟨h2, by rw [h3]⟩, fun g e => .inl (h4 ▸ e), fun w e => ?_,
      idle_ne hl, fun hq => ⟨?_, fun g e => h4 ▸ e⟩, h5⟩
    · obtain ⟨v, hv⟩ := Option.isSome_iff_exists.1 hw
      have hv' : (c.modDrive d fun p => { p with writeQueue := p.writeQueue.erase x }).writeTxn d x
          (firstBlock (c.slab x).offset) = some (v.1, v.2) := hv
      rw [Ctl.startWrite_drive hv']
      rfl
    · obtain h | ⟨-, h⟩ := h6
      · exact .inl (h ▸ e)
      · rw [h] at e
        cases e
        exact .inr ⟨hl, .inr ⟨hmem, he⟩⟩
    · obtain e | e := h7
      · rw [e]
      · rw [e] at hq; cases hq
  | stageNext x b hs hl hn =>
    rw [Ctl.modDrive_drive]
    refine ⟨.inl rfl, .inl ⟨rfl, rfl⟩, fun g e => ?_, fun w e => .inl e, fun _ => ⟨rfl, rfl, fun g e => ?_⟩,
      idle_ne' hl, rfl⟩
    · cases e
      obtain ⟨w, hw, hx, hlive⟩ := Ctl.nextOfWriting_spec hn
      exact .inr (.inl ⟨w, hw, hx, hlive, rfl⟩)
    · rw [hs] at e; cases e
  | stageOldest x hs hl hx =>
    obtain ⟨hmem, he⟩ := Ctl.oldestEligible_spec hx
    rw [Ctl.modDrive_drive]
    refine ⟨.inr ⟨x, hmem, he, rfl, fun _ => .inl ⟨_, rfl, rfl⟩⟩, .inl ⟨rfl, rfl⟩, fun g e => ?_, fun w e => .inl e,
      fun _ => ⟨rfl, rfl, fun g e => ?_⟩, idle_ne' hl, rfl⟩
    · cases e
      exact .inr (.inr ⟨hmem, he⟩)
    · rw [hs] at e; cases e

/-! ### What follows from the effect of a step -/

section
variable {c : Ctl} {d : DriveNo} {q : DrivePort}

theorem Ctl.PortEffect.writeQueue_sublist (h : c.PortEffect d q) : q.writeQueue.Sublist (c.drive d).writeQueue := by
  obtain e | ⟨x, -, -, e, -⟩ := h.entries
  · rw [e]
  · rw [e]; exact List.erase_sublist

/-- An entry whose job allows no writes stays in the queue. -/
theorem Ctl.PortEffect.entry_stays (h : c.PortEffect d q) {x : SlabNo} (hx : x ∈ (c.drive d).writeQueue)
    (he : c.eligible x = false) : x ∈ q.writeQueue := by
  obtain e | ⟨y, -, hy, e, -⟩ := h.entries
  · rwa [e]
  · rw [e]
    refine (List.mem_erase_of_ne ?_).2 hx
    rintro rfl
    rw [hy] at he
    cases he

theorem Ctl.PortEffect.verifyQueue_sublist (h : c.PortEffect d q) :
    q.verifyQueue.Sublist (c.drive d).verifyQueue := by
  obtain ⟨e, -⟩ | ⟨r, -, -, -, e, -⟩ := h.verifies
  · rw [e]
  · rw [e]; exact List.erase_sublist

/-- The file of the context after a step: the one it had, or one of the queue whose job allows verifies. -/
theorem Ctl.PortEffect.context_file (h : c.PortEffect d q) {k : Context} (hk : q.context = some k) :
    (∃ k0, (c.drive d).context = some k0 ∧ k.file = k0.file)
      ∨ k.file ∈ (c.drive d).verifyQueue ∧ (c.job k.file.job).allowsWork = true := by
  obtain ⟨-, e⟩ | ⟨r, hr, -, ha, -, e⟩ := h.verifies
  · rw [hk] at e
    obtain ⟨k0, hk0, hp⟩ := Option.map_eq_some_iff.1 e.symm
    exact .inl ⟨k0, hk0, (congrArg Prod.fst hp).symm⟩
  · rw [hk] at e
    cases e
    exact .inr ⟨hr, ha⟩

end

end Sys2Proof.Machine

namespace Sys2Proof.Machine

/-! ## What follows from an event, step by step

An event on behalf of some jobs is followed by many small changes: entries are withdrawn, slabs are released and granted
again, files retire, ports take work. `Consequence` names each such change with what it may touch, `Leads` is any run of
them. An invariant is proved once, of each `Consequence`. -/

/-- A job record without what releases, retirements and source results count in it. -/
def Job.core (j : Job) : Job := { j with failures := 0, retired := 0, released := 0, clean := true }

theorem Job.core_fields {j j' : Job} (h : j'.core = j.core) :
    j'.state = j.state ∧ j'.dests = j.dests ∧ j'.holds = j.holds ∧ j'.lastRelease = j.lastRelease
      ∧ j'.faultCause = j.faultCause ∧ j'.closed = j.closed ∧ j'.suspend = j.suspend ∧ j'.endReason = j.endReason
      ∧ j'.verify = j.verify ∧ j'.firstFile = j.firstFile ∧ j'.quota = j.quota := by
  simp only [Job.core, Job.mk.injEq] at h
  simp only [h, and_self]

/-- A slab that has been given back: it is FREE, or a waiting port has it for a scan or for a RUNNING job. -/
def Ctl.GivenBack (c : Ctl) (s : Slab) : Prop :=
  s = Slab.freeValues ∨ (s.state = .filling ∧ s.pendingWrites = noDrives ∧ s.inFlight = noDrives)
    ∧ (s.purpose = .scan ∧ s.job = none ∨ s.purpose = .source ∧ ∃ m, s.job = some m ∧ (c.job m).state = .running)

/-- No port has a WRITE of slab x in flight. -/
def Ctl.NotBeingWritten (c : Ctl) (x : SlabNo) : Prop :=
  ∀ d w, (c.drive d).writing = some w → w.slab = x → (c.drive d).link.carries .write = false

/-- Drive port p after some of its work has been withdrawn: entries, the stage, the context, a writing with no WRITE in
flight. -/
structure DrivePort.Withdrawn (p q : DrivePort) : Prop where
  rest : q = { p with
    writeQueue := q.writeQueue, verifyQueue := q.verifyQueue, staged := q.staged, context := q.context
    writing := q.writing, readAbandoned := q.readAbandoned }
  writeQueue : q.writeQueue.Sublist p.writeQueue
  verifyQueue : q.verifyQueue.Sublist p.verifyQueue
  staged : q.staged = p.staged ∨ q.staged = none
  context : q.context = p.context ∨ q.context = none
  writing : q.writing = p.writing ∨ q.writing = none ∧ p.link.carries .write = false

/-- One change that follows from an event on behalf of the jobs in N, where slabs of the jobs in M may cease to owe a drive
its write. -/
inductive Ctl.Consequence (N M : CardNo → Prop) (c : Ctl) : Ctl → Prop
  /-- A drive port takes work. -/
  | port {d : DriveNo} {t : Ctl} (h : c.PortStep d t) : c.Consequence N M t
  /-- Nothing of jobs, files, slabs and drives changes. -/
  | rest (q : List OutEntry) (k : Vector CardPort 8) (w : Vector (Option SlabUse) 8) (l : CardNo) (u : Digest) (i : CardNo)
      (v : Vector Bool 8) :
      c.Consequence N M
        { c with
          outq := q, cards := k, waitList := w, lastGranted := l, digest := u, fileDoneTurn := i, fileDoneWaiting := v }
  /-- A job's counts change. -/
  | counts {n : CardNo} (j : Job) (hn : N n) (h : j.core = (c.job n).core)
      (hf : j.failures = (c.job n).failures ∨ j.failures = 0) : c.Consequence N M (c.modJob n fun _ => j)
  /-- File records of the jobs change or leave. -/
  | files (fs : List FileRec) (h : ∀ m, ¬N m → (fs.filter fun f => f.ref.job == m) = c.queue m) :
      c.Consequence N M { c with files := fs }
  /-- A slab of a job is given back, because it owes nothing more or nothing of it is in flight. -/
  | release {n : CardNo} {x : SlabNo} (xs : Vector Slab 512) (hn : N n) (hj : (c.slab x).job = some n)
      (hx : (c.slab x).releasable = true ∨ c.NotBeingWritten x) (hne : ∀ y : SlabNo, y ≠ x → xs[y] = c.slab y)
      (hs : c.GivenBack xs[x]) : c.Consequence N M { c with slabs := xs }
  /-- A FILLED source slab of a job owes drive d nothing more. -/
  | unpend {n : CardNo} (d : DriveNo) (x : SlabNo) (hn : M n) (hx : (c.slab x).isFilledOf n = true) :
      c.Consequence N M (c.leavePending d x)
  /-- A slab counts as digested. -/
  | digested (x : SlabNo) : c.Consequence N M (c.modSlab x fun s => { s with digested := true })
  /-- A drive port's work is withdrawn. -/
  | withdrawn (d : DriveNo) (q : DrivePort) (h : (c.drive d).Withdrawn q) : c.Consequence N M (c.modDrive d fun _ => q)
  /-- The verify slab of d is freed. -/
  | unverify (d : DriveNo) : c.Consequence N M (c.modSlab (verifySlab d) fun _ => Slab.freeValues)
  /-- Drive d, which writes nothing, leaves a slab's writes in flight. -/
  | unwritten (d : DriveNo) (x : SlabNo) (h : (c.drive d).writing = none) : c.Consequence N M (c.leaveInFlight d x)

/-- A run of consequences. -/
def Ctl.Leads (N M : CardNo → Prop) : Ctl → Ctl → Prop := Relation.ReflTransGen (Ctl.Consequence N M)

section
variable {N M : CardNo → Prop} {c t u : Ctl}

theorem Ctl.Leads.refl (c : Ctl) : Ctl.Leads N M c c := Relation.ReflTransGen.refl

theorem Ctl.Leads.trans (h : Ctl.Leads N M c t) (g : Ctl.Leads N M t u) : Ctl.Leads N M c u :=
  Relation.ReflTransGen.trans h g

theorem Ctl.Consequence.leads (h : c.Consequence N M t) : Ctl.Leads N M c t := Relation.ReflTransGen.single h

/-- What each consequence keeps, a run of them keeps. -/
theorem Ctl.Leads.keeps {P : Ctl → Prop} (h : Ctl.Leads N M c t) (hc : P c)
    (step : ∀ a b, P a → a.Consequence N M b → P b) : P t := by
  induction h with
  | refl => exact hc
  | tail _ hs ih => exact step _ _ ih hs

theorem Ctl.rest_leads {q : List OutEntry} {k : Vector CardPort 8} {w : Vector (Option SlabUse) 8} {l : CardNo} {u : Digest}
    {i : CardNo} {v : Vector Bool 8} (h : t = { c with
      outq := q, cards := k, waitList := w, lastGranted := l, digest := u, fileDoneTurn := i, fileDoneWaiting := v }) :
    Ctl.Leads N M c t := h ▸ (Ctl.Consequence.rest q k w l u i v).leads

theorem Ctl.counts_leads {n : CardNo} {f : Job → Job} (hn : N n) (h : ∀ j, (f j).core = j.core)
    (hf : ∀ j, (f j).failures = j.failures ∨ (f j).failures = 0) : Ctl.Leads N M c (c.modJob n f) :=
  (Ctl.Consequence.counts (f (c.job n)) hn (h _) (hf _)).leads

theorem eachDrive_leads {f : Ctl → DriveNo → Ctl} (h : ∀ c d, Ctl.Leads N M c (f c d)) (c : Ctl) :
    Ctl.Leads N M c (eachDrive f c) := (((h _ _).trans (h _ _)).trans (h _ _)).trans (h _ _)

theorem foldl_leads {α : Type} {f : Ctl → α → Ctl} (h : ∀ c x, Ctl.Leads N M c (f c x)) (l : List α) (c : Ctl) :
    Ctl.Leads N M c (l.foldl f c) := by
  induction l generalizing c with
  | nil => exact .refl c
  | cons x l ih => exact (h c x).trans (ih _)

/-! ### Jobs and files under consequences -/

/-- Job records keep their core, and those of other jobs stay; so do the queues of other jobs. -/
structure Ctl.JobsKept (N : CardNo → Prop) (c t : Ctl) : Prop where
  core : ∀ m, (t.job m).core = (c.job m).core
  failures : ∀ m, (t.job m).failures = (c.job m).failures ∨ (t.job m).failures = 0
  others : ∀ m, ¬N m → t.job m = c.job m ∧ t.queue m = c.queue m
  settings : t.notices = c.notices ∧ t.linkFault = c.linkFault ∧ t.rateCode = c.rateCode ∧ t.debounce = c.debounce
    ∧ t.nextFile = c.nextFile ∧ t.fillSeq = c.fillSeq

theorem Ctl.JobsKept.of_eq (hj : t.jobs = c.jobs) (hf : t.files = c.files)
    (hs : t.notices = c.notices ∧ t.linkFault = c.linkFault ∧ t.rateCode = c.rateCode ∧ t.debounce = c.debounce
      ∧ t.nextFile = c.nextFile ∧ t.fillSeq = c.fillSeq) : c.JobsKept N t :=
  ⟨fun m => by rw [Ctl.job_of_jobs hj], fun m => .inl (by rw [Ctl.job_of_jobs hj]), fun m _ => ⟨Ctl.job_of_jobs hj m, Ctl.queue_of_files hf m⟩, hs⟩

theorem Ctl.JobsKept.trans (h : c.JobsKept N t) (g : t.JobsKept N u) : c.JobsKept N u := by
  obtain ⟨h1, h2, h3, h4, h5, h6⟩ := h.settings
  obtain ⟨g1, g2, g3, g4, g5, g6⟩ := g.settings
  refine ⟨fun m => (g.core m).trans (h.core m), fun m => ?_,
    fun m hm => ⟨(g.others m hm).1.trans (h.others m hm).1, (g.others m hm).2.trans (h.others m hm).2⟩,
    g1.trans h1, g2.trans h2, g3.trans h3, g4.trans h4, g5.trans h5, g6.trans h6⟩
  obtain e | e := g.failures m
  · rw [e]; exact h.failures m
  · exact .inr e

theorem Ctl.Consequence.jobsKept (h : c.Consequence N M t) : c.JobsKept N t := by
  cases h with
  | port h =>
    obtain ⟨⟨ds, xs, rfl⟩, -⟩ := h.workOnly
    exact .of_eq rfl rfl ⟨rfl, rfl, rfl, rfl, rfl, rfl⟩
  | @counts n j hn h hf =>
    refine ⟨fun m => ?_, fun m => ?_, fun m hm => ⟨?_, rfl⟩, rfl, rfl, rfl, rfl, rfl, rfl⟩
    · rw [Ctl.modJob_job_ite]
      split
      · next e => rw [h, e]
      · rfl
    · rw [Ctl.modJob_job_ite]
      split
      · next e => rw [e]; exact hf
      · exact .inl rfl
    · exact Ctl.modJob_job_ne c _ fun e => hm (e ▸ hn)
  | files fs h => exact ⟨fun _ => rfl, fun _ => .inl rfl, fun m hm => ⟨rfl, h m hm⟩, rfl, rfl, rfl, rfl, rfl, rfl⟩
  | rest | release | unpend | digested | withdrawn | unverify | unwritten =>
    exact .of_eq rfl rfl ⟨rfl, rfl, rfl, rfl, rfl, rfl⟩

theorem Ctl.Leads.jobsKept (h : Ctl.Leads N M c t) : c.JobsKept N t :=
  h.keeps (P := fun a => c.JobsKept N a) (.of_eq rfl rfl ⟨rfl, rfl, rfl, rfl, rfl, rfl⟩)
    fun _ _ ha hs => ha.trans hs.jobsKept

end

/-- Consequences on behalf of job n alone leave the other jobs. -/
theorem Ctl.Leads.otherJobs {M : CardNo → Prop} {c t : Ctl} {n : CardNo} (h : Ctl.Leads (· = n) M c t) :
    c.OtherJobsSame t n := by
  obtain ⟨h1, h2, h3, h4, -⟩ := h.jobsKept.settings
  exact ⟨fun m hm => h.jobsKept.others m hm, h1, h2, h3, h4⟩

/-! ### Which operations are such runs -/

section
variable {N M : CardNo → Prop} (c : Ctl)

theorem Ctl.pump_leads (d : DriveNo) : Ctl.Leads N M c (c.pump d) :=
  Ctl.pump_induction (P := fun t => Ctl.Leads N M c t) (.refl c) fun _ _ ha hs => ha.trans (Ctl.Consequence.port hs).leads

theorem Ctl.pumpAll_leads : Ctl.Leads N M c c.pumpAll := eachDrive_leads (fun c d => c.pump_leads d) c

/-! #### Offers and releases (R74, R69) -/

/-- A READ of the reader's span changes a card port alone. -/
theorem Ctl.issueSpanRead_eq (n : CardNo) : ∃ k, c.issueSpanRead n = { c with cards := k } := by
  unfold Ctl.issueSpanRead
  split
  · exact ⟨c.cards, rfl⟩
  · simp only
    split
    · exact ⟨c.cards, rfl⟩
    · split
      · exact ⟨c.cards, rfl⟩
      · exact ⟨_, rfl⟩

/-- A slab that is offered stays or goes to a waiting port whose request stands. -/
theorem Ctl.offer_eq (x : SlabNo) (h : c.slab x = Slab.freeValues) :
    ∃ xs k w l, c.offer x = { c with slabs := xs, cards := k, waitList := w, lastGranted := l }
      ∧ (∀ y : SlabNo, y ≠ x → xs[y] = c.slab y) ∧ c.GivenBack xs[x] := by
  have stays (w : Vector (Option SlabUse) 8) :
      ∃ xs k w' l, { c with waitList := w } = { c with slabs := xs, cards := k, waitList := w', lastGranted := l }
        ∧ (∀ y : SlabNo, y ≠ x → xs[y] = c.slab y) ∧ c.GivenBack xs[x] :=
    ⟨c.slabs, c.cards, w, c.lastGranted, rfl, fun _ _ => rfl, .inl h⟩
  have granted (s : Slab) (hs : c.GivenBack s) (k : Vector CardPort 8) (w : Vector (Option SlabUse) 8) (l : CardNo) :
      ∃ xs k' w' l', { c.modSlab x (fun _ => s) with cards := k, waitList := w, lastGranted := l }
          = { c with slabs := xs, cards := k', waitList := w', lastGranted := l' }
        ∧ (∀ y : SlabNo, y ≠ x → xs[y] = c.slab y) ∧ c.GivenBack xs[x] :=
    ⟨_, k, w, l, rfl, fun _ hy => Ctl.modSlab_slab_ne c (fun _ => s) hy, by
      show c.GivenBack ((c.modSlab x fun _ => s).slab x)
      rwa [Ctl.modSlab_slab]⟩
  obtain ⟨w, ⟨n, u, -, -, hs, e⟩ | e⟩ := Ctl.offerRun_cases 8 c x
  · rw [Ctl.offer, e]
    cases u with
    | source =>
      simp only [Ctl.grant, Ctl.grantSource]
      split
      · exact stays _
      · next f hf =>
        have run : (c.job n).state = .running := by
          simp only [Ctl.stillStands, Bool.and_eq_true, beq_iff_eq] at hs
          exact hs.1.1
        obtain ⟨k, hk⟩ := Ctl.issueSpanRead_eq (Ctl.modCard
          { (({ c with waitList := w } : Ctl).modSlab x fun _ =>
            { Slab.freeValues with
              state := .filling, purpose := .source, job := some n, file := some f.ref, offset := f.readOffset,
              len := spanLen f.len f.readOffset }).setWait n none with lastGranted := n } n
          fun p => { p with reader := some { slab := x, next := firstBlock f.readOffset } }) n
        rw [hk]
        exact granted _ (.inr ⟨⟨rfl, rfl, rfl⟩, .inr ⟨rfl, n, rfl, run⟩⟩) k _ n
    | scan => exact granted _ (.inr ⟨⟨rfl, rfl, rfl⟩, .inl ⟨rfl, rfl⟩⟩) _ _ n
  · rw [Ctl.offer, e]
    exact stays w

/-- A slab that is given back is not one to release. -/
theorem Ctl.GivenBack.not_releasable {c : Ctl} {s : Slab} (h : c.GivenBack s) : s.releasable = false := by
  obtain rfl | ⟨⟨hs, -⟩, -⟩ := h
  · rfl
  · simp [Slab.releasable, hs]

theorem Ctl.notifyProgress_eq (n : CardNo) : ∃ q, c.notifyProgress n = c.setOutq q := by
  unfold Ctl.notifyProgress
  split
  · exact ⟨_, rfl⟩
  · exact ⟨c.outq, rfl⟩

variable {c}

/-- The slab x of job n may be given back: it owes nothing more, or nothing of it is in flight. -/
def Ctl.MayRelease (c : Ctl) (n : CardNo) (x : SlabNo) : Prop :=
  (c.slab x).job = some n ∧ ((c.slab x).releasable = true ∨ c.NotBeingWritten x)

/-- A slab that is freed and offered, with nothing counted. -/
theorem Ctl.freePoolSlab_leads {n : CardNo} {x : SlabNo} (hn : N n) (h : c.MayRelease n x) :
    Ctl.Leads N M c (c.freePoolSlab x) := by
  obtain ⟨xs, k, w, l, e, hne, hx⟩ := Ctl.offer_eq (c.modSlab x fun _ => Slab.freeValues) x (Ctl.modSlab_slab ..)
  rw [Ctl.freePoolSlab, e]
  refine (Ctl.Consequence.release (N := N) (M := M) xs hn h.1 h.2 (fun y hy => ?_) hx).leads.trans (Ctl.rest_leads rfl)
  rw [hne y hy, Ctl.modSlab_slab_ne c _ hy]

/-- A counted release gives the slab back, counts it, and tells at most the output queue. -/
theorem Ctl.releaseCounted_eq (n : CardNo) (x : SlabNo) :
    ∃ xs k w l q, c.releaseCounted n x =
        { c.modJob n (fun j => { j with released := (j.released + 1) % 2 ^ 32 }) with
          slabs := xs, cards := k, waitList := w, lastGranted := l, outq := q }
      ∧ (∀ y : SlabNo, y ≠ x → xs[y] = c.slab y) ∧ c.GivenBack xs[x] := by
  obtain ⟨q, hq⟩ := Ctl.notifyProgress_eq ((c.modSlab x fun _ => Slab.freeValues).modJob n
    fun j => { j with released := (j.released + 1) % 2 ^ 32 }) n
  obtain ⟨xs, k, w, l, e, hne, hx⟩ := Ctl.offer_eq (((c.modSlab x fun _ => Slab.freeValues).modJob n
    fun j => { j with released := (j.released + 1) % 2 ^ 32 }).setOutq q) x (by simp)
  refine ⟨xs, k, w, l, q, ?_, fun y hy => by simp [hne y hy, Ctl.modSlab_slab_ne c _ hy], ?_⟩
  · simp only [Ctl.releaseCounted]
    rw [hq, e]
    rfl
  · obtain hs | ⟨hs, hj | ⟨hp, m, hj, hr⟩⟩ := hx
    · exact .inl hs
    · exact .inr ⟨hs, .inl hj⟩
    · refine .inr ⟨hs, .inr ⟨hp, m, hj, ?_⟩⟩
      rw [Ctl.setOutq_job, Ctl.modJob_job_ite] at hr
      split at hr
      · next e => exact e ▸ hr
      · exact hr

theorem Ctl.releaseCounted_leads {n : CardNo} {x : SlabNo} (hn : N n) (h : c.MayRelease n x) :
    Ctl.Leads N M c (c.releaseCounted n x) := by
  obtain ⟨xs, k, w, l, q, e, hne, hx⟩ := c.releaseCounted_eq n x
  rw [e]
  refine (Ctl.Consequence.release xs hn h.1 h.2 hne hx).leads.trans ((Ctl.counts_leads (n := n)
    (f := fun j => { j with released := (j.released + 1) % 2 ^ 32 }) hn (fun _ => rfl) fun _ => .inl rfl).trans ?_)
  exact Ctl.rest_leads rfl

/-- A test for release of a slab that is one of a job of N, or owes something. -/
theorem Ctl.testRelease_leads {n : CardNo} {x : SlabNo} (hn : N n)
    (h : (c.slab x).job = some n ∨ (c.slab x).releasable = false) : Ctl.Leads N M c (c.testRelease x) := by
  obtain ⟨m, hm, hr, e⟩ | e := c.testRelease_cases x
  · obtain h | h := h
    · obtain rfl : m = n := Option.some.inj (hm.symm.trans h)
      exact e ▸ Ctl.releaseCounted_leads hn ⟨hm, .inl hr⟩
    · rw [hr] at h; cases h
  · rw [e]; exact .refl c

/-- The slabs after a test for release: the tested one as it was or given back, the others as they were. -/
theorem Ctl.testRelease_slab (x y : SlabNo) :
    (c.testRelease x).slab y = c.slab y
      ∨ y = x ∧ (c.slab x).releasable = true ∧ c.GivenBack ((c.testRelease x).slab y) := by
  obtain ⟨m, hm, hr, e⟩ | e := c.testRelease_cases x
  · obtain ⟨xs, k, w, l, q, e', hne, hx⟩ := c.releaseCounted_eq m x
    rw [e, e']
    by_cases hy : y = x
    · subst hy
      exact .inr ⟨rfl, hr, hx⟩
    · exact .inl (hne y hy)
  · exact .inl (by rw [e])

/-- Tests for release of slabs that are of a job of N, or owe something. -/
theorem Ctl.testReleases_leads {n : CardNo} (hn : N n) (xs : List SlabNo)
    (h : ∀ x ∈ xs, (c.slab x).job = some n ∨ (c.slab x).releasable = false) : Ctl.Leads N M c (c.testReleases xs) := by
  induction xs generalizing c with
  | nil => exact .refl c
  | cons x l ih =>
    refine (Ctl.testRelease_leads hn (h x (by simp))).trans (ih fun y hy => ?_)
    obtain e | ⟨-, -, g⟩ := c.testRelease_slab x y
    · rw [e]; exact h y (by simp [hy])
    · exact .inr g.not_releasable

end

end Sys2Proof.Machine

namespace Sys2Proof.Machine

section
variable {N M : CardNo → Prop} {c : Ctl}

/-! #### Purges and retirements (R78, R56) -/

theorem Ctl.withdrawn_leads {d : DriveNo} {f : DrivePort → DrivePort} (h : (c.drive d).Withdrawn (f (c.drive d))) :
    Ctl.Leads N M c (c.modDrive d f) := (Ctl.Consequence.withdrawn d _ h).leads

theorem Slab.isFilledOf_iff {s : Slab} {n : CardNo} :
    s.isFilledOf n = true ↔ s.purpose = .source ∧ s.job = some n ∧ s.state = .filled := by
  simp only [Slab.isFilledOf, Slab.isSourceOf, Bool.and_eq_true, beq_iff_eq, bne_iff_ne]
  constructor
  · rintro ⟨⟨⟨hp, hj⟩, -⟩, hs⟩; exact ⟨hp, hj, hs⟩
  · rintro ⟨hp, hj, hs⟩; exact ⟨⟨⟨hp, hj⟩, by simp [hs]⟩, hs⟩

theorem Ctl.leavePending_slab (d : DriveNo) (x y : SlabNo) :
    (c.leavePending d x).slab y =
      if y = x then { c.slab x with pendingWrites := (c.slab x).pendingWrites.set d false } else c.slab y :=
  Ctl.modSlab_slab_ite ..

theorem Ctl.leavePending_isFilledOf (d : DriveNo) (x y : SlabNo) (n : CardNo) :
    ((c.leavePending d x).slab y).isFilledOf n = (c.slab y).isFilledOf n := by
  rw [Ctl.leavePending_slab]
  split
  · next h => rw [h]; rfl
  · rfl

theorem Ctl.purgeDest_leads {n : CardNo} (hn : N n) (hm : M n) (d : DriveNo) (xs : List SlabNo)
    (h : ∀ x ∈ xs, (c.slab x).isFilledOf n = true) : Ctl.Leads N M c (c.purgeDest d xs) := by
  have purged (l : List SlabNo) : ∀ c : Ctl, (∀ x ∈ l, (c.slab x).isFilledOf n = true) →
      Ctl.Leads N M c (l.foldl (fun c x => c.leavePending d x) c)
        ∧ ∀ y, ((l.foldl (fun c x => c.leavePending d x) c).slab y).isFilledOf n = (c.slab y).isFilledOf n := by
    induction l with
    | nil => exact fun c _ => ⟨.refl c, fun _ => rfl⟩
    | cons x l ih =>
      intro c hl
      have step := (Ctl.Consequence.unpend (N := N) d x hm (hl x (by simp))).leads
      obtain ⟨run, same⟩ := ih (c.leavePending d x) fun y hy => by
        rw [Ctl.leavePending_isFilledOf]; exact hl y (by simp [hy])
      exact ⟨step.trans run, fun y => (same y).trans (Ctl.leavePending_isFilledOf ..)⟩
  obtain ⟨run, same⟩ := purged xs c h
  refine run.trans (Ctl.testReleases_leads hn xs fun x hx => .inl ?_)
  exact (Slab.isFilledOf_iff.1 ((same x).trans (h x hx))).2.1

theorem Option.filter_eq_or {α : Type} (o : Option α) (p : α → Bool) : o.filter p = o ∨ o.filter p = none := by
  cases o with
  | none => exact .inl rfl
  | some a => cases h : p a <;> simp [h]

theorem Ctl.holdsFile_isFilledOf {r : FileRef} {x : SlabNo} (h : c.holdsFile r x = true) :
    (c.slab x).isFilledOf r.job = true := by
  simp only [Ctl.holdsFile, Slab.isFilledOfFile, Bool.and_eq_true, beq_iff_eq] at h
  obtain ⟨⟨⟨hp, -⟩, hs⟩, hj⟩ := h
  exact Slab.isFilledOf_iff.2 ⟨hp, hj, hs⟩

theorem Ctl.endEntries_leads {r : FileRef} (hn : N r.job) (hm : M r.job) (d : DriveNo) :
    Ctl.Leads N M c (Ctl.endEntries r c d) := by
  simp only [Ctl.endEntries]
  split
  · exact .refl c
  · refine Ctl.Leads.trans ?_ (Ctl.pump_leads _ d)
    refine (Ctl.withdrawn_leads ?_).trans (Ctl.purgeDest_leads hn hm d _ fun x hx => ?_)
    · exact ⟨rfl, List.filter_sublist, .refl _, Option.filter_eq_or _ _, .inl rfl, .inl rfl⟩
    · rw [Ctl.modDrive_slab]
      refine Ctl.holdsFile_isFilledOf ?_
      obtain hx | hx := List.mem_append.1 hx
      · exact (List.mem_filter.1 hx).2
      · obtain ⟨g, hg, rfl⟩ := List.mem_map.1 hx
        have := (Option.filter_eq_some_iff.1 (Option.mem_toList.1 hg)).2
        exact (Bool.and_eq_true _ _ ▸ this).2

/-- The queue of another job after records are changed that are none of its. -/
theorem filter_map_of_others {fs : List FileRec} {h : FileRec → FileRec} {m : CardNo} (hr : ∀ f, (h f).ref = f.ref)
    (hm : ∀ f ∈ fs, f.ref.job = m → h f = f) :
    ((fs.map h).filter fun f => f.ref.job == m) = fs.filter fun f => f.ref.job == m := by
  rw [List.filter_map]
  have same : (fs.filter ((fun f => f.ref.job == m) ∘ h)) = fs.filter fun f => f.ref.job == m :=
    List.filter_congr fun f _ => by simp [hr]
  rw [same]
  conv_rhs => rw [← List.map_id (fs.filter _)]
  refine List.map_congr_left fun f hf => ?_
  obtain ⟨hmem, hj⟩ := List.mem_filter.1 hf
  exact hm f hmem (by simpa using hj)

theorem Ctl.modFile_leads {r : FileRef} {g : FileRec → FileRec} (hn : N r.job) (hg : ∀ f, (g f).ref = f.ref) :
    Ctl.Leads N M c (c.modFile r g) := by
  refine (Ctl.Consequence.files _ fun m hm => filter_map_of_others (fun f => ?_) fun f _ hf => ?_).leads
  · split <;> simp [hg]
  · exact if_neg fun e => hm (by rw [← hf, e]; exact hn)

theorem Ctl.retire_leads {f : FileRec} (hn : N f.ref.job) (hm : M f.ref.job) (o : FileOutcome) :
    Ctl.Leads N M c (c.retire f o) := by
  have gone : Ctl.Leads N M c { c with files := c.files.filter fun g => g.ref != f.ref } := by
    refine (Ctl.Consequence.files _ fun m hm => ?_).leads
    simp only [Ctl.queue, List.filter_filter]
    refine List.filter_congr fun g _ => ?_
    by_cases h : g.ref = f.ref
    · have : g.ref.job ≠ m := fun e => hm (by rw [← e, h]; exact hn)
      simp [h, h ▸ this]
    · simp [h]
  refine gone.trans (Ctl.Leads.trans ?_ (eachDrive_leads (fun c d => Ctl.endEntries_leads hn hm d) _))
  refine Ctl.Leads.trans ?_ (Ctl.counts_leads hn (fun _ => ?_) fun _ => .inl ?_)
  · exact Ctl.rest_leads rfl
  · rfl
  · rfl

theorem Ctl.mem_queue_job {n : CardNo} {f : FileRec} (h : f ∈ c.queue n) : f.ref.job = n := by
  simpa using (List.mem_filter.1 h).2

theorem Ctl.retireRun_leads {n : CardNo} (hn : N n) (hm : M n) (k : Nat) (c : Ctl) :
    Ctl.Leads N M c (c.retireRun k n) := by
  induction k generalizing c with
  | zero => exact .refl c
  | succ k ih =>
    simp only [Ctl.retireRun]
    split
    · exact Ctl.rest_leads rfl
    · next f hf =>
      have hj : f.ref.job = n := Ctl.mem_queue_job (List.mem_of_mem_head? (Option.mem_def.2 hf))
      split
      · split
        · exact (Ctl.retire_leads (hj ▸ hn) (hj ▸ hm) _).trans (ih _)
        · exact Ctl.rest_leads rfl
      · exact Ctl.rest_leads rfl

theorem Ctl.testRetire_leads {n : CardNo} (hn : N n) (hm : M n) (c : Ctl) : Ctl.Leads N M c (c.testRetire n) :=
  Ctl.retireRun_leads hn hm _ c

theorem Ctl.testComplete_leads {r : FileRef} (hn : N r.job) (hm : M r.job) (c : Ctl) :
    Ctl.Leads N M c (c.testComplete r) := by
  unfold Ctl.testComplete
  split
  · exact .refl c
  · simp only
    split
    · refine Ctl.Leads.trans (Ctl.modFile_leads hn ?_) (Ctl.testRetire_leads hn hm _)
      exact fun _ => rfl
    · exact .refl c

theorem Ctl.testCompletes_leads {n : CardNo} (hn : N n) (hm : M n) (rs : List FileRef) (h : ∀ r ∈ rs, r.job = n) (c : Ctl) :
    Ctl.Leads N M c (c.testCompletes rs) := by
  induction rs generalizing c with
  | nil => exact .refl c
  | cons r rs ih =>
    have hr : r.job = n := h r (by simp)
    exact (Ctl.testComplete_leads (hr ▸ hn) (hr ▸ hm) c).trans (ih (fun q hq => h q (by simp [hq])) _)

theorem Ctl.promoteRun_leads {n : CardNo} (hn : N n) (hm : M n) (k : Nat) (c : Ctl) :
    Ctl.Leads N M c (c.promoteRun k n) := by
  induction k generalizing c with
  | zero => exact .refl c
  | succ k ih =>
    simp only [Ctl.promoteRun]
    split
    · split
      · exact .refl c
      · next f hf =>
        have hj : f.ref.job = n := Ctl.mem_queue_job (List.mem_of_find?_eq_some hf)
        split
        · refine Ctl.Leads.trans ?_ (ih _)
          refine Ctl.Leads.trans ?_ (Ctl.testComplete_leads (hj ▸ hn) (hj ▸ hm) _)
          refine Ctl.Leads.trans (Ctl.modFile_leads (hj ▸ hn) ?_) (Ctl.counts_leads hn ?_ ?_)
          · exact fun _ => rfl
          · exact fun _ => rfl
          · exact fun _ => .inr rfl
        · exact Ctl.modFile_leads (hj ▸ hn) fun _ => rfl
    · exact .refl c

theorem Ctl.promote_leads {n : CardNo} (hn : N n) (hm : M n) (c : Ctl) : Ctl.Leads N M c (c.promote n) :=
  Ctl.promoteRun_leads hn hm _ c

/-! #### Withdrawals (R152, R102, R79) -/

theorem Ctl.markDiscard_leads (x : SlabNo) : Ctl.Leads N M c (c.markDiscard x) := by
  unfold Ctl.markDiscard
  split
  · exact Ctl.rest_leads rfl
  · exact .refl c

theorem Ctl.releaseVerifySlab_leads (d : DriveNo) : Ctl.Leads N M c (c.releaseVerifySlab d) := by
  simp only [Ctl.releaseVerifySlab]
  split
  · exact .refl c
  · split
    · exact Ctl.withdrawn_leads ⟨rfl, .refl _, .refl _, .inl rfl, .inl rfl, .inl rfl⟩
    · exact (Ctl.Consequence.unverify d).leads
  · split
    · exact (Ctl.rest_leads rfl).trans (Ctl.Consequence.unverify (c := c.fifoRemove (verifySlab d)) d).leads
    · exact Ctl.markDiscard_leads _

theorem Ctl.abandonContext_leads (d : DriveNo) : Ctl.Leads N M c (c.abandonContext d) := by
  unfold Ctl.abandonContext
  split
  · exact (Ctl.releaseVerifySlab_leads d).trans
      (Ctl.withdrawn_leads ⟨rfl, .refl _, .refl _, .inl rfl, .inr rfl, .inl rfl⟩)
  · exact .refl c

theorem Ctl.leaveWriting_leads (d : DriveNo) (h : (c.drive d).link.carries .write = false) :
    Ctl.Leads N M c (c.leaveWriting d) := by
  unfold Ctl.leaveWriting
  split
  · exact .refl c
  · refine Ctl.Leads.trans (Ctl.withdrawn_leads ?_) (Ctl.Consequence.unwritten d _ ?_).leads
    · exact ⟨rfl, .refl _, .refl _, Option.filter_eq_or _ _, .inl rfl, .inr ⟨rfl, h⟩⟩
    · simp

/-- A drive port without the write entries of the slabs, and the verify entries of the files, that two tests name. -/
def DrivePort.filtered (p : DrivePort) (gone : SlabNo → Bool) (ofFile : FileRef → Bool) : DrivePort :=
  { p with
    writeQueue := p.writeQueue.filter fun x => !gone x
    verifyQueue := p.verifyQueue.filter fun r => !ofFile r
    staged := p.staged.filter fun g => !gone g.slab }

/-- The context is abandoned when it is of a file that a test names. -/
def Ctl.abandonOf (c : Ctl) (d : DriveNo) (ofFile : FileRef → Bool) : Ctl :=
  if (c.drive d).context.any (fun k => ofFile k.file) then c.abandonContext d else c

/-- The writing entry leaves when it is of a slab that a test names and nothing of it is in flight. -/
def Ctl.leaveWritingOf (c : Ctl) (d : DriveNo) (gone : SlabNo → Bool) (purge : Bool) : Ctl :=
  if (c.drive d).writing.any (fun w => gone w.slab) && !(c.drive d).link.carries .write then c.closeWriting d purge
  else c

theorem Ctl.withdraw_eq (d : DriveNo) (ofSlab : Slab → Bool) (ofFile : FileRef → Bool) (purge : Bool) :
    c.withdraw d ofSlab ofFile purge =
      ((c.modDrive d fun p => p.filtered (fun x => ofSlab (c.slab x)) ofFile).abandonOf d ofFile).leaveWritingOf d
        (fun x => ofSlab (c.slab x)) purge := rfl

theorem Ctl.abandonOf_leads (d : DriveNo) (ofFile : FileRef → Bool) : Ctl.Leads N M c (c.abandonOf d ofFile) := by
  unfold Ctl.abandonOf
  split
  · exact Ctl.abandonContext_leads d
  · exact .refl c

theorem Ctl.leaveWritingOf_leads (d : DriveNo) (gone : SlabNo → Bool) :
    Ctl.Leads N M c (c.leaveWritingOf d gone false) := by
  unfold Ctl.leaveWritingOf
  split
  · next h =>
    obtain ⟨-, idle⟩ := (Bool.and_eq_true _ _).mp h
    unfold Ctl.closeWriting
    split
    · exact .refl c
    · exact Ctl.leaveWriting_leads d (by simpa using idle)
  · exact .refl c

/-- A withdrawal that leaves the pending-write sets alone. -/
theorem Ctl.withdraw_leads (d : DriveNo) (ofSlab : Slab → Bool) (ofFile : FileRef → Bool) :
    Ctl.Leads N M c (c.withdraw d ofSlab ofFile false) := by
  rw [Ctl.withdraw_eq]
  have filtered : Ctl.Leads N M c (c.modDrive d fun p => p.filtered (fun x => ofSlab (c.slab x)) ofFile) :=
    Ctl.withdrawn_leads ⟨rfl, List.filter_sublist, List.filter_sublist, Option.filter_eq_or _ _, .inl rfl, .inl rfl⟩
  exact (filtered.trans (Ctl.abandonOf_leads d _)).trans (Ctl.leaveWritingOf_leads d _)

theorem Ctl.withdrawJob_leads (d : DriveNo) (n : CardNo) : Ctl.Leads N M c (c.withdrawJob d n) :=
  Ctl.withdraw_leads d _ _

theorem Ctl.withdrawDigest_leads (x : SlabNo) : Ctl.Leads N M c (c.withdrawDigest x) := by
  unfold Ctl.withdrawDigest
  split
  · exact (Ctl.rest_leads rfl).trans (Ctl.Consequence.digested (c := c.fifoRemove x) x).leads
  · exact Ctl.markDiscard_leads x

end

end Sys2Proof.Machine

namespace Sys2Proof.Machine

/-! ## What settles after a request (R8, R72) -/

section
variable {c t : Ctl} {n : CardNo}

theorem Ctl.readingFile_eq_none_of_queue (h : c.queue n = []) : c.readingFile n = none := by
  simp [Ctl.readingFile, h]

/-- A job without files asks for no slab. -/
theorem Ctl.raiseSource_of_queue (h : c.queue n = []) : c.raiseSource n = c := by
  simp [Ctl.raiseSource, Ctl.sourceRequest, Ctl.readingFile_eq_none_of_queue h]

theorem Ctl.issueSpanRead_card_ne {m : CardNo} (h : m ≠ n) : (c.issueSpanRead n).card m = c.card m := by
  unfold Ctl.issueSpanRead
  split
  · rfl
  · simp only
    split
    · rfl
    · split
      · rfl
      · simp only [Ctl.cardRead]
        rw [Ctl.modCard_card_ne _ _ h, Ctl.modCard_card_ne _ _ h]

/-- A reader's request touches no other card port. -/
theorem Ctl.raiseSource_card_ne {m : CardNo} (h : m ≠ n) : (c.raiseSource n).card m = c.card m := by
  unfold Ctl.raiseSource
  split
  · unfold Ctl.raise
    split
    · rfl
    · split
      · simp only [Ctl.grant, Ctl.grantSource]
        split
        · rfl
        · rw [Ctl.issueSpanRead_card_ne h, Ctl.modCard_card_ne _ _ h]
          rfl
      · rfl
  · rfl

theorem Ctl.dropStaleWait_card (m : CardNo) : (c.dropStaleWait n).card m = c.card m :=
  Ctl.card_of_cards (by simp) m

theorem Ctl.endCondition_congr (hj : t.jobs = c.jobs) (hf : t.files = c.files) (hs : t.slabs = c.slabs) :
    t.endCondition n = c.endCondition n := by
  simp only [Ctl.endCondition, Ctl.job_of_jobs hj, Ctl.queue_of_files hf, Ctl.sourceCount_of_slabs hs]

theorem Ctl.dropStaleWait_job (m : CardNo) : (c.dropStaleWait n).job m = c.job m := Ctl.job_of_jobs (by simp) m

theorem Ctl.dropStaleWait_endCondition : (c.dropStaleWait n).endCondition n = c.endCondition n :=
  Ctl.endCondition_congr (by simp) (by simp) (by simp)

/-- The end condition ends a RUNNING or HELD job (R8). -/
theorem Ctl.settle_ends (h : c.endCondition n = true) : c.settle n = (c.dropStaleWait n).endJob n .complete := by
  obtain ⟨hs, -⟩ := (c.endCondition_iff n).1 h
  simp only [Ctl.settle, Ctl.dropStaleWait_job, Ctl.dropStaleWait_endCondition, h, if_true]
  obtain hs | hs := hs <;> simp only [hs]

theorem Ctl.settle_running (hs : (c.job n).state = .running) (h : c.endCondition n = false) :
    c.settle n = (c.dropStaleWait n).raiseSource n := by
  simp [Ctl.settle, Ctl.dropStaleWait_job, Ctl.dropStaleWait_endCondition, h, hs]

theorem Ctl.settle_held (hs : (c.job n).state = .held) (h : c.endCondition n = false) :
    c.settle n = c.dropStaleWait n := by
  simp [Ctl.settle, Ctl.dropStaleWait_job, Ctl.dropStaleWait_endCondition, h, hs]

theorem Ctl.settle_suspending (hs : (c.job n).state = .suspending) :
    c.settle n = if (c.dropStaleWait n).suspendDrained n then
      (c.dropStaleWait n).updJob n fun j => { j with state := .suspended } else c.dropStaleWait n := by
  simp [Ctl.settle, Ctl.dropStaleWait_job, hs]

theorem Ctl.settle_stopping (hs : (c.job n).state = .stopping) :
    c.settle n = if (c.dropStaleWait n).stopDrained n then (c.dropStaleWait n).drainStop n else c.dropStaleWait n := by
  simp [Ctl.settle, Ctl.dropStaleWait_job, hs]

theorem Ctl.settle_other (h1 : (c.job n).state ≠ .running) (h2 : (c.job n).state ≠ .held)
    (h3 : (c.job n).state ≠ .suspending) (h4 : (c.job n).state ≠ .stopping) : c.settle n = c.dropStaleWait n := by
  simp only [Ctl.settle, Ctl.dropStaleWait_job]

end

/-- What settles for a RUNNING or HELD job: it ends COMPLETE or keeps its record; a request of its reader changes no more
than its own card port and one slab, and nothing at all where it has no file. -/
structure Ctl.SettlesRunning (c t : Ctl) (n : CardNo) : Prop where
  job : t.job n = if (c.job n).closed = true ∧ t.queue n = [] ∧ t.sourceCount n = 0 then (c.job n).endedComplete else c.job n
  files : t.files = c.files
  slabs : c.queue n = [] → t.slabs = c.slabs
  otherJobs : c.OtherJobsSame t n
  otherPorts : c.OtherPortsSame t n

theorem Ctl.settle_runningOrHeld {c : Ctl} {n : CardNo} (hs : (c.job n).state = .running ∨ (c.job n).state = .held) :
    c.SettlesRunning (c.settle n) n := by
  have dropped : c.OtherJobsSame (c.dropStaleWait n) n ∧ c.OtherPortsSame (c.dropStaleWait n) n :=
    ⟨.of_eq (by simp) (by simp) (by simp), .of_eq (by simp) (by simp) (by simp) (by simp)⟩
  by_cases he : c.endCondition n = true
  · obtain ⟨-, hc, hq, hn⟩ := (c.endCondition_iff n).1 he
    have files : ((c.dropStaleWait n).endJob n .complete).files = c.files := by simp
    have slabs : ((c.dropStaleWait n).endJob n .complete).slabs = c.slabs := by simp
    rw [Ctl.settle_ends he]
    refine ⟨?_, files, fun _ => slabs, dropped.1.trans (Ctl.endJob_otherJobs ..), dropped.2.trans (Ctl.endJob_otherPorts ..)⟩
    rw [if_pos ⟨hc, (Ctl.queue_of_files files n).trans hq, (Ctl.sourceCount_of_slabs slabs n).trans hn⟩, Ctl.endJob_job,
      Ctl.dropStaleWait_job, Job.endedBy_complete]
  · have stays (t : Ctl) (ht : c.settle n = t) (hj : t.jobs = c.jobs) (hf : t.files = c.files)
        (hsl : c.queue n = [] → t.slabs = c.slabs) :
        t.job n = if (c.job n).closed = true ∧ t.queue n = [] ∧ t.sourceCount n = 0 then (c.job n).endedComplete
          else c.job n := by
      rw [if_neg, Ctl.job_of_jobs hj]
      rintro ⟨hc, hq, hn⟩
      rw [Ctl.queue_of_files hf] at hq
      rw [Ctl.sourceCount_of_slabs (hsl hq)] at hn
      exact he ((c.endCondition_iff n).2 ⟨hs, hc, hq, hn⟩)
    rw [Bool.not_eq_true] at he
    obtain hs | hs := hs
    · have e := Ctl.settle_running hs he
      have slabs (hq : c.queue n = []) : ((c.dropStaleWait n).raiseSource n).slabs = c.slabs := by
        rw [Ctl.raiseSource_of_queue ((Ctl.queue_of_files (Ctl.dropStaleWait_files c n) n).trans hq)]; simp
      rw [e]
      refine ⟨stays _ e (by simp) (by simp) slabs, by simp, slabs, dropped.1.trans (.of_eq (by simp) (by simp) (by simp)),
        dropped.2.trans ⟨fun m hm => Ctl.raiseSource_card_ne hm, by simp, by simp, by simp⟩⟩
    · have e := Ctl.settle_held hs he
      rw [e]
      exact ⟨stays _ e (by simp) (by simp) (by simp), by simp, by simp, dropped.1, dropped.2⟩

/-! ## JOB_RESUME (R17, R23) -/

theorem HoldSet.anyReady_iff (h : HoldSet) :
    h.anyReady = true ↔ h.cardGone = some .ready ∨ ∃ d : DriveNo, h.destGone[d] = some .ready := by
  simp only [HoldSet.anyReady, Bool.or_eq_true, beq_iff_eq, List.any_eq_true, Vector.mem_toList_iff]
  refine or_congr_right ⟨?_, ?_⟩
  · rintro ⟨m, hm, rfl⟩
    obtain ⟨i, hi, e⟩ := Vector.getElem_of_mem hm
    exact ⟨⟨i, hi⟩, e⟩
  · rintro ⟨d, hd⟩
    exact ⟨_, Vector.getElem_mem d.isLt, hd⟩

/-- A cause that is not ready is left. -/
def leftMark (m : Option Mark) : Option Mark := if m = some .ready then none else m

theorem filter_ready (m : Option Mark) : m.filter (· != .ready) = leftMark m := by
  rcases m with _ | _ | _ <;> rfl

theorem HoldSet.withoutReady_eq (h : HoldSet) :
    h.withoutReady = { cardGone := leftMark h.cardGone, destGone := h.destGone.map leftMark } := by
  simp only [HoldSet.withoutReady, filter_ready]

/-- The last one of a list that passes a test, by a fold. -/
theorem foldl_last {α β : Type} {p : α → Prop} [DecidablePred p] {q : α → Bool} (h : ∀ a, q a = true ↔ p a) (g : α → β)
    (l : List α) (b : β) :
    l.foldl (fun r e => if p e then g e else r) b = (l.filter q).getLast?.elim b g := by
  induction l generalizing b with
  | nil => rfl
  | cons a l ih =>
    rw [List.foldl_cons, ih]
    by_cases ha : p a
    · rw [List.filter_cons_of_pos ((h a).2 ha), if_pos ha, List.getLast?_cons]
      cases (l.filter q).getLast? <;> rfl
    · rw [List.filter_cons_of_neg (mt (h a).1 ha), if_neg ha]

theorem removed_mark (m : Option Mark) :
    boolByte (m.isSome && (leftMark m).isNone) = if m = some .ready then (1 : Byte) else 0 := by
  rcases m with _ | _ | _ <;> rfl

theorem kept_mark (m : Option Mark) : boolByte (m.isSome && m.isNone) = 0 := by cases m <;> rfl

theorem Job.runOrHold_or (j : Job) : j.runOrHold = .running ∨ j.runOrHold = .held := by
  unfold Job.runOrHold
  split
  · exact .inl rfl
  · exact .inr rfl

theorem Job.core_runOrHold {j j' : Job} (h : j'.core = j.core) : j'.state = j.state ∧ j'.holds = j.holds :=
  ⟨(Job.core_fields h).1, (Job.core_fields h).2.2.1⟩

/-- The reply of a JOB_RESUME in HELD: the ready causes as removed, the others as left (R191). -/
theorem resumeFields_withoutReady (n : CardNo) (h : HoldSet) :
    resumeFields n h h.withoutReady =
      [BitVec.ofNat 8 n.val, if h.cardGone = some .ready then (1 : Byte) else 0,
        if h.destGone[0] = some .ready then (1 : Byte) else 0, if h.destGone[1] = some .ready then (1 : Byte) else 0,
        if h.destGone[2] = some .ready then (1 : Byte) else 0, if h.destGone[3] = some .ready then (1 : Byte) else 0,
        markCode (leftMark h.cardGone), markCode (h.destGone.map leftMark)[0], markCode (h.destGone.map leftMark)[1],
        markCode (h.destGone.map leftMark)[2], markCode (h.destGone.map leftMark)[3]] := by
  simp only [resumeFields, HoldSet.withoutReady_eq, Vector.getElem_map, removed_mark]

/-- The reply of a JOB_RESUME in SUSPENDED: nothing removed (R191). -/
theorem resumeFields_self (n : CardNo) (h : HoldSet) :
    resumeFields n h h =
      [BitVec.ofNat 8 n.val, 0, 0, 0, 0, 0, markCode h.cardGone, markCode h.destGone[0], markCode h.destGone[1],
        markCode h.destGone[2], markCode h.destGone[3]] := by
  simp only [resumeFields, kept_mark]

/-- The last ready cause in the order of removal. -/
theorem Job.lastReady_eq (j : Job) :
    j.lastReady = match (j.dests.filter fun e => j.holds.destGone[e.port] == some .ready).getLast? with
      | some e => ReleaseCause.destGone e.port
      | none => .cardGone := by
  have folded := foldl_last (p := fun e : Dest => j.holds.destGone[e.port] = some .ready)
    (q := fun e : Dest => j.holds.destGone[e.port] == some .ready) (fun _ => beq_iff_eq)
    (fun e => ReleaseCause.destGone e.port) j.dests .cardGone
  refine Eq.trans folded ?_
  cases (j.dests.filter fun e => j.holds.destGone[e.port] == some .ready).getLast? <;> rfl

/-- A HELD job without its ready causes. -/
theorem Job.resumed_eq {j : Job} (hs : j.state = .held) :
    ({ j with holds := j.holds.withoutReady }).releaseIfEmpty j.lastReady =
      if j.holds.withoutReady.isEmpty then
        { j with holds := j.holds.withoutReady, state := .running, lastRelease := j.lastReady }
      else { j with holds := j.holds.withoutReady } := by
  simp only [Job.releaseIfEmpty, hs, true_and]

/-- JOB_RESUME in HELD (R17): the job as without its ready causes, settled. -/
theorem Ctl.resumeHeld_settles {c : Ctl} {n : CardNo} {j' : Job} (hs : (c.job n).state = .held)
    (hj : (({ c.job n with holds := (c.job n).holds.withoutReady }).releaseIfEmpty (c.job n).lastReady) = j') :
    (c.resumeHeld n).job n =
        (if j'.closed = true ∧ c.queue n = [] ∧ c.sourceCount n = 0 then j'.endedComplete else j')
      ∧ c.OtherJobsSame (c.resumeHeld n) n ∧ c.OtherPortsSame (c.resumeHeld n) n ∧ (c.resumeHeld n).files = c.files := by
  have moved := c.updJob_job n fun j => ({ j with holds := j.holds.withoutReady }).releaseIfEmpty j.lastReady
  rw [hj] at moved
  have state : j'.state = .running ∨ j'.state = .held := by
    rw [← hj, Job.resumed_eq hs]
    split
    · exact .inl rfl
    · exact .inr hs
  obtain ⟨job, files, slabs, otherJobs, otherPorts⟩ := Ctl.settle_runningOrHeld (n := n) (by rw [moved]; exact state)
  rw [moved] at job
  rw [Ctl.updJob_files] at files
  rw [Ctl.updJob_slabs, Ctl.queue_of_files (Ctl.updJob_files ..)] at slabs
  refine ⟨?_, (c.updJob_otherJobs n _).trans otherJobs, (c.updJob_otherPorts n _).trans otherPorts, files⟩
  refine job.trans (if_congr ?_ rfl rfl)
  rw [Ctl.queue_of_files files]
  refine and_congr_right fun _ => and_congr_right fun hq => ?_
  rw [Ctl.sourceCount_of_slabs (slabs hq)]

theorem Job.endedComplete_failures (j : Job) : j.endedComplete.failures = j.failures := rfl

/-- A job that is to run or hold, and settles after consequences of the move: it ends where the end condition holds, and
keeps its state and hold set where not. -/
theorem Ctl.settle_after_move {N M : CardNo → Prop} {c t : Ctl} {n : CardNo} (h : Ctl.Leads N M c t)
    (hs : (c.job n).state = .running ∨ (c.job n).state = .held) :
    ((t.settle n).job n).core =
      (if (c.job n).closed = true ∧ (t.settle n).queue n = [] ∧ (t.settle n).sourceCount n = 0 then
        (c.job n).endedComplete.core else (c.job n).core) := by
  have core := h.jobsKept.core n
  obtain ⟨state, -, -, -, -, closed, -⟩ := Job.core_fields core
  rw [(Ctl.settle_runningOrHeld (c := t) (n := n) (state ▸ hs)).job, closed]
  split
  · exact congrArg Job.endedComplete core
  · exact core

/-- JOB_RESUME in SUSPENDED (R23): the job runs or holds, with no suspend mode, and settles. -/
theorem Ctl.resumeSuspended_settles (c : Ctl) (n : CardNo) :
    ((c.resumeSuspended n).job n).core =
      (let j' : Job := { c.job n with state := (c.job n).runOrHold, suspend := .none }
       if (c.job n).closed = true ∧ (c.resumeSuspended n).queue n = [] ∧ (c.resumeSuspended n).sourceCount n = 0 then
         j'.endedComplete.core
       else j'.core) := by
  have moved := c.updJob_job n fun j => { j with state := j.runOrHold, suspend := .none }
  have lead : Ctl.Leads (fun _ => True) (fun _ => True) (c.updJob n fun j => { j with state := j.runOrHold, suspend := .none })
      (((c.updJob n fun j => { j with state := j.runOrHold, suspend := .none }).pumpAll).promote n) :=
    (Ctl.pumpAll_leads _).trans (Ctl.promote_leads trivial trivial _)
  have settled := Ctl.settle_after_move (n := n) lead (by rw [moved]; exact Job.runOrHold_or _)
  rw [moved] at settled
  exact settled

/-- What the core of a record that ended or not tells. -/
theorem Job.of_core_ite {j j' : Job} {p : Prop} [Decidable p]
    (h : j.core = if p then j'.endedComplete.core else j'.core) :
    j.lastRelease = j'.lastRelease ∧ j.faultCause = (if p then .none else j'.faultCause)
      ∧ j.suspend = (if p then .none else j'.suspend)
      ∧ if p then j.state = .ended ∧ j.endReason = .complete else j.state = j'.state ∧ j.holds = j'.holds := by
  split at h
  · next hp =>
    obtain ⟨state, -, holds, last, fault, -, suspend, reason, -⟩ := Job.core_fields h
    simp only [if_pos hp]
    exact ⟨last, fault, suspend, state, reason⟩
  · next hp =>
    obtain ⟨state, -, holds, last, fault, -, suspend, reason, -⟩ := Job.core_fields h
    simp only [if_neg hp]
    exact ⟨last, fault, suspend, state, holds⟩

/-- Settles O40: the ready causes go, or the suspension ends; then the end condition or the reader's request. -/
theorem jobResumeLeavesHeldOrSuspended : Obligations.JobResumeLeavesHeldOrSuspended := by
  intro s f n ht hp j h g anyReady removed left h' last j'
  have run (ts : (s.ctl.job n).state.takes .jobResume = true) :
      exec .jobResume s = .next (s.answer f (s.ctl.answerResume n)) := exec_jobRequest rfl ht hp ts
  refine ⟨fun hs hr => ?_, fun hs hr => ?_, fun hs => ?_⟩
  · rw [run (by rw [hs]; rfl), Ctl.answerResume, if_pos hs, if_neg (mt h.anyReady_iff.1 hr)]
    rfl
  · have e : s.ctl.answerResume n = .ok (s.ctl.resumeHeld n, resumeFields n h h.withoutReady) := by
      rw [Ctl.answerResume, if_pos hs, if_pos (h.anyReady_iff.2 hr)]
    rw [run (by rw [hs]; rfl), e, resumeFields_withoutReady]
    have j'_eq : ({ j with holds := j.holds.withoutReady }).releaseIfEmpty j.lastReady = j' := by
      rw [Job.resumed_eq hs, HoldSet.withoutReady_eq, Job.lastReady_eq]
      rfl
    have closed : j'.closed = j.closed := by
      rw [← j'_eq, Job.resumed_eq hs]
      split <;> rfl
    obtain ⟨job, otherJobs, otherPorts, files⟩ := Ctl.resumeHeld_settles hs j'_eq
    rw [closed] at job
    refine ⟨_, rfl, State.answer_doneIn .., ?_⟩
    rw [State.answer_ok_ctl]
    refine ⟨?_, ?_, ?_, ?_⟩
    · rw [Ctl.pushEntry_job]; exact job
    · exact otherJobs.trans (Ctl.pushEntry_otherJobs ..)
    · exact otherPorts.trans (Ctl.pushEntry_otherPorts ..)
    · rw [Ctl.pushEntry_files]; exact files
  · have e : s.ctl.answerResume n = .ok (s.ctl.resumeSuspended n, resumeFields n h h) := by
      rw [Ctl.answerResume, if_neg (by rw [hs]; decide)]
    rw [run (by rw [hs]; rfl), e, resumeFields_self]
    obtain ⟨last, -, suspend, state⟩ := Job.of_core_ite (s.ctl.resumeSuspended_settles n)
    refine ⟨_, rfl, State.answer_doneIn .., ?_⟩
    rw [State.answer_ok_ctl]
    refine ⟨?_, ?_, ?_⟩
    · rw [Ctl.pushEntry_job, suspend, ite_self]
    · rw [Ctl.pushEntry_job]; exact last
    · rw [Ctl.pushEntry_job, Ctl.pushEntry_queue, Ctl.pushEntry_sourceCount]; exact state

/-! ## JOB_CLEAR (R30) -/

/-- The job as JOB_CLEAR moves it. -/
def Job.cleared (j : Job) : Job := if j.faultCause = .cardReplaced then j.clearReplaced else j.clearUnreadable

/-- The hold set as JOB_CLEAR leaves it. -/
def Job.clearedHolds (j : Job) : HoldSet :=
  if j.faultCause = .cardReplaced then { j.holds with cardGone := some .pending } else j.holds

theorem Job.cleared_eq (j : Job) :
    j.cleared = { j with
      state := if j.clearedHolds.isEmpty then .running else .held, holds := j.clearedHolds, faultCause := .none
      failures := 0 } := by
  unfold Job.cleared Job.clearedHolds
  split
  · simp [Job.clearReplaced, HoldSet.setCard, HoldSet.isEmpty]
  · simp [Job.clearUnreadable, Job.runOrHold]

theorem Ctl.clearJob_eq (c : Ctl) (n : CardNo) :
    c.clearJob n = (((c.updJob n Job.cleared).promote n).pumpAll).settle n := rfl

/-- JOB_CLEAR is taken (R30): the job moved, then settled; its failure count stays 0. -/
theorem Ctl.clearJob_settles (c : Ctl) (n : CardNo) :
    ((c.clearJob n).job n).core =
        (if (c.job n).closed = true ∧ (c.clearJob n).queue n = [] ∧ (c.clearJob n).sourceCount n = 0 then
          (c.job n).cleared.endedComplete.core
        else (c.job n).cleared.core)
      ∧ ((c.clearJob n).job n).failures = 0 := by
  have moved := c.updJob_job n Job.cleared
  have lead : Ctl.Leads (fun _ => True) (fun _ => True) (c.updJob n Job.cleared)
      (((c.updJob n Job.cleared).promote n).pumpAll) := (Ctl.promote_leads trivial trivial _).trans (Ctl.pumpAll_leads _)
  have state : ((c.updJob n Job.cleared).job n).state = .running ∨ ((c.updJob n Job.cleared).job n).state = .held := by
    rw [moved, Job.cleared_eq]
    exact ite_eq_or_eq ..
  have closed : (c.job n).cleared.closed = (c.job n).closed := by rw [Job.cleared_eq]
  have settled := Ctl.settle_after_move lead state
  rw [moved, closed] at settled
  refine ⟨by rw [Ctl.clearJob_eq]; exact settled, ?_⟩
  obtain ⟨same, -⟩ := Job.core_fields (lead.jobsKept.core n)
  rw [← same] at state
  have failures : ((((c.updJob n Job.cleared).promote n).pumpAll).job n).failures = 0 := by
    have := lead.jobsKept.failures n
    rwa [moved, Job.cleared_eq, or_self] at this
  have job := (Ctl.settle_runningOrHeld state).job
  rw [Ctl.clearJob_eq, job]
  rw [apply_ite Job.failures, Job.endedComplete_failures, ite_self, failures]

/-- Settles O43: the fault cleared, then the end condition or the reader's request. -/
theorem jobClearLeavesFaulted : Obligations.JobClearLeavesFaulted := by
  intro s f n ht hp hs j holds
  have run : exec .jobClear s = .next (s.answer f (s.ctl.answerClear n)) := exec_jobRequest rfl ht hp (by rw [hs]; rfl)
  refine ⟨fun hf he => ?_, fun he => ?_⟩
  · rw [run, Ctl.answerClear, if_pos ⟨hf, he⟩]
    rfl
  · rw [run, Ctl.answerClear, if_neg (by rintro ⟨hf, h⟩; exact h (he hf))]
    obtain ⟨core, failures⟩ := s.ctl.clearJob_settles n
    obtain ⟨last, fault, -, state⟩ := Job.of_core_ite core
    rw [Job.cleared_eq] at last fault state
    refine ⟨_, rfl, State.answer_doneIn .., ?_⟩
    rw [State.answer_ok_ctl]
    refine ⟨?_, ?_, ?_, ?_⟩
    · rw [Ctl.pushEntry_job, fault, ite_self]
    · rw [Ctl.pushEntry_job]; exact failures
    · rw [Ctl.pushEntry_job]; exact last
    · rw [Ctl.pushEntry_job, Ctl.pushEntry_queue, Ctl.pushEntry_sourceCount]; exact state

end Sys2Proof.Machine

namespace Sys2Proof.Machine

/-! ## What taking up and retiring files leaves alone -/

section
variable {c t u : Ctl} {n : CardNo}

/-- Slabs, drives, card ports, the digest unit and the wait list are the same. -/
structure Ctl.SameBeyondFiles (c t : Ctl) : Prop where
  slabs : t.slabs = c.slabs
  drives : t.drives = c.drives
  cards : t.cards = c.cards
  digest : t.digest = c.digest
  waitList : t.waitList = c.waitList
  fillSeq : t.fillSeq = c.fillSeq
  lastGranted : t.lastGranted = c.lastGranted

theorem Ctl.SameBeyondFiles.refl (c : Ctl) : c.SameBeyondFiles c := ⟨rfl, rfl, rfl, rfl, rfl, rfl, rfl⟩

theorem Ctl.SameBeyondFiles.trans (h : c.SameBeyondFiles t) (g : t.SameBeyondFiles u) : c.SameBeyondFiles u :=
  ⟨g.slabs.trans h.slabs, g.drives.trans h.drives, g.cards.trans h.cards, g.digest.trans h.digest,
    g.waitList.trans h.waitList, g.fillSeq.trans h.fillSeq, g.lastGranted.trans h.lastGranted⟩

theorem Ctl.SameBeyondFiles.otherPorts (h : c.SameBeyondFiles t) : c.OtherPortsSame t n :=
  .of_eq h.cards h.drives h.digest h.fillSeq

/-- No drive port holds a write entry, waiting or a first staged, of a FILLED slab of job n. -/
def Ctl.NoWritesOf (c : Ctl) (n : CardNo) : Prop :=
  ∀ d, (∀ x ∈ (c.drive d).writeQueue, (c.slab x).isFilledOf n = false)
    ∧ ∀ g, (c.drive d).staged = some g → (c.slab g.slab).isFilledOf n = false

theorem Ctl.NoWritesOf.congr (h : c.NoWritesOf n) (g : c.SameBeyondFiles t) : t.NoWritesOf n := by
  intro d
  rw [Ctl.drive_of_drives g.drives]
  simpa only [Ctl.slab_of_slabs g.slabs] using h d

theorem Ctl.NoEntriesOf.noWritesOf (h : c.NoEntriesOf n) : c.NoWritesOf n := by
  have away {x : SlabNo} (hx : (c.slab x).job ≠ some n) : (c.slab x).isFilledOf n = false := by
    rw [Bool.eq_false_iff]
    exact fun e => hx (Slab.isFilledOf_iff.1 e).2.1
  exact fun d => ⟨fun x hx => away ((h d).1 x hx), fun g hg => away ((h d).2 g hg)⟩

theorem Ctl.sourceCount_eq_zero : c.sourceCount n = 0 ↔ ∀ x, (c.slab x).isSourceOf n = false := by
  simp only [Ctl.sourceCount, List.countP_eq_zero, Vector.mem_toList_iff, Bool.not_eq_true]
  constructor
  · exact fun h x => h _ (Vector.getElem_mem x.isLt)
  · intro h s hs
    obtain ⟨i, hi, rfl⟩ := Vector.getElem_of_mem hs
    exact h ⟨i, hi⟩

theorem Ctl.noWritesOf_of_sourceCount (h : c.sourceCount n = 0) : c.NoWritesOf n := by
  have away (x : SlabNo) : (c.slab x).isFilledOf n = false := by
    simp [Slab.isFilledOf, Ctl.sourceCount_eq_zero.1 h x]
  exact fun d => ⟨fun x _ => away x, fun g _ => away g.slab⟩

/-- A file no write entry of which is left retires from the file table alone. -/
theorem Ctl.retire_sameBeyondFiles {f : FileRec} (h : c.NoWritesOf f.ref.job) (o : FileOutcome) :
    c.SameBeyondFiles (c.retire f o) := by
  have none' (t : Ctl) (same : c.SameBeyondFiles t) (d : DriveNo) : Ctl.endEntries f.ref t d = t := by
    have away {x : SlabNo} (hx : (t.slab x).isFilledOf f.ref.job = false) : t.holdsFile f.ref x = false := by
      rw [Bool.eq_false_iff] at hx ⊢
      exact mt Ctl.holdsFile_isFilledOf hx
    obtain ⟨hq, hs⟩ := h.congr same d
    exact Ctl.endEntries_none t _ d (fun x hx => away (hq x hx)) fun g hg _ => away (hs g hg)
  have base (t : Ctl) (same : c.SameBeyondFiles t) : c.SameBeyondFiles (eachDrive (Ctl.endEntries f.ref) t) := by
    simp only [eachDrive, none' t same]
    exact same
  exact base _ ⟨rfl, rfl, rfl, rfl, rfl, rfl, rfl⟩

theorem Ctl.retireRun_sameBeyondFiles (k : Nat) (c : Ctl) (h : c.NoWritesOf n) :
    c.SameBeyondFiles (c.retireRun k n) := by
  induction k generalizing c with
  | zero => exact .refl c
  | succ k ih =>
    have waits (b : Bool) : c.SameBeyondFiles (c.setFileDoneWaiting n b) := ⟨rfl, rfl, rfl, rfl, rfl, rfl, rfl⟩
    simp only [Ctl.retireRun]
    split
    · exact waits false
    · next f hf =>
      have hj : f.ref.job = n := Ctl.mem_queue_job (List.mem_of_mem_head? (Option.mem_def.2 hf))
      split
      · next o _ =>
        split
        · have step := Ctl.retire_sameBeyondFiles (hj ▸ h) o
          exact step.trans (ih _ (h.congr step))
        · exact waits true
      · exact waits false

theorem Ctl.testComplete_sameBeyondFiles {r : FileRef} (h : c.NoWritesOf r.job) :
    c.SameBeyondFiles (c.testComplete r) := by
  unfold Ctl.testComplete
  split
  · exact .refl c
  · simp only
    split
    · have step (g : FileRec → FileRec) : c.SameBeyondFiles (c.modFile r g) := ⟨rfl, rfl, rfl, rfl, rfl, rfl, rfl⟩
      exact (step _).trans (Ctl.retireRun_sameBeyondFiles _ _ (h.congr (step _)))
    · exact .refl c

theorem Ctl.promoteRun_sameBeyondFiles (k : Nat) (c : Ctl) (h : c.NoWritesOf n) :
    c.SameBeyondFiles (c.promoteRun k n) := by
  induction k generalizing c with
  | zero => exact .refl c
  | succ k ih =>
    have step (r : FileRef) (g : FileRec → FileRec) : c.SameBeyondFiles (c.modFile r g) :=
      ⟨rfl, rfl, rfl, rfl, rfl, rfl, rfl⟩
    simp only [Ctl.promoteRun]
    split
    · split
      · exact .refl c
      · next f hf =>
        have hj : f.ref.job = n := Ctl.mem_queue_job (List.mem_of_find?_eq_some hf)
        split
        · have passed (k : Job → Job) : c.SameBeyondFiles
              ((c.modFile f.ref fun g => g.zeroPass (c.job n).verify).modJob n k) := ⟨rfl, rfl, rfl, rfl, rfl, rfl, rfl⟩
          have tested := (passed fun j => { j with failures := 0 }).trans
            (Ctl.testComplete_sameBeyondFiles (r := f.ref) (by rw [hj]; exact h.congr (passed _)))
          exact tested.trans (ih _ (h.congr tested))
        · exact step _ _
    · exact .refl c

/-- Taking up files touches nothing beyond them where the job's files have no write entries left. -/
theorem Ctl.promote_sameBeyondFiles (h : c.NoWritesOf n) : c.SameBeyondFiles (c.promote n) :=
  Ctl.promoteRun_sameBeyondFiles _ c h

end

/-! ## A change of a job record, at its card port (R111, R75) -/

section
variable (c : Ctl) (n : CardNo) (f : Job → Job)

theorem Ctl.updJob_card : (c.card n).SameButLamp ((c.updJob n f).card n) := by
  have lamp := Ctl.lampUpdate_card ((c.modJob n f).dropWaitUnlessRunning n) n
  rw [Ctl.card_of_cards (Ctl.dropWaitUnlessRunning_cards _ _), Ctl.modJob_card] at lamp
  simp only [Ctl.updJob]
  split
  · exact lamp
  · rwa [Ctl.card_of_cards (Ctl.notifyJob_cards _ _)]

/-- A job that runs keeps its place in the wait list. -/
theorem Ctl.updJob_waitList (h : (f (c.job n)).state = .running) : (c.updJob n f).waitList = c.waitList := by
  have stays : (c.modJob n f).dropWaitUnlessRunning n = c.modJob n f := by
    simp [Ctl.dropWaitUnlessRunning, h]
  simp only [Ctl.updJob, stays]
  split <;> simp

end

/-! ## JOB_START (R6, R8) -/

/-- The job record a JOB_START leaves, before the end condition. -/
def Job.started (j : Job) : Job := { j with state := j.runOrHold }

theorem Job.started_state (j : Job) : j.started.state = if j.holds.isEmpty then .running else .held := rfl

theorem Job.started_holds (j : Job) : j.started.holds = j.holds := rfl

theorem Ctl.startJob_eq (c : Ctl) (n : CardNo) :
    c.startJob n = ((c.updJob n Job.started).promote n).settle n := rfl

section
variable {c : Ctl} {n : CardNo}

theorem Ctl.started_leads : Ctl.Leads (· = n) (· = n) (c.updJob n Job.started) ((c.updJob n Job.started).promote n) :=
  Ctl.promote_leads (N := (· = n)) (M := (· = n)) (n := n) rfl rfl _

/-- The job runs or holds when it settles. -/
theorem Ctl.started_state : (((c.updJob n Job.started).promote n).job n).state = (c.job n).runOrHold := by
  obtain ⟨state, -⟩ := Job.core_fields ((Ctl.started_leads (c := c) (n := n)).jobsKept.core n)
  rw [state, Ctl.updJob_job]
  rfl

theorem Ctl.startJob_core :
    ((c.startJob n).job n).core =
      if (c.job n).closed = true ∧ (c.startJob n).queue n = [] ∧ (c.startJob n).sourceCount n = 0 then
        (c.job n).started.endedComplete.core
      else (c.job n).started.core := by
  have settled := Ctl.settle_after_move (Ctl.started_leads (c := c) (n := n))
    (by rw [Ctl.updJob_job]; exact Job.runOrHold_or _)
  rw [Ctl.updJob_job] at settled
  rw [Ctl.startJob_eq]
  exact settled

theorem Ctl.startJob_settles :
    ((c.updJob n Job.started).promote n).SettlesRunning (c.startJob n) n := by
  rw [Ctl.startJob_eq]
  exact Ctl.settle_runningOrHeld (by rw [Ctl.started_state]; exact Job.runOrHold_or _)

theorem Ctl.startJob_otherJobs : c.OtherJobsSame (c.startJob n) n :=
  ((c.updJob_otherJobs n _).trans Ctl.started_leads.otherJobs).trans Ctl.startJob_settles.otherJobs

theorem Ctl.startJob_otherPorts (h : c.NoEntriesOf n) : c.OtherPortsSame (c.startJob n) n := by
  have noWrites : (c.updJob n Job.started).NoWritesOf n := by
    intro d
    rw [Ctl.drive_of_drives (Ctl.updJob_drives ..)]
    simpa only [Ctl.slab_of_slabs (Ctl.updJob_slabs ..)] using h.noWritesOf d
  exact ((c.updJob_otherPorts n _).trans (Ctl.promote_sameBeyondFiles noWrites).otherPorts).trans
    Ctl.startJob_settles.otherPorts

/-- A job that is not to hold slabs before it runs, holds none (R63). -/
theorem Ctl.PoolShared.opened (h : c.PoolShared) (hs : (c.job n).state = .opened) : c.sourceCount n = 0 := by
  obtain ⟨-, -, limit⟩ := h
  have := limit n
  rw [Job.slabLimit, hs] at this
  exact Nat.le_zero.1 this

/-- Of a job without slabs, the files alone change as they are taken up. -/
theorem Ctl.started_sameBeyondFiles (h : c.sourceCount n = 0) :
    (c.updJob n Job.started).SameBeyondFiles ((c.updJob n Job.started).promote n) :=
  Ctl.promote_sameBeyondFiles (Ctl.noWritesOf_of_sourceCount (by rwa [Ctl.sourceCount_of_slabs (Ctl.updJob_slabs ..)]))

theorem Ctl.startJob_sourceCount (h : c.sourceCount n = 0) (hq : (c.startJob n).queue n = []) :
    (c.startJob n).sourceCount n = 0 := by
  have queue : ((c.updJob n Job.started).promote n).queue n = [] := by
    rwa [← Ctl.queue_of_files Ctl.startJob_settles.files]
  rw [Ctl.sourceCount_of_slabs (Ctl.startJob_settles.slabs queue),
    Ctl.sourceCount_of_slabs (Ctl.started_sameBeyondFiles h).slabs, Ctl.sourceCount_of_slabs (Ctl.updJob_slabs ..), h]

/-! ### The first span of a job that runs (R42, R65, R124) -/

/-- A file at the head of a queue of QUEUED files becomes READING. -/
theorem Ctl.promote_head {g : FileRec} {more : List FileRec} (hs : (c.job n).state = .running)
    (hq : c.queue n = g :: more) (hall : ∀ h ∈ g :: more, h.state = .queued) (hl : 0 < g.len) :
    c.promote n = c.modFile g.ref fun g => { g with state := .reading } := by
  have none' : c.readingFile n = none := by
    rw [Ctl.readingFile, hq, List.find?_eq_none]
    intro h hh
    simp [hall h hh]
  have first : (c.queue n).find? (fun f => f.state == .queued) = some g := by
    rw [hq, List.find?_cons_of_pos]
    simp [hall g (by simp)]
  rw [Ctl.promote, Ctl.promoteRun]
  simp [Job.mayPromote, hs, none', first, Nat.ne_of_gt hl]

/-- A job's queue after a change of its head, where names are distinct. -/
theorem Ctl.queue_modFile_head {g : FileRec} {more : List FileRec} {k : FileRec → FileRec}
    (hk : ∀ f, (k f).ref = f.ref) (hn : (c.files.map (·.ref)).Nodup) (hq : c.queue n = g :: more) :
    (c.modFile g.ref k).queue n = k g :: more := by
  have mapped : (c.modFile g.ref k).queue n = (c.queue n).map fun f => if f.ref = g.ref then k f else f := by
    simp only [Ctl.queue, Ctl.modFile, List.filter_map]
    congr 1
    refine List.filter_congr fun f _ => ?_
    simp only [Function.comp]
    split <;> simp [hk]
  have distinct : ((g :: more).map (·.ref)).Nodup := by
    rw [← hq]
    exact hn.sublist (List.filter_sublist.map _)
  rw [mapped, hq, List.map_cons, if_pos rfl]
  congr 1
  conv_rhs => rw [← List.map_id more]
  refine List.map_congr_left fun f hf => if_neg fun e => ?_
  exact (List.nodup_cons.1 distinct).1 (List.mem_map.2 ⟨f, hf, e⟩)

/-- A record of the table, by its name, where names are distinct. -/
theorem Ctl.file_of_mem {g : FileRec} (hn : (c.files.map (·.ref)).Nodup) (hg : g ∈ c.files) : c.file? g.ref = some g := by
  unfold Ctl.file?
  generalize c.files = l at hn hg
  induction l with
  | nil => cases hg
  | cons f l ih =>
    rw [List.map_cons, List.nodup_cons] at hn
    obtain rfl | hg := List.mem_cons.1 hg
    · exact List.find?_cons_of_pos (beq_self_eq_true g.ref)
    · have : f.ref ≠ g.ref := fun e => hn.1 (List.mem_map.2 ⟨g, hg, e.symm⟩)
      rw [List.find?_cons_of_neg (by simpa using this), ih hn.2 hg]

/-- The lowest-numbered FREE pool slab, in words (R73). -/
theorem Ctl.lowestFree_eq_some {x : SlabNo} (hx : x.val < 508) (hf : (c.slab x).state = .free)
    (hmin : ∀ y : SlabNo, y.val < x.val → (c.slab y).state ≠ .free) : c.lowestFree = some x := by
  unfold Ctl.lowestFree
  rw [List.find?_eq_some_iff_getElem]
  refine ⟨by simp [Config.poolSlabs, hx, hf], x.val, by simp, by simp, fun j hj => ?_⟩
  have := hmin ⟨j, by omega⟩ hj
  simp [this]

theorem Ctl.lowestFree_eq_none (h : ∀ x : SlabNo, x.val < 508 → (c.slab x).state ≠ .free) : c.lowestFree = none := by
  unfold Ctl.lowestFree
  rw [List.find?_eq_none]
  intro x _
  simp only [Bool.and_eq_true, decide_eq_true_eq, beq_iff_eq, not_and]
  exact h x

/-- The first READ of a span that starts a file (R124, R125). -/
theorem txnAt_first {e : Extent} {rest : List Extent} (he : 0 < e.count) (len : Nat) :
    txnAt (e :: rest) (firstBlock 0) (endBlock 0 len) = some (e.start, min 128 (min ((len + 511) / 512) e.count)) := by
  simp [txnAt, mapBlock, firstBlock, endBlock, blocksFor, he]

/-- The READ at the reader's next block. -/
theorem Ctl.issueSpanRead_of {r : Reader} {f : FileRec} {a k : Nat} (hr : (c.card n).reader = some r)
    (hf : (c.slab r.slab).file.bind c.file? = some f)
    (ht : txnAt f.source r.next (endBlock (c.slab r.slab).offset (c.slab r.slab).len) = some (a, k)) :
    c.issueSpanRead n = (c.modCard n fun p => { p with attemptsAtGrade := 0 }).cardRead n a k := by
  simp only [Ctl.issueSpanRead, hr, hf, ht]

/-- The slab that a grant gives the READING file of job n. -/
def FileRec.spanSlab (f : FileRec) (n : CardNo) : Slab :=
  { Slab.freeValues with
    state := .filling, purpose := .source, job := some n, file := some f.ref, offset := f.readOffset
    len := spanLen f.len f.readOffset }

/-- Slab x has gone to the reader of card port n for the READING file f. -/
def Ctl.granted (c : Ctl) (n : CardNo) (x : SlabNo) (f : FileRec) : Ctl :=
  ({ (c.modSlab x fun _ => f.spanSlab n).setWait n none with lastGranted := n } : Ctl).modCard n fun p =>
    { p with reader := some { slab := x, next := firstBlock f.readOffset } }

theorem Ctl.grantSource_eq {f : FileRec} (hf : c.readingFile n = some f) (x : SlabNo) :
    c.grantSource n x = (c.granted n x f).issueSpanRead n := by
  simp only [Ctl.grantSource, hf]
  rfl

/-- The grant of slab x for the first span of a file (R65, R124, R125). -/
theorem Ctl.grantSource_first {f : FileRec} {e : Extent} {rest : List Extent} (hf : c.readingFile n = some f)
    (hr : c.file? f.ref = some f) (ho : f.readOffset = 0) (hsrc : f.source = e :: rest) (he : 0 < e.count)
    (hl : (c.card n).link.cond = .idle) (x : SlabNo) :
    (c.grantSource n x).slab x = { Slab.freeValues with
        state := .filling, purpose := .source, job := some n, file := some f.ref, offset := 0, len := min 65536 f.len }
      ∧ ((c.grantSource n x).card n).reader = some { slab := x, next := 0 }
      ∧ (c.grantSource n x).lastGranted = n
      ∧ ((c.grantSource n x).card n).link = (c.card n).link.sent .read e.start
          (min 128 (min ((min 65536 f.len + 511) / 512) e.count)) (c.card n).grade 1000 := by
  have slab : (c.granted n x f).slab x = f.spanSlab n := by
    show (c.modSlab x fun _ => f.spanSlab n).slab x = _
    rw [Ctl.modSlab_slab]
  have card : (c.granted n x f).card n =
      { c.card n with reader := some { slab := x, next := firstBlock f.readOffset } } := Ctl.modCard_card ..
  have file : ((c.granted n x f).slab x).file.bind (c.granted n x f).file? = some f := by
    rw [slab]; exact hr
  have txn : txnAt f.source (firstBlock f.readOffset) (endBlock (f.spanSlab n).offset (f.spanSlab n).len) =
      some (e.start, min 128 (min ((min 65536 f.len + 511) / 512) e.count)) := by
    simp only [FileRec.spanSlab, ho, hsrc]
    exact txnAt_first he _
  have issued : c.grantSource n x = ((c.granted n x f).modCard n fun p => { p with attemptsAtGrade := 0 }).cardRead n
      e.start (min 128 (min ((min 65536 f.len + 511) / 512) e.count)) := by
    rw [Ctl.grantSource_eq hf, Ctl.issueSpanRead_of (by rw [card]) file (by rw [slab]; exact txn)]
  rw [issued, Ctl.cardRead, Ctl.modCard_modCard]
  refine ⟨?_, ?_, rfl, ?_⟩
  · rw [Ctl.modCard_slab, slab, FileRec.spanSlab, ho, spanLen, Nat.sub_zero]
    rfl
  · rw [Ctl.modCard_card, card]
    simp [ho, firstBlock]
  · rw [Ctl.modCard_card, card]
    exact Link.issue_idle _ hl ..

/-- The state in which a job that has started, with files to read, asks for its first slab. -/
structure Ctl.AsksFirst (c : Ctl) (n : CardNo) (f : FileRec) : Prop where
  running : (c.job n).state = .running
  reading : c.readingFile n = some f
  unread : f.readOffset < f.len
  room : c.sourceCount n < (c.job n).quota
  ready : (c.card n).state = .ready
  reader : (c.card n).reader = none
  idle : (c.card n).link.cond = .idle

theorem Ctl.AsksFirst.settle {f : FileRec} (h : c.AsksFirst n f) : c.settle n = c.raise n .source := by
  have kept : c.dropStaleWait n = c := by
    rw [Ctl.dropStaleWait, if_neg]
    rintro ⟨-, hs | hr⟩
    · exact hs h.running
    · have := h.unread
      rw [h.reading] at hr
      simp at hr
      omega
  have going : c.endCondition n = false := by
    rw [Bool.eq_false_iff]
    intro e
    obtain ⟨-, -, hq, -⟩ := (c.endCondition_iff n).1 e
    have := h.reading
    rw [Ctl.readingFile_eq_none_of_queue hq] at this
    cases this
  rw [Ctl.settle_running h.running going, kept, Ctl.raiseSource, if_pos]
  simp [Ctl.sourceRequest, h.running, h.reading, h.unread, h.room, h.ready, h.reader, Link.isIdle, h.idle]

/-- A request joins the wait list where no pool slab is FREE (R73). -/
theorem Ctl.raise_waits {u : SlabUse} (hw : c.waits n = none) (hx : c.lowestFree = none) :
    c.raise n u = c.setWait n (some u) := by simp [Ctl.raise, hw, hx]

/-- A request is granted the lowest FREE pool slab (R73). -/
theorem Ctl.raise_granted {u : SlabUse} {x : SlabNo} (hw : c.waits n = none) (hx : c.lowestFree = some x) :
    c.raise n u = c.grant n u x := by simp [Ctl.raise, hw, hx]

/-- The state in which a JOB_START of a job with a file of bytes at its head settles. -/
theorem Ctl.started_asksFirst {g : FileRec} {more : List FileRec} (hpool : c.PoolShared) (hfresh : c.FileNamesFresh)
    (hs : (c.job n).state = .opened) (hholds : (c.job n).holds.isEmpty = true) (hquota : 0 < (c.job n).quota)
    (hq : c.queue n = g :: more) (hall : ∀ h ∈ g :: more, h.state = .queued) (hl : 0 < g.len) (ho : g.readOffset = 0)
    (hready : (c.card n).state = .ready) (hreader : (c.card n).reader = none) (hidle : (c.card n).link.cond = .idle) :
    let t := (c.updJob n Job.started).promote n
    t.AsksFirst n { g with state := .reading } ∧ t.queue n = { g with state := .reading } :: more
      ∧ t.file? g.ref = some { g with state := .reading } ∧ (c.card n).SameButLamp (t.card n)
      ∧ t.slabs = c.slabs ∧ t.waitList = c.waitList := by
  intro t
  have started : (c.job n).started.state = .running := by simp [Job.started, Job.runOrHold, hholds]
  have job : (c.updJob n Job.started).job n = (c.job n).started := Ctl.updJob_job ..
  have files : (c.updJob n Job.started).files = c.files := Ctl.updJob_files ..
  have queue : (c.updJob n Job.started).queue n = g :: more := by rw [Ctl.queue_of_files files, hq]
  have taken : t = (c.updJob n Job.started).modFile g.ref fun g => { g with state := .reading } :=
    Ctl.promote_head (by rw [job, started]) queue hall hl
  have names : ((c.updJob n Job.started).files.map (·.ref)).Nodup := by rw [files]; exact hfresh.1
  have queue' : t.queue n = { g with state := .reading } :: more := by
    rw [taken]; exact Ctl.queue_modFile_head (fun _ => rfl) names queue
  have file : t.file? g.ref = some { g with state := .reading } := by
    have mem : g ∈ (c.updJob n Job.started).files := (List.mem_filter.1 (queue ▸ List.mem_cons_self)).1
    rw [taken, Ctl.modFile_file _ g.ref g.ref (fun g => { g with state := .reading }) fun _ => rfl,
      Ctl.file_of_mem names mem]
    simp
  have card : (c.card n).SameButLamp (t.card n) := by
    rw [taken, Ctl.modFile_card]; exact c.updJob_card n _
  have slabs : t.slabs = c.slabs := by rw [taken, Ctl.modFile_slabs, Ctl.updJob_slabs]
  obtain ⟨-, -, -, link, state, reader⟩ := card.fields
  refine ⟨⟨?_, ?_, ?_, ?_, ?_, ?_, ?_⟩, queue', file, card, slabs, ?_⟩
  · rw [taken, Ctl.modFile_job, job, started]
  · rw [Ctl.readingFile, queue', List.find?_cons_of_pos]; rfl
  · simpa [ho] using hl
  · rw [Ctl.sourceCount_of_slabs slabs, hpool.opened hs, taken, Ctl.modFile_job, job]; exact hquota
  · rw [state, hready]
  · rw [reader, hreader]
  · rw [link, hidle]
  · rw [taken, Ctl.modFile_waitList, Ctl.updJob_waitList c n _ started]

/-- The first span of a job that a JOB_START sets running (R42, R65, R72, R73, R124, R125). -/
theorem Ctl.startJob_first {g : FileRec} {more : List FileRec} {e : Extent} {rest : List Extent} (hpool : c.PoolShared)
    (hfresh : c.FileNamesFresh) (hs : (c.job n).state = .opened) (hholds : (c.job n).holds.isEmpty = true)
    (hquota : 0 < (c.job n).quota) (hq : c.queue n = g :: more) (hall : ∀ h ∈ g :: more, h.state = .queued)
    (hl : 0 < g.len) (ho : g.readOffset = 0) (hsrc : g.source = e :: rest) (he : 0 < e.count)
    (hready : (c.card n).state = .ready) (hreader : (c.card n).reader = none) (hidle : (c.card n).link.cond = .idle) :
    let t := c.startJob n
    t.queue n = { g with state := .reading } :: more
      ∧ ((∀ x : SlabNo, x.val < 508 → (c.slab x).state ≠ .free) → c.waits n = none →
          t.waits n = some .source ∧ (t.card n).reader = none)
      ∧ ∀ x : SlabNo, x.val < 508 → (c.slab x).state = .free → (∀ y : SlabNo, y.val < x.val → (c.slab y).state ≠ .free) →
          t.slab x = { Slab.freeValues with
              state := .filling, purpose := .source, job := some n, file := some g.ref, offset := 0
              len := min 65536 g.len }
            ∧ (t.card n).reader = some { slab := x, next := 0 } ∧ t.lastGranted = n
            ∧ (t.card n).link = (c.card n).link.sent .read e.start
                (min 128 (min ((min 65536 g.len + 511) / 512) e.count)) (c.card n).grade 1000 := by
  obtain ⟨asks, queue, file, card, slabs, waitList⟩ :=
    Ctl.started_asksFirst hpool hfresh hs hholds hquota hq hall hl ho hready hreader hidle
  obtain ⟨-, -, -, link, -, -⟩ := card.fields
  have grade : ((((c.updJob n Job.started).promote n)).card n).grade = (c.card n).grade := by rw [card]
  rw [Ctl.startJob_eq, asks.settle]
  generalize (c.updJob n Job.started).promote n = t at *
  refine ⟨?_, fun hfull hw => ?_, fun x hx hf hmin => ?_⟩
  · rw [Ctl.queue_of_files (Ctl.raise_files ..), queue]
  · have none' : t.lowestFree = none :=
      Ctl.lowestFree_eq_none fun x hx => by rw [Ctl.slab_of_slabs slabs]; exact hfull x hx
    rw [Ctl.raise_waits (by rw [Ctl.waits_of_waitList waitList, hw]) none']
    exact ⟨Ctl.setWait_waits .., asks.reader⟩
  · have lowest : t.lowestFree = some x := by
      refine Ctl.lowestFree_eq_some hx ?_ fun y hy => ?_
      · rw [Ctl.slab_of_slabs slabs, hf]
      · rw [Ctl.slab_of_slabs slabs]; exact hmin y hy
    have waits : t.waits n = none := by
      rw [Ctl.waits_of_waitList waitList]; exact hpool.2.1 x hx hf n
    rw [Ctl.raise_granted waits lowest, ← grade, ← link]
    exact Ctl.grantSource_first asks.reading file ho hsrc he asks.idle x

end

/-- Settles O35: the job moved, its READING file taken up, then the end condition or the reader's request. -/
theorem jobStartRunsHoldsOrEnds : Obligations.JobStartRunsHoldsOrEnds := by
  intro s f n ht hp hs
  have run : exec .jobStart s = .next (s.answer f (s.ctl.answerStart n)) := exec_jobRequest rfl ht hp (by rw [hs]; rfl)
  refine ⟨fun hscan => ?_, fun hscan => ?_⟩
  · rw [run, Ctl.answerStart, if_neg hscan]
    rfl
  rw [run, Ctl.answerStart, if_pos hscan]
  obtain ⟨last, -, -, state⟩ := Job.of_core_ite (Ctl.startJob_core (c := s.ctl) (n := n))
  refine ⟨_, rfl, State.answer_doneIn .., ?_⟩
  rw [State.answer_ok_ctl]
  refine ⟨?_, fun hpool => ?_, fun g more e rest hpool hfresh hholds hquota hq hall hl ho hsrc he hready hreader hidle => ?_,
    Ctl.startJob_otherJobs.trans (Ctl.pushEntry_otherJobs ..),
    fun h => (Ctl.startJob_otherPorts h).trans (Ctl.pushEntry_otherPorts ..)⟩
  · rw [Ctl.pushEntry_job]; exact last
  · rw [Ctl.pushEntry_job, Ctl.pushEntry_queue]
    have slabs := Ctl.startJob_sourceCount (hpool.opened hs)
    by_cases ended : (s.ctl.job n).closed = true ∧ (s.ctl.startJob n).queue n = []
    · have ends : (s.ctl.job n).closed = true ∧ (s.ctl.startJob n).queue n = [] ∧ (s.ctl.startJob n).sourceCount n = 0 :=
        ⟨ended.1, ended.2, slabs ended.2⟩
      have core := Ctl.startJob_core (c := s.ctl) (n := n)
      rw [if_pos ends] at core state
      rw [if_pos ended]
      exact ⟨state.1, state.2, by rw [(Job.core_runOrHold core).2]; rfl⟩
    · rw [if_neg fun h => ended ⟨h.1, h.2.1⟩, Job.started_state, Job.started_holds] at state
      rw [if_neg ended]
      exact state
  · simp only [Ctl.pushEntry_queue, Ctl.pushEntry_waits, Ctl.pushEntry_card, Ctl.pushEntry_slab, Ctl.pushEntry_lastGranted]
    exact Ctl.startJob_first hpool hfresh hs hholds hquota hq hall hl ho hsrc he hready hreader hidle

end Sys2Proof.Machine

namespace Sys2Proof.Machine

/-! ## The drain of a stop (R26, R77) -/

section
variable {N M : CardNo → Prop} {c t : Ctl} {n : CardNo}

theorem Slab.isSourceOf_iff {s : Slab} {n : CardNo} :
    s.isSourceOf n = true ↔ s.purpose = .source ∧ s.job = some n ∧ s.state ≠ .free := by
  simp [Slab.isSourceOf, and_assoc]

theorem Ctl.freePoolSlab_eq (c : Ctl) (x : SlabNo) :
    ∃ xs k w l, c.freePoolSlab x = { c with slabs := xs, cards := k, waitList := w, lastGranted := l }
      ∧ (∀ y : SlabNo, y ≠ x → xs[y] = c.slab y) ∧ c.GivenBack xs[x] := by
  obtain ⟨xs, k, w, l, e, hne, hx⟩ := Ctl.offer_eq (c.modSlab x fun _ => Slab.freeValues) x (Ctl.modSlab_slab ..)
  exact ⟨xs, k, w, l, e, fun y hy => (hne y hy).trans (Ctl.modSlab_slab_ne c _ hy), hx⟩

/-- A drained slab goes back to the pool; other slabs and the drives stay. -/
theorem Ctl.drainSlab_slab (c : Ctl) (n : CardNo) (x : SlabNo) :
    (∀ y, y ≠ x → (Ctl.drainSlab n c x).slab y = c.slab y) ∧ c.GivenBack ((Ctl.drainSlab n c x).slab x)
      ∧ (Ctl.drainSlab n c x).drives = c.drives ∧ (Ctl.drainSlab n c x).files = c.files := by
  unfold Ctl.drainSlab
  split
  · obtain ⟨xs, k, w, l, q, e, hne, hx⟩ := c.releaseCounted_eq n x
    rw [e]
    exact ⟨hne, hx, rfl, rfl⟩
  · obtain ⟨xs, k, w, l, e, hne, hx⟩ := c.freePoolSlab_eq x
    rw [e]
    exact ⟨hne, hx, rfl, rfl⟩

theorem Ctl.drainSlab_leads {x : SlabNo} (hn : N n) (h : c.MayRelease n x) : Ctl.Leads N M c (Ctl.drainSlab n c x) := by
  unfold Ctl.drainSlab
  split
  · exact Ctl.releaseCounted_leads hn h
  · exact Ctl.freePoolSlab_leads hn h

/-- What the drain of a list of slabs leaves: each goes back to the pool, the other slabs stay. -/
structure Ctl.Drained (N M : CardNo → Prop) (c t : Ctl) (l : List SlabNo) : Prop where
  leads : Ctl.Leads N M c t
  others : ∀ y, y ∉ l → t.slab y = c.slab y
  given : ∀ y ∈ l, t.GivenBack (t.slab y)
  drives : t.drives = c.drives

theorem Ctl.GivenBack.of_core {s : Slab} (h : c.GivenBack s) (hj : ∀ m, (t.job m).core = (c.job m).core) :
    t.GivenBack s := by
  obtain e | ⟨hs, hj' | ⟨hp, m, hm, hr⟩⟩ := h
  · exact .inl e
  · exact .inr ⟨hs, .inl hj'⟩
  · exact .inr ⟨hs, .inr ⟨hp, m, hm, (Job.core_fields (hj m)).1.trans hr⟩⟩

theorem Ctl.drainSlabs (hn : N n) (l : List SlabNo) (hl : l.Nodup) :
    ∀ c : Ctl, (∀ x ∈ l, c.MayRelease n x) → c.Drained N M (l.foldl (Ctl.drainSlab n) c) l := by
  induction l with
  | nil => exact fun c _ => ⟨.refl c, fun _ _ => rfl, fun _ hy => (List.not_mem_nil hy).elim, rfl⟩
  | cons x l ih =>
    intro c h
    obtain ⟨hx, hl'⟩ := List.nodup_cons.1 hl
    obtain ⟨others, given, drives, -⟩ := c.drainSlab_slab n x
    have first := Ctl.drainSlab_leads (M := M) hn (h x (by simp))
    have rest := ih hl' (Ctl.drainSlab n c x) fun y hy => by
      obtain ⟨hj, hr⟩ := h y (by simp [hy])
      have hne : y ≠ x := fun e => hx (e ▸ hy)
      simp only [Ctl.MayRelease, Ctl.NotBeingWritten, others y hne, Ctl.drive_of_drives drives]
      exact ⟨hj, hr⟩
    refine ⟨first.trans rest.leads, fun y hy => ?_, fun y hy => ?_, rest.drives.trans drives⟩
    · obtain ⟨hyx, hyl⟩ := not_or.1 (mt List.mem_cons.2 hy)
      rw [List.foldl_cons, rest.others y hyl, others y hyx]
    · rw [List.foldl_cons]
      by_cases hyl : y ∈ l
      · exact rest.given y hyl
      · obtain rfl := (List.mem_cons.1 hy).resolve_right hyl
        rw [rest.others y hyl]
        exact given.of_core fun m => ((first.trans rest.leads).jobsKept.core m)

theorem Ctl.slabsWhere_nodup (c : Ctl) (p : Slab → Bool) : (c.slabsWhere p).Nodup := by
  rw [Ctl.slabsWhere_eq]
  exact (List.nodup_finRange 512).filter _

/-- Of a drained stop, no source slab is being written (R26). -/
theorem Ctl.mayRelease_of_txnOf {x : SlabNo} (h : c.txnOf n = false) (hx : (c.slab x).isSourceOf n = true) :
    c.MayRelease n x := by
  obtain ⟨-, hj, -⟩ := Slab.isSourceOf_iff.1 hx
  refine ⟨hj, .inr fun d w hw hwx => ?_⟩
  simp only [Ctl.txnOf, Bool.or_eq_false_iff, List.any_eq_false] at h
  have idle := h.2 d (List.mem_finRange d)
  simp only [Ctl.driveBusyFor, Bool.or_eq_true, Bool.and_eq_true, not_or, not_and, Ctl.writingOf, hw, Option.any_some,
    hwx, hj, beq_self_eq_true, Bool.not_eq_true] at idle
  by_contra hc
  exact absurd (idle.1 (by simpa using hc)) (by simp)

theorem Ctl.abandonFiles_leads (hn : N n) : Ctl.Leads N M c (c.abandonFiles n) := by
  refine (Ctl.Consequence.files _ fun m hm => filter_map_of_others (fun f => ?_) fun f _ hf => ?_).leads
  · split <;> rfl
  · refine if_neg fun h => hm ?_
    rw [← hf, h.1]
    exact hn

/-- The source slabs of job n freed, its unfinished files abandoned and retired as room allows (R26, R77). -/
def Ctl.drainedStop (c : Ctl) (n : CardNo) : Ctl :=
  ((((c.slabsWhere fun s => s.isSourceOf n).foldl (Ctl.drainSlab n) c)).abandonFiles n).testRetire n

theorem Ctl.drainStop_eq (c : Ctl) (n : CardNo) :
    c.drainStop n = if ((c.drainedStop n).queue n).isEmpty then
      (c.drainedStop n).endJob n ((c.drainedStop n).job n).endReason else c.drainedStop n := rfl

theorem Ctl.drainSlabs_of_txnOf (hn : N n) (h : c.txnOf n = false) :
    c.Drained N M ((c.slabsWhere fun s => s.isSourceOf n).foldl (Ctl.drainSlab n) c) (c.slabsWhere fun s => s.isSourceOf n) :=
  Ctl.drainSlabs hn _ (c.slabsWhere_nodup _) c fun x hx =>
    Ctl.mayRelease_of_txnOf h ((c.mem_slabsWhere _ x).1 hx)

theorem Ctl.drainedStop_leads (hn : N n) (hm : M n) (h : c.txnOf n = false) : Ctl.Leads N M c (c.drainedStop n) :=
  ((Ctl.drainSlabs_of_txnOf hn h).leads.trans (Ctl.abandonFiles_leads hn)).trans (Ctl.testRetire_leads hn hm _)

end

/-! ## What every settling keeps of the jobs -/

section
variable {c : Ctl} {n : CardNo}

theorem Ctl.dropStaleWait_leads {N M : CardNo → Prop} : Ctl.Leads N M c (c.dropStaleWait n) := by
  unfold Ctl.dropStaleWait
  split
  · exact Ctl.rest_leads rfl
  · exact .refl c

theorem Ctl.stopDrained_txnOf (h : c.stopDrained n = true) : c.txnOf n = false := by
  simp only [Ctl.stopDrained, Bool.and_eq_true, Bool.not_eq_true'] at h
  exact h.1

/-- How a settled job stands to the record j it had: it ended, or drained to SUSPENDED, or kept its record but for its
counts. -/
def Job.SettledFrom (j j' : Job) : Prop :=
  (∃ r, j'.core = (j.endedBy r).core
      ∧ ((j.state = .running ∨ j.state = .held) ∧ r = .complete ∨ j.state = .stopping ∧ r = j.endReason))
    ∨ (j.state = .suspending ∧ j'.core = { j.core with state := .suspended }) ∨ j'.core = j.core

theorem Job.core_endedBy {j j' : Job} (h : j'.core = j.core) (r : EndReason) : (j'.endedBy r).core = (j.endedBy r).core :=
  congrArg (fun i => Job.endedBy i r) h

theorem Ctl.settle_job (c : Ctl) (n : CardNo) : (c.job n).SettledFrom ((c.settle n).job n) ∧ c.OtherJobsSame (c.settle n) n := by
  have dropped : c.OtherJobsSame (c.dropStaleWait n) n := .of_eq (by simp) (by simp) (by simp)
  cases hs : (c.job n).state with
  | running | held =>
    have settled := Ctl.settle_runningOrHeld (c := c) (n := n) (by simp [hs])
    refine ⟨?_, settled.otherJobs⟩
    rw [settled.job]
    split
    · exact .inl ⟨.complete, rfl, .inl ⟨by simp [hs], rfl⟩⟩
    · exact .inr (.inr rfl)
  | suspending =>
    rw [Ctl.settle_suspending hs]
    split
    · refine ⟨.inr (.inl ⟨hs, ?_⟩), dropped.trans (Ctl.updJob_otherJobs ..)⟩
      rw [Ctl.updJob_job, Ctl.dropStaleWait_job]
      rfl
    · exact ⟨.inr (.inr (by rw [Ctl.dropStaleWait_job])), dropped⟩
  | stopping =>
    rw [Ctl.settle_stopping hs]
    split
    · next hd =>
      have lead := Ctl.drainedStop_leads (N := (· = n)) (M := (· = n)) (c := c.dropStaleWait n) rfl rfl
        (Ctl.stopDrained_txnOf hd)
      have core := lead.jobsKept.core n
      rw [Ctl.dropStaleWait_job] at core
      have others := dropped.trans lead.otherJobs
      rw [Ctl.drainStop_eq]
      split
      · refine ⟨.inl ⟨(c.job n).endReason, ?_, .inr ⟨hs, rfl⟩⟩, others.trans (Ctl.endJob_otherJobs ..)⟩
        obtain ⟨-, -, -, -, -, -, -, reason, -⟩ := Job.core_fields core
        rw [Ctl.endJob_job, reason]
        exact Job.core_endedBy core _
      · exact ⟨.inr (.inr core), others⟩
    · exact ⟨.inr (.inr (by rw [Ctl.dropStaleWait_job])), dropped⟩
  | free | opened | suspended | faulted | ended =>
    rw [Ctl.settle_other (by simp [hs]) (by simp [hs]) (by simp [hs]) (by simp [hs])]
    exact ⟨.inr (.inr (by rw [Ctl.dropStaleWait_job])), dropped⟩

/-- The fields of a settled job that no end touches, and those that only an end or a drain does. -/
theorem Job.SettledFrom.fields {j j' : Job} (h : j.SettledFrom j') :
    j'.lastRelease = j.lastRelease ∧ j'.dests = j.dests
      ∧ (j'.state = .ended ∨ j'.holds = j.holds ∧ (j'.state = j.state ∨ j.state = .suspending ∧ j'.state = .suspended)) := by
  obtain ⟨r, core, -⟩ | ⟨hs, core⟩ | core := h
  · obtain ⟨state, dests, -, last, -⟩ := Job.core_fields core
    exact ⟨last, dests, .inl state⟩
  · obtain ⟨state, dests, holds, last, -⟩ := Job.core_fields (j := { j with state := .suspended }) core
    exact ⟨last, dests, .inr ⟨holds, .inr ⟨hs, state⟩⟩⟩
  · obtain ⟨state, dests, holds, last, -⟩ := Job.core_fields core
    exact ⟨last, dests, .inr ⟨holds, .inl state⟩⟩

end

end Sys2Proof.Machine

namespace Sys2Proof.Machine

/-! ## A card becomes READY (R12, R29) -/

section
variable {c : Ctl} {n : CardNo}

theorem Ctl.pump_workOnly (c : Ctl) (d : DriveNo) : c.WorkOnly (c.pump d) d :=
  Ctl.pump_induction (P := fun t => c.WorkOnly t d) (.refl c d) fun _ _ ha hs => ha.trans hs.workOnly

/-- What the pumps of all drives leave. -/
theorem Ctl.pumpAll_same (c : Ctl) :
    c.pumpAll.jobs = c.jobs ∧ c.pumpAll.files = c.files ∧ c.pumpAll.cards = c.cards ∧ c.pumpAll.waitList = c.waitList
      ∧ c.pumpAll.digest = c.digest ∧ c.pumpAll.fillSeq = c.fillSeq := by
  have pump (c : Ctl) (d : DriveNo) := (c.pump_workOnly d).same
  simp only [Ctl.pumpAll, eachDrive, pump, and_self]

theorem Job.isActive_iff (j : Job) : j.isActive = true ↔ j.state ≠ .free ∧ j.state ≠ .ended := by
  unfold Job.isActive
  split <;> simp_all

/-- The port of an identified card (R119), over its link gone IDLE. -/
def Ctl.identified (c : Ctl) (n : CardNo) (cap : Nat) (ser : Serial) : Ctl :=
  c.modCard n fun p =>
    { p with link := (c.card n).link.finish, state := .ready, attempts := 0, capacity := cap, serial := ser }

theorem Ctl.endTxn_identify {f : Flight} {cap : Nat} {ser : Serial} (hf : f.kind = .identify) (hc : 0 < cap) :
    c.endTxn (.card n) f .good cap ser =
      ((((c.identified n cap ser).cardReturned n).notifyPort (.card n)).lampUpdate n).settle n := by
  have port : (c.setLink (.card n) (c.link (.card n)).finish).modCard n (fun p =>
      { p with state := .ready, attempts := 0, capacity := cap, serial := ser }) = c.identified n cap ser := by
    simp only [Ctl.setLink, Ctl.modCard_modCard]
    rfl
  simp only [Ctl.endTxn, Ctl.cardTxnEnd, hf, Ctl.cardIdentified, hc, and_self, if_true, port]

/-- The job record after its own card has come back (R12, R16). -/
def Job.cardBack (j : Job) : Job :=
  if j.cardRelease = .host then { j with holds := { j.holds with cardGone := some .ready } }
  else if j.state = .held ∧ ({ j.holds with cardGone := none } : HoldSet).isEmpty = true then
    { j with holds := { j.holds with cardGone := none }, state := .running, lastRelease := .cardGone }
  else { j with holds := { j.holds with cardGone := none } }

/-- The job record after another card has come (R29). -/
def Job.cardReplaced (j : Job) : Job :=
  { j with
    holds := { j.holds with cardGone := some .pending }, state := .faulted, faultCause := .cardReplaced
    suspend := .none }

theorem Job.cardBack_state (j : Job) :
    j.cardBack.state = j.state ∨ j.state = .held ∧ j.cardBack.state = .running := by
  unfold Job.cardBack
  split
  · exact .inl rfl
  · split
    · next h => exact .inr ⟨h.1, rfl⟩
    · exact .inl rfl

theorem Job.cardBack_kept (j : Job) :
    j.cardBack.closed = j.closed ∧ (j.state ≠ .held → j.cardBack.lastRelease = j.lastRelease) := by
  unfold Job.cardBack
  split
  · exact ⟨rfl, fun _ => rfl⟩
  · split
    · next h => exact ⟨rfl, fun hn => (hn h.1).elim⟩
    · exact ⟨rfl, fun _ => rfl⟩

/-- The job's own card is back: its record as the release says. -/
theorem Ctl.cardReturned_own (ha : (c.job n).isActive = true) (hg : (c.job n).holds.cardGone ≠ none)
    (hs : (c.card n).serial = (c.job n).serial) : ∃ g, c.cardReturned n = c.updJob n g ∧ g (c.job n) = (c.job n).cardBack := by
  have hg' : (c.job n).holds.cardGone.isSome = true := Option.isSome_iff_ne_none.2 hg
  cases hr : (c.job n).cardRelease with
  | auto =>
    refine ⟨fun j => ({ j with holds := j.holds.setCard none }).releaseIfEmpty .cardGone, ?_, ?_⟩
    · simp [Ctl.cardReturned, ha, hg', hs, hr]
    · simp [Job.cardBack, hr, Job.releaseIfEmpty, HoldSet.setCard]
  | host =>
    refine ⟨fun j => { j with holds := j.holds.setCard (some .ready) }, ?_, ?_⟩
    · simp [Ctl.cardReturned, ha, hg', hs, hr]
    · simp [Job.cardBack, hr, HoldSet.setCard]

/-- Another card faults the job, unless it is STOPPING. -/
theorem Ctl.cardReturned_other (ha : (c.job n).isActive = true) (hg : (c.job n).holds.cardGone ≠ none)
    (hs : (c.card n).serial ≠ (c.job n).serial) :
    c.cardReturned n = if (c.job n).state = .stopping then c else c.fault n .cardReplaced := by
  simp [Ctl.cardReturned, ha, Option.isSome_iff_ne_none.2 hg, hs]

/-- A job that is not held for its card, or not active, is not reached. -/
theorem Ctl.cardReturned_none (h : (c.job n).isActive = false ∨ (c.job n).holds.cardGone = none) : c.cardReturned n = c := by
  obtain h | h := h <;> simp [Ctl.cardReturned, h]

theorem Ctl.fault_replaced (c : Ctl) (n : CardNo) :
    (c.fault n .cardReplaced).job n = (c.job n).cardReplaced ∧ (c.fault n .cardReplaced).files = c.files
      ∧ (c.card n).SameButLamp ((c.fault n .cardReplaced).card n) ∧ c.OtherJobsSame (c.fault n .cardReplaced) n := by
  have moved := c.updJob_job n fun j =>
    { j with
      state := .faulted, faultCause := .cardReplaced, suspend := .none
      holds := if FaultCause.cardReplaced = .cardReplaced then j.holds.setCard (some .pending) else j.holds }
  obtain ⟨jobs, files, cards, -⟩ := Ctl.pumpAll_same (c.updJob n fun j =>
    { j with
      state := .faulted, faultCause := .cardReplaced, suspend := .none
      holds := if FaultCause.cardReplaced = .cardReplaced then j.holds.setCard (some .pending) else j.holds })
  rw [Ctl.fault]
  refine ⟨?_, files.trans (Ctl.updJob_files ..), ?_, (c.updJob_otherJobs n _).trans
    (Ctl.pumpAll_leads (N := (· = n)) (M := (· = n)) _).otherJobs⟩
  · rw [Ctl.job_of_jobs jobs, moved]
    rfl
  · rw [Ctl.card_of_cards cards]; exact c.updJob_card n _

/-- A state after a notice of a port and its lamp: only the lamp and the output queue differ. -/
theorem Ctl.told_otherJobs (c : Ctl) (n : CardNo) : c.OtherJobsSame ((c.notifyPort (.card n)).lampUpdate n) n :=
  .of_eq (by simp) (by simp) (by simp)

/-- A job in a state from which nothing settles. -/
theorem Ctl.settle_still (h : (c.job n).state = .opened ∨ (c.job n).state = .suspended ∨ (c.job n).state = .faulted
    ∨ (c.job n).state = .free ∨ (c.job n).state = .ended) : c.settle n = c.dropStaleWait n := by
  refine Ctl.settle_other ?_ ?_ ?_ ?_ <;> intro e <;> simp [e] at h

theorem Job.cardBack_still (j : Job) (h : j.state = .opened ∨ j.state = .suspended ∨ j.state = .faulted) :
    j.cardBack.state = .opened ∨ j.cardBack.state = .suspended ∨ j.cardBack.state = .faulted ∨ j.cardBack.state = .free
      ∨ j.cardBack.state = .ended := by
  obtain e | ⟨held, -⟩ := j.cardBack_state
  · rw [e]
    exact h.imp_right fun h => h.imp_right .inl
  · simp [held] at h

/-- A HELD job settles after its own card has come back: it ends COMPLETE, or stands as the release left it. -/
theorem Ctl.settle_cardBack_held {t : Ctl} (job : t.job n = (c.job n).cardBack) (files : t.files = c.files)
    (slabs : t.slabs = c.slabs) (held : (c.job n).state = .held) :
    (t.settle n).job n = if (c.job n).closed = true ∧ c.queue n = [] ∧ c.sourceCount n = 0 then
      (c.job n).cardBack.endedComplete else (c.job n).cardBack := by
  have state : (t.job n).state = .running ∨ (t.job n).state = .held := by
    rw [job]
    obtain e | ⟨-, e⟩ := (c.job n).cardBack_state
    · exact .inr (e.trans held)
    · exact .inl e
  have settled := Ctl.settle_runningOrHeld state
  rw [settled.job, job, (c.job n).cardBack_kept.1, Ctl.queue_of_files (settled.files.trans files)]
  refine if_congr (and_congr_right fun _ => and_congr_right fun hq => ?_) rfl rfl
  rw [Ctl.sourceCount_of_slabs ((settled.slabs (by rw [Ctl.queue_of_files files, hq])).trans slabs)]

/-- The state after a card of port n has become READY and the job unit and the port's notices have answered, before the
job settles. -/
def Ctl.cardBack (c : Ctl) (n : CardNo) (cap : Nat) (ser : Serial) : Ctl :=
  (((c.identified n cap ser).cardReturned n).notifyPort (.card n)).lampUpdate n

theorem Ctl.identified_card (cap : Nat) (ser : Serial) :
    (c.identified n cap ser).card n = { c.card n with
      link := (c.card n).link.finish, state := .ready, attempts := 0, capacity := cap, serial := ser } :=
  Ctl.modCard_card ..

theorem Ctl.cardBack_jobs (cap : Nat) (ser : Serial) :
    (c.cardBack n cap ser).jobs = ((c.identified n cap ser).cardReturned n).jobs := by simp [Ctl.cardBack]

theorem Ctl.cardBack_otherJobs (cap : Nat) (ser : Serial) : c.OtherJobsSame (c.cardBack n cap ser) n := by
  have returned : c.OtherJobsSame ((c.identified n cap ser).cardReturned n) n := by
    have here : c.OtherJobsSame (c.identified n cap ser) n := .of_eq rfl rfl ⟨rfl, rfl, rfl, rfl⟩
    by_cases ha : ((c.identified n cap ser).job n).isActive = true ∧ ((c.identified n cap ser).job n).holds.cardGone ≠ none
    · by_cases hs : ((c.identified n cap ser).card n).serial = ((c.identified n cap ser).job n).serial
      · obtain ⟨g, e, -⟩ := Ctl.cardReturned_own ha.1 ha.2 hs
        rw [e]
        exact here.trans (Ctl.updJob_otherJobs ..)
      · rw [Ctl.cardReturned_other ha.1 ha.2 hs]
        split
        · exact here
        · exact here.trans (Ctl.fault_replaced _ n).2.2.2
    · rw [Ctl.cardReturned_none]
      · exact here
      · rw [not_and_or, not_not, Bool.not_eq_true] at ha
        exact ha
  exact returned.trans (Ctl.told_otherJobs _ n)

/-- The port's own card: the record as the release says, files and slabs as they were. -/
theorem Ctl.cardBack_own {cap : Nat} {ser : Serial} (ha : (c.job n).isActive = true) (hg : (c.job n).holds.cardGone ≠ none)
    (hs : (c.job n).serial = ser) :
    (c.cardBack n cap ser).job n = (c.job n).cardBack ∧ (c.cardBack n cap ser).files = c.files
      ∧ (c.cardBack n cap ser).slabs = c.slabs := by
  obtain ⟨g, e, eg⟩ := Ctl.cardReturned_own (c := c.identified n cap ser) ha hg (by rw [Ctl.identified_card]; exact hs.symm)
  refine ⟨?_, ?_, ?_⟩
  · rw [Ctl.job_of_jobs (c.cardBack_jobs cap ser), e, Ctl.updJob_job]
    exact eg
  · simp only [Ctl.cardBack, e, Ctl.lampUpdate_files, Ctl.notifyPort_files, Ctl.updJob_files]
    rfl
  · simp only [Ctl.cardBack, e, Ctl.lampUpdate_slabs, Ctl.notifyPort_slabs, Ctl.updJob_slabs]
    rfl

/-- Another card in the port of a job that is not STOPPING. -/
theorem Ctl.cardBack_replaced {cap : Nat} {ser : Serial} (ha : (c.job n).isActive = true)
    (hg : (c.job n).holds.cardGone ≠ none) (hs : (c.job n).serial ≠ ser) (hns : (c.job n).state ≠ .stopping) :
    (c.cardBack n cap ser).job n = (c.job n).cardReplaced ∧ (c.cardBack n cap ser).files = c.files
      ∧ ((c.cardBack n cap ser).card n).link.cond = .idle ∧ ((c.cardBack n cap ser).card n).reader = (c.card n).reader := by
  have e := Ctl.cardReturned_other (c := c.identified n cap ser) ha hg (by rw [Ctl.identified_card]; exact fun h => hs h.symm)
  rw [if_neg (show ¬((c.identified n cap ser).job n).state = .stopping from hns)] at e
  obtain ⟨job, files, card, -⟩ := (c.identified n cap ser).fault_replaced n
  have shown := Ctl.lampUpdate_card (((c.identified n cap ser).cardReturned n).notifyPort (.card n)) n
  rw [e, Ctl.card_of_cards (Ctl.notifyPort_cards ..)] at shown
  obtain ⟨-, -, -, link, -, reader⟩ := (card.trans shown).fields
  rw [Ctl.identified_card] at link reader
  refine ⟨?_, ?_, ?_, ?_⟩
  · rw [Ctl.job_of_jobs (c.cardBack_jobs cap ser), e, job]
    rfl
  · rw [Ctl.cardBack, e, Ctl.lampUpdate_files, Ctl.notifyPort_files, files]
    rfl
  · rw [Ctl.cardBack, e, link]
    rfl
  · rw [Ctl.cardBack, e, reader]

/-- A job that the card's return does not reach keeps its record. -/
theorem Ctl.cardBack_unreached {cap : Nat} {ser : Serial}
    (h : (c.job n).isActive = false ∨ (c.job n).holds.cardGone = none ∨ (c.job n).serial ≠ ser ∧ (c.job n).state = .stopping) :
    (c.cardBack n cap ser).job n = c.job n := by
  have none' : (c.identified n cap ser).cardReturned n = c.identified n cap ser := by
    by_cases hr : (c.job n).isActive = false ∨ (c.job n).holds.cardGone = none
    · exact Ctl.cardReturned_none hr
    · rw [not_or, Bool.not_eq_false] at hr
      obtain h | h | ⟨hs, ht⟩ := h
      · exact (hr.1.symm.trans h |> Bool.noConfusion)
      · exact (hr.2 h).elim
      · rw [Ctl.cardReturned_other (c := c.identified n cap ser) hr.1 hr.2 (by rw [Ctl.identified_card]; exact fun e => hs e.symm), if_pos]
        exact ht
  rw [Ctl.job_of_jobs (c.cardBack_jobs cap ser), none']
  rfl

end

/-- Settles O51: the record as the return leaves it, then what settles of the job. -/
theorem returnedCardsReleaseOrFault : Obligations.ReturnedCardsReleaseOrFault := by
  intro c n f cap ser hf hc t j j' active own free released ends
  have run : t = (c.cardBack n cap ser).settle n := Ctl.endTxn_identify hf hc
  have isActive : active ↔ j.isActive = true := j.isActive_iff.symm
  obtain ⟨settled, others⟩ := (c.cardBack n cap ser).settle_job n
  have fields := settled.fields
  rw [← run] at fields
  have held_or (h : (c.cardBack n cap ser).job n = j) : j'.state = .ended ∨ j'.holds = j.holds ∧
      (j'.state = j.state ∨ j.state = .suspending ∧ j'.state = .suspended) := by
    rw [h] at fields
    exact fields.2.2
  refine ⟨fun ⟨ha, hg, hs⟩ => ?_, fun ha hg hs => ⟨fun hns => ?_, fun hst => ?_⟩, fun ha => ?_, fun hg => ?_, fun m hm => ?_⟩
  · obtain ⟨job, files, slabs⟩ := Ctl.cardBack_own (cap := cap) (isActive.1 ha) hg hs
    have back : j.cardBack = released := rfl
    rw [job] at fields
    refine ⟨fun held => ?_, fun still => ?_, fun moving => ?_⟩
    · show t.job n = _
      rw [run, Ctl.settle_cardBack_held job files slabs held, back]
    · show t.job n = _
      rw [run, Ctl.settle_still (by rw [job]; exact j.cardBack_still still), Ctl.dropStaleWait_job, job]
      exact back
    · have notHeld : j.state ≠ .held := by
        obtain h | h | h := moving <;> rw [h] <;> decide
      exact ⟨fields.1.trans (j.cardBack_kept.2 notHeld), fields.2.2.imp_right And.left⟩
  · obtain ⟨job, files, link, reader⟩ := Ctl.cardBack_replaced (cap := cap) (isActive.1 ha) hg hs hns
    show t.job n = _ ∧ (t.card n).link.cond = .idle ∧ (t.card n).reader = (c.card n).reader ∧ t.files = c.files
    rw [run, Ctl.settle_still (by rw [job]; exact .inr (.inr (.inl rfl))), Ctl.dropStaleWait_job, Ctl.dropStaleWait_card,
      Ctl.dropStaleWait_files]
    exact ⟨job, link, reader, files⟩
  · obtain ended | ⟨holds, same | ⟨hsus, -⟩⟩ :=
      held_or (Ctl.cardBack_unreached (.inr (.inr ⟨hs, hst⟩)))
    · exact .inl ended
    · exact .inr ⟨holds, same.trans hst⟩
    · rw [hst] at hsus; cases hsus
  · have inactive : j.isActive = false := by rw [Bool.eq_false_iff]; exact mt isActive.2 ha
    have job := Ctl.cardBack_unreached (c := c) (n := n) (cap := cap) (ser := ser) (.inl inactive)
    show t.job n = _
    rw [run, Ctl.settle_still, Ctl.dropStaleWait_job, job]
    rw [job]
    exact .inr (.inr (.inr (not_and_or.1 ha |>.imp not_not.1 not_not.1)))
  · have := held_or (Ctl.cardBack_unreached (.inr (.inl hg)))
    exact this.imp_right And.left
  · rw [run]
    exact (others.1 m hm).1.trans ((c.cardBack_otherJobs cap ser).1 m hm).1

end Sys2Proof.Machine

namespace Sys2Proof.Machine

/-! ## JOB_SUSPEND (R19, R20, R21) -/

section
variable {N M : CardNo → Prop} {c t : Ctl} {d : DriveNo} {n : CardNo}

/-! ### The abandonment of a context (R102, R71) -/

/-- Port d with context none, over slabs and a digest unit that its verify slab may have left. -/
def Ctl.withoutContext (c : Ctl) (d : DriveNo) (xs : Vector Slab 512) (u : Digest) (b : Bool) : Ctl :=
  { c.modDrive d fun p => { p with context := none, readAbandoned := b } with slabs := xs, digest := u }

theorem verifySlab_ge (d : DriveNo) : 508 ≤ (verifySlab d).val := Nat.le_add_right 508 d.val

theorem Ctl.withoutContext_drive (e : DriveNo) (xs : Vector Slab 512) (u : Digest) (b : Bool) :
    (c.withoutContext d xs u b).drive e =
      if e = d then { c.drive d with context := none, readAbandoned := b } else c.drive e :=
  Ctl.modDrive_drive_ite c d e fun p => { p with context := none, readAbandoned := b }

/-- An abandoned context leaves the port without one; at most its verify slab is freed. -/
theorem Ctl.abandonContext_eq (h : (c.drive d).context.isSome = true) :
    ∃ xs u b, c.abandonContext d = c.withoutContext d xs u b
      ∧ ∀ y : SlabNo, xs[y] = c.slab y ∨ y = verifySlab d ∧ xs[y] = Slab.freeValues := by
  have same (u : Digest) : ∃ xs u' b, ({ c with digest := u } : Ctl).modDrive d (fun p => { p with context := none }) =
      c.withoutContext d xs u' b ∧ ∀ y : SlabNo, xs[y] = c.slab y ∨ y = verifySlab d ∧ xs[y] = Slab.freeValues :=
    ⟨c.slabs, u, (c.drive d).readAbandoned, rfl, fun _ => .inl rfl⟩
  have freed (u : Digest) : ∃ xs u' b, (({ c with digest := u } : Ctl).freeVerifySlab d).modDrive d
        (fun p => { p with context := none }) = c.withoutContext d xs u' b
      ∧ ∀ y : SlabNo, xs[y] = c.slab y ∨ y = verifySlab d ∧ xs[y] = Slab.freeValues := by
    refine ⟨(c.freeVerifySlab d).slabs, u, (c.drive d).readAbandoned, rfl, fun y => ?_⟩
    show (c.modSlab (verifySlab d) fun _ => Slab.freeValues).slab y = _ ∨ _
      ∧ (c.modSlab (verifySlab d) fun _ => Slab.freeValues).slab y = _
    rw [Ctl.modSlab_slab_ite]
    split
    · next e => exact .inr ⟨e, rfl⟩
    · exact .inl rfl
  simp only [Ctl.abandonContext, h, if_true, Ctl.releaseVerifySlab]
  split
  · exact same c.digest
  · split
    · exact ⟨c.slabs, c.digest, true, Ctl.modDrive_modDrive .., fun _ => .inl rfl⟩
    · exact freed c.digest
  · split
    · exact freed _
    · unfold Ctl.markDiscard
      split
      · exact same _
      · exact same c.digest

/-! ### The place in fill order (R146, R64) -/

/-- An entry put in fill order stands behind every entry as old as it, ahead of the first that is younger. -/
theorem Ctl.insertByAge_place (c : Ctl) (x : SlabNo) (l : List SlabNo) :
    ∃ pre post, l = pre ++ post ∧ c.insertByAge x l = pre ++ x :: post ∧ (∀ y ∈ pre, c.age x ≤ c.age y)
      ∧ ∀ y, post.head? = some y → c.age y < c.age x := by
  induction l with
  | nil => exact ⟨[], [], rfl, rfl, by simp, by simp⟩
  | cons z l ih =>
    simp only [Ctl.insertByAge]
    split
    · next h => exact ⟨[], z :: l, rfl, rfl, by simp, fun y hy => by cases hy; exact h⟩
    · next h =>
      obtain ⟨pre, post, rfl, e, hpre, hpost⟩ := ih
      refine ⟨z :: pre, post, rfl, by rw [e]; rfl, ?_, hpost⟩
      simpa using ⟨Nat.not_lt.1 h, hpre⟩

theorem Ctl.mem_insertByAge {x y : SlabNo} {l : List SlabNo} : y ∈ c.insertByAge x l ↔ y = x ∨ y ∈ l := by
  obtain ⟨pre, post, rfl, e, -⟩ := c.insertByAge_place x l
  rw [e]
  simp only [List.mem_append, List.mem_cons]
  tauto

theorem Ctl.age_congr {x : SlabNo} (hf : t.fillSeq = c.fillSeq) (hx : t.slab x = c.slab x) : t.age x = c.age x := by
  simp only [Ctl.age, hf, hx]

theorem Ctl.insertByAge_congr {x : SlabNo} {l : List SlabNo} (h : ∀ y ∈ x :: l, t.age y = c.age y) :
    t.insertByAge x l = c.insertByAge x l := by
  induction l with
  | nil => rfl
  | cons z l ih =>
    simp only [Ctl.insertByAge, h x (by simp), h z (by simp)]
    rw [ih fun y hy => h y (by simp only [List.mem_cons] at hy ⊢; tauto)]

/-- What a pass over the drives makes of each, when it reaches a drive as it found it and leaves the others' states. -/
theorem eachDrive_each {f : Ctl → DriveNo → Ctl} {A B : Ctl → DriveNo → Prop} {c : Ctl} (start : ∀ d, A c d)
    (here : ∀ c d, A c d → B (f c d) d) (before : ∀ c d e, d ≠ e → A c d → A (f c e) d)
    (after : ∀ c d e, d ≠ e → B c d → B (f c e) d) (d : DriveNo) : B (eachDrive f c) d := by
  unfold eachDrive
  match d with
  | 0 => exact after _ _ _ (by decide) (after _ _ _ (by decide) (after _ _ _ (by decide) (here _ _ (start 0))))
  | 1 => exact after _ _ _ (by decide) (after _ _ _ (by decide) (here _ _ (before _ _ _ (by decide) (start 1))))
  | 2 => exact after _ _ _ (by decide) (here _ _ (before _ _ _ (by decide) (before _ _ _ (by decide) (start 2))))
  | 3 =>
    exact here _ _ (before _ _ _ (by decide) (before _ _ _ (by decide) (before _ _ _ (by decide) (start 3))))

/-! ### One port under PROMPT (R20, R146) -/

/-- A first transaction staged for job n goes back to the write queue. -/
def Ctl.unstage (n : CardNo) (c : Ctl) (d : DriveNo) : Ctl :=
  match (c.drive d).staged with
  | some g =>
    if g.first && (c.slab g.slab).job == some n then
      c.modDrive d fun p => { p with staged := none, writeQueue := c.insertByAge g.slab p.writeQueue }
    else c
  | none => c

/-- A context on a file of job n is abandoned, and the file goes to the head of the verify queue. -/
def Ctl.putBackVerify (n : CardNo) (c : Ctl) (d : DriveNo) : Ctl :=
  match (c.drive d).context with
  | some k =>
    if k.file.job = n then
      (c.abandonContext d).modDrive d fun p => { p with verifyQueue := k.file :: p.verifyQueue }
    else c
  | none => c

theorem Ctl.promptDrive_eq (n : CardNo) (c : Ctl) (d : DriveNo) :
    Ctl.promptDrive n c d = Ctl.putBackVerify n (Ctl.unstage n c d) d := rfl

/-- t differs from c in drive port d, the digest unit, and verify slabs that were freed. -/
structure Ctl.AtDrive (c t : Ctl) (d : DriveNo) : Prop where
  jobs : t.jobs = c.jobs
  cards : t.cards = c.cards
  fillSeq : t.fillSeq = c.fillSeq
  drives : ∀ e, e ≠ d → t.drive e = c.drive e
  slabs : ∀ y : SlabNo, t.slab y = c.slab y ∨ 508 ≤ y.val ∧ t.slab y = Slab.freeValues

theorem Ctl.unstage_atDrive : c.AtDrive (Ctl.unstage n c d) d := by
  have here : c.AtDrive c d := ⟨rfl, rfl, rfl, fun _ _ => rfl, fun _ => .inl rfl⟩
  unfold Ctl.unstage
  split
  · split
    · exact ⟨rfl, rfl, rfl, fun e he => Ctl.modDrive_drive_ne c _ he, fun _ => .inl rfl⟩
    · exact here
  · exact here

theorem Ctl.unstage_slab (y : SlabNo) : (Ctl.unstage n c d).slab y = c.slab y := by
  unfold Ctl.unstage
  split
  · split <;> rfl
  · rfl

theorem Ctl.putBackVerify_atDrive : c.AtDrive (Ctl.putBackVerify n c d) d := by
  have here : c.AtDrive c d := ⟨rfl, rfl, rfl, fun _ _ => rfl, fun _ => .inl rfl⟩
  unfold Ctl.putBackVerify
  split
  · next k hk =>
    split
    · obtain ⟨xs, u, b, e, hx⟩ := Ctl.abandonContext_eq (c := c) (d := d) (by simp [hk])
      rw [e]
      refine ⟨rfl, rfl, rfl, fun e he => ?_, fun y => ?_⟩
      · rw [Ctl.modDrive_drive_ne _ _ he]
        exact (Ctl.withoutContext_drive ..).trans (if_neg he)
      · exact (hx y).imp_right fun ⟨h, hy⟩ => ⟨h ▸ verifySlab_ge d, hy⟩
    · exact here
  · exact here

/-- The port after its stage has been given back. -/
theorem Ctl.unstage_drive :
    (∃ g, (c.drive d).staged = some g ∧ g.first = true ∧ (c.slab g.slab).job = some n
      ∧ (Ctl.unstage n c d).drive d =
        { c.drive d with staged := none, writeQueue := c.insertByAge g.slab (c.drive d).writeQueue })
    ∨ (∀ g, (c.drive d).staged = some g → g.first = true → (c.slab g.slab).job ≠ some n)
      ∧ (Ctl.unstage n c d).drive d = c.drive d := by
  unfold Ctl.unstage
  split
  · next g hg =>
    split
    · next h =>
      simp only [Bool.and_eq_true, beq_iff_eq] at h
      exact .inl ⟨g, hg, h.1, h.2, Ctl.modDrive_drive ..⟩
    · next h =>
      refine .inr ⟨fun g' hg' hf hj => h ?_, rfl⟩
      obtain rfl : g = g' := Option.some.inj (hg.symm.trans hg')
      simp [hf, hj]
  · next hg => exact .inr ⟨fun g hg' => (by rw [hg] at hg'; cases hg'), rfl⟩

/-- The port after its context has been given back. -/
theorem Ctl.putBackVerify_drive :
    (∃ k b, (c.drive d).context = some k ∧ k.file.job = n
      ∧ (Ctl.putBackVerify n c d).drive d =
        { c.drive d with context := none, readAbandoned := b, verifyQueue := k.file :: (c.drive d).verifyQueue })
    ∨ (∀ k, (c.drive d).context = some k → k.file.job ≠ n) ∧ (Ctl.putBackVerify n c d).drive d = c.drive d := by
  unfold Ctl.putBackVerify
  split
  · next k hk =>
    split
    · next hj =>
      obtain ⟨xs, u, b, e, -⟩ := Ctl.abandonContext_eq (c := c) (d := d) (by simp [hk])
      refine .inl ⟨k, b, hk, hj, ?_⟩
      rw [e, Ctl.modDrive_drive, Ctl.withoutContext_drive, if_pos rfl]
    · next hj =>
      refine .inr ⟨fun k' hk' => ?_, rfl⟩
      obtain rfl : k = k' := Option.some.inj (hk.symm.trans hk')
      exact hj
  · next hk => exact .inr ⟨fun k hk' => (by rw [hk] at hk'; cases hk'), rfl⟩

end

/-! ### What a PROMPT suspend leaves at a port -/

/-- Port d still as in the state r before the suspend; job n allows no work. -/
structure Ctl.BeforePrompt (r : Ctl) (n : CardNo) (c : Ctl) (d : DriveNo) : Prop where
  drive : c.drive d = r.drive d
  pool : ∀ y : SlabNo, y.val < 508 → c.slab y = r.slab y
  job : ∀ y : SlabNo, (c.slab y).job = (r.slab y).job ∨ (c.slab y).job = none
  fillSeq : c.fillSeq = r.fillSeq
  quiet : (c.job n).allowsWork = false

/-- What job n's work at port d has become, against the state r before the suspend (R146). -/
structure Ctl.AfterPrompt (r : Ctl) (n : CardNo) (t : Ctl) (d : DriveNo) : Prop where
  context : ∀ k, (t.drive d).context = some k → k.file.job ≠ n
  staged : ∀ g, (t.drive d).staged = some g → g.first = true → (t.slab g.slab).job ≠ some n
  entry : ∀ g, (r.drive d).staged = some g → g.first = true → (r.slab g.slab).job = some n →
    (∀ y ∈ g.slab :: (r.drive d).writeQueue, y.val < 508) →
    (t.slab g.slab).job = some n ∧ ∃ pre post, (r.drive d).writeQueue = pre ++ post ∧ (∀ y ∈ pre, r.age g.slab ≤ r.age y)
      ∧ (∀ y, post.head? = some y → r.age y < r.age g.slab) ∧ g.slab ∈ (t.drive d).writeQueue
      ∧ (t.drive d).writeQueue.Sublist (pre ++ g.slab :: post)
  next : ∀ g, (r.drive d).staged = some g → g.first = false → (r.drive d).link.flight ≠ none →
    (t.drive d).staged = some g ∧ (t.drive d).link.isIdle = false
  verify : ∀ k, (r.drive d).context = some k → k.file.job = n →
    ∃ rest, (t.drive d).verifyQueue = k.file :: rest ∧ rest.Sublist (r.drive d).verifyQueue
  quiet : (t.job n).allowsWork = false

section
variable {r c t : Ctl} {n : CardNo} {d e : DriveNo}

theorem Ctl.promptDrive_atDrive : c.AtDrive (Ctl.promptDrive n c d) d := by
  rw [Ctl.promptDrive_eq]
  obtain ⟨j, k, f, ds, xs⟩ := Ctl.putBackVerify_atDrive (n := n) (c := Ctl.unstage n c d) (d := d)
  obtain ⟨j', k', f', ds', -⟩ := Ctl.unstage_atDrive (n := n) (c := c) (d := d)
  exact ⟨j.trans j', k.trans k', f.trans f', fun e he => (ds e he).trans (ds' e he),
    fun y => by rw [← Ctl.unstage_slab (n := n) (c := c) (d := d)]; exact xs y⟩

theorem Ctl.AtDrive.job_or_none (h : c.AtDrive t d) (y : SlabNo) :
    (t.slab y).job = (c.slab y).job ∨ (t.slab y).job = none := by
  obtain e | ⟨-, e⟩ := h.slabs y
  · exact .inl (by rw [e])
  · exact .inr (by rw [e]; rfl)

theorem Ctl.AtDrive.pool (h : c.AtDrive t d) {y : SlabNo} (hy : y.val < 508) : t.slab y = c.slab y :=
  (h.slabs y).resolve_right fun ⟨hge, _⟩ => absurd hy (Nat.not_lt.2 hge)

theorem Ctl.BeforePrompt.elsewhere (h : r.BeforePrompt n c d) (hne : d ≠ e) : r.BeforePrompt n (Ctl.promptDrive n c e) d := by
  have at' := Ctl.promptDrive_atDrive (n := n) (c := c) (d := e)
  refine ⟨(at'.drives d hne).trans h.drive, fun y hy => (at'.pool hy).trans (h.pool y hy), fun y => ?_,
    at'.fillSeq.trans h.fillSeq, by rw [Ctl.job_of_jobs at'.jobs]; exact h.quiet⟩
  obtain e | e := at'.job_or_none y
  · rw [e]; exact h.job y
  · exact .inr e

/-- A state whose drives are the same, and whose slabs have the jobs they had or none. -/
theorem Ctl.AfterPrompt.congr (h : r.AfterPrompt n c d) (hd : t.drive d = c.drive d) (hq : (t.job n).allowsWork = false)
    (hx : ∀ y, (t.slab y).job = (c.slab y).job ∨ (t.slab y).job = none)
    (hp : ∀ y : SlabNo, y.val < 508 → (t.slab y).job = (c.slab y).job) : r.AfterPrompt n t d := by
  refine ⟨fun k hk => h.context k (hd ▸ hk), fun g hg hf => ?_, fun g hg hf hj hlt => ?_, fun g => ?_, fun k => ?_, hq⟩
  · obtain e | e := hx g.slab
    · rw [e]; exact h.staged g (hd ▸ hg) hf
    · rw [e]; simp
  · rw [hd, hp g.slab (hlt g.slab (by simp))]; exact h.entry g hg hf hj hlt
  · rw [hd]; exact h.next g
  · rw [hd]; exact h.verify k

theorem Ctl.AfterPrompt.elsewhere (h : r.AfterPrompt n c d) (hne : d ≠ e) : r.AfterPrompt n (Ctl.promptDrive n c e) d := by
  have at' := Ctl.promptDrive_atDrive (n := n) (c := c) (d := e)
  exact h.congr (at'.drives d hne) (by rw [Ctl.job_of_jobs at'.jobs]; exact h.quiet) at'.job_or_none
    fun y hy => by rw [at'.pool hy]

/-- PROMPT at the port itself. -/
theorem Ctl.BeforePrompt.prompt (h : r.BeforePrompt n c d) : r.AfterPrompt n (Ctl.promptDrive n c d) d := by
  have at' := Ctl.promptDrive_atDrive (n := n) (c := c) (d := d)
  have quiet : ((Ctl.promptDrive n c d).job n).allowsWork = false := by rw [Ctl.job_of_jobs at'.jobs]; exact h.quiet
  rw [Ctl.promptDrive_eq] at *
  generalize ht : Ctl.putBackVerify n (Ctl.unstage n c d) d = t at *
  have verified := Ctl.putBackVerify_drive (n := n) (c := Ctl.unstage n c d) (d := d)
  rw [ht] at verified
  have unstaged := Ctl.unstage_drive (n := n) (c := c) (d := d)
  generalize Ctl.unstage n c d = u at *
  rw [h.drive] at unstaged
  have kept : (u.drive d).context = (r.drive d).context ∧ (u.drive d).verifyQueue = (r.drive d).verifyQueue
      ∧ (u.drive d).link = (r.drive d).link := by
    obtain ⟨g, -, -, -, e⟩ | ⟨-, e⟩ := unstaged <;> rw [e] <;> exact ⟨rfl, rfl, rfl⟩
  have kept' : (t.drive d).staged = (u.drive d).staged ∧ (t.drive d).writeQueue = (u.drive d).writeQueue
      ∧ (t.drive d).link = (u.drive d).link := by
    obtain ⟨k, b, -, -, e⟩ | ⟨-, e⟩ := verified <;> rw [e] <;> exact ⟨rfl, rfl, rfl⟩
  refine ⟨fun k hk => ?_, fun g hg hf => ?_, fun g hg hf hj hlt => ?_, fun g hg hf hl => ?_, fun k hk hj => ?_, quiet⟩
  · obtain ⟨_, b, -, -, e⟩ | ⟨away, e⟩ := verified
    · rw [e] at hk; cases hk
    · exact away k (e ▸ hk)
  · rw [kept'.1] at hg
    obtain ⟨_, -, -, -, e⟩ | ⟨away, e⟩ := unstaged
    · rw [e] at hg; cases hg
    · obtain same | same := at'.job_or_none g.slab
      · rw [same]; exact away g (e ▸ hg) hf
      · rw [same]; simp
  · have slab (y : SlabNo) (hy : y ∈ g.slab :: (r.drive d).writeQueue) : c.slab y = r.slab y := h.pool y (hlt y hy)
    refine ⟨by rw [at'.pool (hlt g.slab (by simp)), slab g.slab (by simp), hj], ?_⟩
    obtain ⟨g', hg', -, -, e⟩ | ⟨away, -⟩ := unstaged
    · obtain rfl : g' = g := Option.some.inj (hg'.symm.trans hg)
      obtain ⟨pre, post, hq, hx, hpre, hpost⟩ := r.insertByAge_place g'.slab (r.drive d).writeQueue
      have queue : (t.drive d).writeQueue = pre ++ g'.slab :: post := by
        rw [kept'.2.1, e, ← hx]
        exact Ctl.insertByAge_congr fun y hy => Ctl.age_congr h.fillSeq (slab y hy)
      exact ⟨pre, post, hq, hpre, hpost, by rw [queue]; simp, by rw [queue]⟩
    · exact (away g hg hf (by rw [slab g.slab (by simp), hj])).elim
  · refine ⟨?_, ?_⟩
    · rw [kept'.1]
      obtain ⟨g', hg', hf', -, -⟩ | ⟨-, e⟩ := unstaged
      · obtain rfl : g' = g := Option.some.inj (hg'.symm.trans hg)
        rw [hf] at hf'; cases hf'
      · rw [e, hg]
    · rw [kept'.2.2, kept.2.2]
      exact Link.isIdle_eq_false_of_flight (Option.isSome_iff_ne_none.2 hl)
  · obtain ⟨k', b, hk', -, e⟩ | ⟨away, -⟩ := verified
    · obtain rfl : k' = k := Option.some.inj (hk'.symm.trans (kept.1.trans hk))
      exact ⟨(r.drive d).verifyQueue, by rw [e, kept.2.1], .refl _⟩
    · exact (away k (kept.1.trans hk) hj).elim

/-- What the ports take afterwards is no work of job n (R146). -/
theorem Ctl.AfterPrompt.portStep (h : r.AfterPrompt n c d) (hs : c.PortStep e t) : r.AfterPrompt n t d := by
  have work := hs.workOnly
  obtain ⟨jobs, -⟩ := work.same
  have quiet : (t.job n).allowsWork = false := by rw [Ctl.job_of_jobs jobs]; exact h.quiet
  have slab (y : SlabNo) : (t.slab y).job = (c.slab y).job ∨ (t.slab y).job = none := by
    obtain kept | ⟨-, -, _, _, e⟩ := hs.slab y
    · exact .inl kept.fields.1
    · exact .inr (by rw [e]; rfl)
  have pool (y : SlabNo) (hy : y.val < 508) : (t.slab y).job = (c.slab y).job := by
    obtain kept | ⟨rfl, -⟩ := hs.slab y
    · exact kept.fields.1
    · exact absurd hy (Nat.not_lt.2 (verifySlab_ge e))
  by_cases hne : d = e
  · subst hne
    have eff := hs.effect
    have idle_of_job {m : CardNo} (ha : (c.job m).allowsWork = true) : m ≠ n := by
      rintro rfl
      rw [h.quiet] at ha
      cases ha
    have ineligible {y : SlabNo} (hy : (c.slab y).job = some n) : c.eligible y = false := by
      simp [Ctl.eligible, hy, h.quiet]
    refine ⟨fun k hk => ?_, fun g hg hf => ?_, fun g hg hf hj hlt => ?_, fun g hg hf hl => ?_, fun k hk hj => ?_, quiet⟩
    · obtain ⟨k0, hk0, e⟩ | ⟨-, ha⟩ := eff.context_file hk
      · rw [e]; exact h.context k0 hk0
      · exact idle_of_job ha
    · obtain same | none' := slab g.slab
      · rw [same]
        obtain old | ⟨w, -, -, -, hf'⟩ | ⟨-, he⟩ := eff.staged g hg
        · exact h.staged g old hf
        · rw [hf] at hf'; cases hf'
        · intro hj
          rw [ineligible hj] at he
          cases he
      · rw [none']; simp
    · obtain ⟨hj', pre, post, hq, hpre, hpost, hmem, hsub⟩ := h.entry g hg hf hj hlt
      exact ⟨(pool _ (hlt _ (by simp))).trans hj', pre, post, hq, hpre, hpost, eff.entry_stays hmem (ineligible hj'),
        eff.writeQueue_sublist.trans hsub⟩
    · obtain ⟨hs', hl'⟩ := h.next g hg hf hl
      obtain ⟨link, -, stage⟩ := eff.busy hl'
      exact ⟨stage g hs', by rw [link]; exact hl'⟩
    · obtain ⟨rest, hq, hsub⟩ := h.verify k hk hj
      obtain ⟨e, -⟩ | ⟨v, -, -, ha, e, -⟩ := eff.verifies
      · exact ⟨rest, e.trans hq, hsub⟩
      · have hne : k.file ≠ v := fun e => idle_of_job ha (e ▸ hj)
        refine ⟨rest.erase v, ?_, List.erase_sublist.trans hsub⟩
        rw [e, hq, List.erase_cons_tail (by simpa using hne)]
  · exact h.congr (work.2 d hne) quiet slab pool

theorem Ctl.AfterPrompt.pumpAll (h : r.AfterPrompt n c d) : r.AfterPrompt n c.pumpAll d := by
  have pump {c : Ctl} (h : r.AfterPrompt n c d) (e : DriveNo) : r.AfterPrompt n (c.pump e) d :=
    Ctl.pump_induction (P := fun t => r.AfterPrompt n t d) h fun _ _ ha hs => ha.portStep hs
  simp only [Ctl.pumpAll, eachDrive]
  exact pump (pump (pump (pump h _) _) _) _

/-! ### The request -/

theorem Ctl.finishDrained_congr (hd : t.drives = c.drives) (hs : t.slabs = c.slabs) :
    t.finishDrained n = c.finishDrained n := by
  simp only [Ctl.finishDrained, Ctl.drive_of_drives hd, Ctl.slab_of_slabs hs, Ctl.sourceCount_of_slabs hs]

theorem Ctl.promptDrained_congr (hd : t.drives = c.drives) (hs : t.slabs = c.slabs)
    (hr : (t.card n).reader = (c.card n).reader) (hf : (t.job n).firstFile = (c.job n).firstFile) :
    t.promptDrained n = c.promptDrained n := by
  have files : t.isFileOf n = c.isFileOf n := funext fun r => by simp only [Ctl.isFileOf, hf]
  simp only [Ctl.promptDrained, Ctl.txnOf, Ctl.driveBusyFor, Ctl.writingOf, Ctl.verifySlabOf, Ctl.drive_of_drives hd,
    Ctl.slab_of_slabs hs, hr, files]

/-- The drain of a suspend, by its mode. -/
def Ctl.drainedBy (c : Ctl) (mode : SuspendMode) (n : CardNo) : Bool :=
  if mode = .finish then c.finishDrained n else c.promptDrained n

/-- What a suspending job settles to: SUSPENDED when its drain is done; ports, files and slabs stay. -/
theorem Ctl.settle_suspends {mode : SuspendMode} (hs : (c.job n).state = .suspending) (hm : (c.job n).suspend = mode) :
    (c.settle n).job n = { c.job n with state := if (c.settle n).drainedBy mode n then .suspended else .suspending }
      ∧ (c.settle n).files = c.files ∧ (c.settle n).drives = c.drives ∧ (c.settle n).slabs = c.slabs
      ∧ c.OtherJobsSame (c.settle n) n ∧ c.OtherPortsSame (c.settle n) n := by
  have drains : (c.dropStaleWait n).suspendDrained n = (c.dropStaleWait n).drainedBy mode n := by
    rw [Ctl.suspendDrained, Ctl.dropStaleWait_job, hm]
    rfl
  have dropped : c.OtherJobsSame (c.dropStaleWait n) n ∧ c.OtherPortsSame (c.dropStaleWait n) n :=
    ⟨.of_eq (by simp) (by simp) (by simp), .of_eq (by simp) (by simp) (by simp) (by simp)⟩
  rw [Ctl.settle_suspending hs, drains]
  by_cases hd : (c.dropStaleWait n).drainedBy mode n = true
  · have reader := (Ctl.updJob_card (c.dropStaleWait n) n fun j => { j with state := .suspended }).fields.2.2.2.2.2
    have still : ((c.dropStaleWait n).updJob n fun j => { j with state := .suspended }).drainedBy mode n = true := by
      rw [Ctl.drainedBy, Ctl.finishDrained_congr (Ctl.updJob_drives ..) (Ctl.updJob_slabs ..),
        Ctl.promptDrained_congr (Ctl.updJob_drives ..) (Ctl.updJob_slabs ..) reader (by rw [Ctl.updJob_job])]
      exact hd
    rw [if_pos hd, if_pos still, Ctl.updJob_job, Ctl.dropStaleWait_job]
    exact ⟨rfl, by simp, by simp, by simp, dropped.1.trans (Ctl.updJob_otherJobs ..),
      dropped.2.trans (Ctl.updJob_otherPorts ..)⟩
  · rw [if_neg hd, if_neg hd, Ctl.dropStaleWait_job]
    refine ⟨?_, by simp, by simp, by simp, dropped⟩
    rw [← hs]

/-- The job has been moved to SUSPENDING in a mode, and under PROMPT its work in hand is back in its place. -/
def Ctl.suspending (c : Ctl) (n : CardNo) (mode : SuspendMode) : Ctl :=
  if mode = .prompt then
    (eachDrive (Ctl.promptDrive n) (c.updJob n fun j => { j with state := .suspending, suspend := mode })).pumpAll
  else c.updJob n fun j => { j with state := .suspending, suspend := mode }

theorem Ctl.suspendJob_moves {m : SuspendMode}
    (h : ¬((c.job n).state = .suspending ∧ (c.job n).suspend = (c.job n).modeAfter m)) :
    c.suspendJob n m = (c.suspending n ((c.job n).modeAfter m)).settle n := by
  simp only [Ctl.suspendJob, if_neg h]
  rfl

theorem Ctl.eachPrompt_same : (eachDrive (Ctl.promptDrive n) c).jobs = c.jobs ∧ (eachDrive (Ctl.promptDrive n) c).files = c.files := by
  have step (c : Ctl) (d : DriveNo) := (Ctl.promptDrive_atDrive (n := n) (c := c) (d := d)).jobs
  simp [eachDrive, step]

theorem Ctl.suspending_job (mode : SuspendMode) :
    (c.suspending n mode).job n = { c.job n with state := .suspending, suspend := mode }
      ∧ (c.suspending n mode).files = c.files := by
  have moved := c.updJob_job n fun j => { j with state := .suspending, suspend := mode }
  have files := c.updJob_files n fun j => { j with state := .suspending, suspend := mode }
  unfold Ctl.suspending
  split
  · obtain ⟨jobs', files', -⟩ := Ctl.pumpAll_same
      (eachDrive (Ctl.promptDrive n) (c.updJob n fun j => { j with state := .suspending, suspend := mode }))
    obtain ⟨jobs, files''⟩ := Ctl.eachPrompt_same (n := n)
      (c := c.updJob n fun j => { j with state := .suspending, suspend := mode })
    exact ⟨by rw [Ctl.job_of_jobs (jobs'.trans jobs), moved], (files'.trans files'').trans files⟩
  · exact ⟨moved, files⟩

/-- PROMPT at every port (R20, R146). -/
theorem Ctl.suspending_prompt (d : DriveNo) : c.AfterPrompt n (c.suspending n .prompt) d := by
  rw [Ctl.suspending, if_pos rfl]
  refine Ctl.AfterPrompt.pumpAll (eachDrive_each (A := fun t d => c.BeforePrompt n t d)
    (B := fun t d => c.AfterPrompt n t d) (fun d => ?_) (fun _ _ h => h.prompt) (fun _ _ _ hne h => h.elsewhere hne)
    (fun _ _ _ hne h => h.elsewhere hne) d)
  have slab := Ctl.slab_of_slabs (c.updJob_slabs n fun j => { j with state := .suspending, suspend := .prompt })
  exact ⟨Ctl.drive_of_drives (Ctl.updJob_drives ..) d, fun y _ => slab y, fun y => .inl (by rw [slab]),
    Ctl.updJob_fillSeq .., by rw [Ctl.updJob_job]; rfl⟩

end

theorem suspendMode_eq_none {b : Byte} : suspendMode? b = none ↔ 1 < b.toNat := by
  unfold suspendMode?; split <;> [skip; split] <;> simp_all; bv_omega

theorem suspendMode_of_le {b : Byte} (h : b.toNat ≤ 1) :
    suspendMode? b = some (if b = 0 then .prompt else .finish) := by
  unfold suspendMode?
  split
  · rfl
  · next h0 =>
    have h1 : b = 1 := by bv_omega
    rw [if_pos h1]

/-- The mode in force, in the words of R19. -/
theorem Job.modeAfter_eq (j : Job) (b : Byte) :
    j.modeAfter (if b = 0 then .prompt else .finish) =
      if b = 0 ∨ (j.state = .suspending ∧ j.suspend = .prompt) then SuspendMode.prompt else .finish := by
  unfold Job.modeAfter
  by_cases h : j.state = .suspending ∧ j.suspend = .prompt
  · rw [if_pos h, if_pos (.inr h)]
  · rw [if_neg h]
    exact if_congr (by simp [h]) rfl rfl

/-- A JOB_SUSPEND is answered by the mode it asks for. -/
theorem exec_jobSuspend {s : State} {f : RxFrame} {n : CardNo} {b : Byte} (ht : s.Takes .jobSuspend f)
    (hp : f.payload = [BitVec.ofNat 8 n.val, b]) (ha : availability .jobSuspend (s.ctl.job n).state = none) :
    exec .jobSuspend s = .next (s.answer f (((suspendMode? b).map fun m =>
      (.ok (s.ctl.suspendJob n m, [BitVec.ofNat 8 n.val, ((s.ctl.job n).modeAfter m).code]) : Answer)).getD
        (.error .badField))) := by
  rw [exec_of_takes (k := .jobSuspend) (act := reqJobSuspend) rfl ht, hp, reqJobSuspend,
    Ctl.forJob_taken _ (cardNo_ofNat n) (takes_of_availability (.inr rfl) ha)]
  cases suspendMode? b <;> rfl

/-- Settles O39: the move, the work in hand put back under PROMPT, then the drain. -/
theorem jobSuspendSuspends : Obligations.JobSuspendSuspends := by
  intro s f n b ht hp ha
  have run := exec_jobSuspend ht hp ha
  refine ⟨fun hb => ?_, fun hb => ?_⟩
  · rw [run, suspendMode_eq_none.2 hb]
    rfl
  rw [suspendMode_of_le hb, Option.map_some, Option.getD_some, Job.modeAfter_eq] at run
  intro j mode fields
  have moded : j.modeAfter (if b = 0 then .prompt else .finish) = mode := Job.modeAfter_eq j b
  refine ⟨fun hs hm => ?_, fun hno => ?_⟩
  · rw [run, Ctl.suspendJob, moded, if_pos ⟨hs, hm⟩]
    rfl
  have moves := Ctl.suspendJob_moves (c := s.ctl) (n := n) (m := if b = 0 then .prompt else .finish) (by rw [moded]; exact hno)
  rw [moded] at moves
  rw [moves] at run
  obtain ⟨job, files⟩ := Ctl.suspending_job (c := s.ctl) (n := n) mode
  obtain ⟨settled, files', drives, slabs, otherJobs, otherPorts⟩ := Ctl.settle_suspends (mode := mode)
    (c := s.ctl.suspending n mode) (n := n) (by rw [job]) (by rw [job])
  rw [job] at settled
  generalize (s.ctl.suspending n mode).settle n = t at *
  refine ⟨_, run, State.answer_doneIn .., ?_⟩
  rw [State.answer_ok_ctl]
  refine ⟨?_, ?_, ?_, ?_, ?_, fun hm => ?_, fun hm d => ?_⟩
  · rw [Ctl.pushEntry_files, files', files]
  · rw [Ctl.pushEntry_job, settled]
    rfl
  · rw [Ctl.pushEntry_job, settled]
  · rw [Ctl.pushEntry_job, settled]
  · rw [Ctl.pushEntry_job, settled]
  · have moved : s.ctl.suspending n mode = s.ctl.updJob n fun j => { j with state := .suspending, suspend := mode } :=
      if_neg (by rw [hm]; decide)
    rw [moved] at otherJobs otherPorts slabs
    exact ⟨((s.ctl.updJob_otherJobs n _).trans otherJobs).trans (Ctl.pushEntry_otherJobs ..),
      ((s.ctl.updJob_otherPorts n _).trans otherPorts).trans (Ctl.pushEntry_otherPorts ..),
      slabs.trans (Ctl.updJob_slabs ..)⟩
  · have after := Ctl.suspending_prompt (c := s.ctl) (n := n) d
    rw [← hm] at after
    simp only [Ctl.pushEntry_drive, Ctl.pushEntry_slab, Ctl.drive_of_drives drives, Ctl.slab_of_slabs slabs]
    exact ⟨after.context, after.staged, fun g hg hf hj hlt => (after.entry g hg hf hj hlt).2,
      fun g hg hf hl => (after.next g hg hf hl).1, after.verify⟩

end Sys2Proof.Machine

namespace Sys2Proof.Machine

/-! ## Slabs under consequences -/

section
variable {N M : CardNo → Prop} {c t : Ctl} {n : CardNo} {d : DriveNo}

/-- A slab in new use: it owes no drive a write, and is of no job or of a RUNNING one. -/
def Ctl.Renewed (c : Ctl) (s : Slab) : Prop :=
  s.pendingWrites = noDrives ∧ (s.job = none ∨ ∃ m, s.job = some m ∧ (c.job m).state = .running)

theorem Ctl.GivenBack.renewed {s : Slab} (h : c.GivenBack s) : c.Renewed s := by
  obtain rfl | ⟨⟨-, hp, -⟩, ⟨-, hj⟩ | ⟨-, m, hm, hr⟩⟩ := h
  · exact ⟨rfl, .inl rfl⟩
  · exact ⟨hp, .inl hj⟩
  · exact ⟨hp, .inr ⟨m, hm, hr⟩⟩

/-- A slab in the same use: of the same job, purpose and state, and owing no drive a write that it did not owe. -/
structure Slab.SameUse (s s' : Slab) : Prop where
  job : s'.job = s.job
  purpose : s'.purpose = s.purpose
  state : s'.state = s.state
  file : s'.file = s.file
  pending : ∀ d : DriveNo, s'.pendingWrites[d] = true → s.pendingWrites[d] = true

theorem Slab.SameUse.refl (s : Slab) : s.SameUse s := ⟨rfl, rfl, rfl, rfl, fun _ h => h⟩

theorem Slab.KeptBut.sameUse {s s' : Slab} (h : s.KeptBut s') : s.SameUse s' := by
  obtain ⟨job, state, purpose, file, -, -, pending⟩ := h.fields
  exact ⟨job, purpose, state, file, fun d h => by rwa [pending] at h⟩

theorem noDrives_get (d : DriveNo) : noDrives[d] = false := by
  simp [noDrives]

/-- A drive that leaves a set of drives leaves the others in it. -/
theorem getElem_set_false {v : Vector Bool 4} {d e : DriveNo} (h : (v.set d false)[e] = true) : v[e] = true := by
  rw [Fin.getElem_fin, Vector.getElem_set] at h
  split at h
  · cases h
  · exact h

theorem getElem_set_ne {v : Vector Bool 4} {d e : DriveNo} (h : e ≠ d) : (v.set d false)[e] = v[e] := by
  rw [Fin.getElem_fin, Vector.getElem_set, if_neg fun eq => h (Fin.ext eq.symm)]
  rfl

theorem Ctl.Consequence.slab (h : c.Consequence N M t) (y : SlabNo) :
    (c.slab y).SameUse (t.slab y) ∨ c.Renewed (t.slab y) := by
  have changed (x : SlabNo) (g : Slab → Slab) (hg : ∀ s : Slab, s.SameUse (g s)) :
      (c.slab y).SameUse ((c.modSlab x g).slab y) := by
    rw [Ctl.modSlab_slab_ite]
    split
    · next e => rw [e]; exact hg _
    · exact .refl _
  cases h with
  | port h =>
    obtain kept | ⟨-, -, r, sp, e⟩ := h.slab y
    · exact .inl kept.sameUse
    · rw [e]
      exact .inr ⟨rfl, .inl rfl⟩
  | rest | counts | files | withdrawn => exact .inl (.refl _)
  | @release n x xs hn hj hx hne hs =>
    by_cases hy : y = x
    · subst hy
      exact .inr hs.renewed
    · refine .inl ?_
      show (c.slab y).SameUse xs[y]
      rw [hne y hy]
      exact .refl _
  | unpend d x hn hx => exact .inl (changed x _ fun s => ⟨rfl, rfl, rfl, rfl, fun _ => getElem_set_false⟩)
  | digested x => exact .inl (changed x _ fun s => ⟨rfl, rfl, rfl, rfl, fun _ h => h⟩)
  | unverify d =>
    rw [Ctl.modSlab_slab_ite]
    split
    · exact .inr ⟨rfl, .inl rfl⟩
    · exact .inl (.refl _)
  | unwritten d x h => exact .inl (changed x _ fun s => ⟨rfl, rfl, rfl, rfl, fun _ h => h⟩)

/-- A slab that owes drive d nothing comes to owe it nothing. -/
theorem Ctl.Consequence.owes_not (h : c.Consequence N M t) {x : SlabNo} (hx : (c.slab x).pendingWrites[d] = false) :
    (t.slab x).pendingWrites[d] = false := by
  obtain same | ⟨e, -⟩ := h.slab x
  · rw [Bool.eq_false_iff] at hx ⊢
    exact fun e => hx (same.pending d e)
  · rw [e]; exact noDrives_get d

theorem Ctl.Leads.owes_not (h : Ctl.Leads N M c t) {x : SlabNo} (hx : (c.slab x).pendingWrites[d] = false) :
    (t.slab x).pendingWrites[d] = false :=
  h.keeps (P := fun a => (a.slab x).pendingWrites[d] = false) hx fun _ _ ha hs => hs.owes_not ha

/-- A slab that is not job n's does not become its while the job does not run. -/
theorem Ctl.Consequence.job_ne (h : c.Consequence N M t) (hr : (c.job n).state ≠ .running) {x : SlabNo}
    (hx : (c.slab x).job ≠ some n) : (t.slab x).job ≠ some n := by
  obtain same | ⟨-, e | ⟨m, e, run⟩⟩ := h.slab x
  · rwa [same.job]
  · rw [e]; simp
  · rw [e]
    rintro ⟨⟩
    exact hr run

/-- A slab that is no source slab of job n does not become one while the job does not run. -/
theorem Ctl.Consequence.notSource (h : c.Consequence N M t) (hr : (c.job n).state ≠ .running) {x : SlabNo}
    (hx : (c.slab x).isSourceOf n = false) : (t.slab x).isSourceOf n = false := by
  obtain same | ⟨-, e | ⟨m, e, run⟩⟩ := h.slab x
  · simpa [Slab.isSourceOf, same.job, same.purpose, same.state] using hx
  · simp [Slab.isSourceOf, e]
  · have : m ≠ n := by rintro rfl; exact hr run
    simp [Slab.isSourceOf, e, this]

theorem Ctl.Consequence.state (h : c.Consequence N M t) (m : CardNo) : (t.job m).state = (c.job m).state :=
  (Job.core_fields (h.jobsKept.core m)).1

/-! ## A port that has parted with a job's work -/

/-- Slab s is held to its job by drive d: d writes it, or (where that counts) s owes d a write. -/
def Slab.HeldFor (s : Slab) (d : DriveNo) (owing : Bool) : Prop :=
  s.inFlight[d] = true ∨ (owing = true ∧ s.pendingWrites[d] = true)

/-- Port d holds no work of job n, where Own names the slabs that were the job's: but for a WRITE in flight, whose slab stays
with the job, or is of none. The job's writing does not go on there (R142). -/
structure Ctl.Parted (Own : SlabNo → Prop) (n : CardNo) (d : DriveNo) (owing : Bool) (c : Ctl) : Prop where
  queue : ∀ x ∈ (c.drive d).writeQueue, ¬Own x
  staged : ∀ g, (c.drive d).staged = some g → ¬Own g.slab
  writing : ∀ w, (c.drive d).writing = some w → Own w.slab → (c.slab w.slab).job = none
    ∨ (c.slab w.slab).job = some n ∧ (c.drive d).link.carries .write = true ∧ (c.slab w.slab).HeldFor d owing
  verify : ∀ r ∈ (c.drive d).verifyQueue, r.job ≠ n
  context : ∀ k, (c.drive d).context = some k → k.file.job ≠ n
  dead : (c.job n).state = .stopping ∨ (c.job n).isLive d = false

variable {Own : SlabNo → Prop} {owing : Bool}

theorem Ctl.Parted.not_writeLive (h : c.Parted Own n d owing) {w : Writing} (hw : (c.drive d).writing = some w)
    (ho : Own w.slab) : c.writeLive d w.slab = false := by
  unfold Ctl.writeLive
  obtain e | ⟨e, -⟩ := h.writing w hw ho
  · simp [e]
  · rw [e]
    split
    · next m r hm hr =>
      cases hm
      obtain hs | hl := h.dead
      · simp [hs]
      · simp [hl]
    · rfl

theorem Link.isIdle_of_carries {l : Link} {k : TxnKind} (h : l.carries k = true) : l.isIdle = false := by
  unfold Link.carries Link.flight at h
  unfold Link.isIdle
  cases hc : l.cond <;> simp [hc] at h ⊢

theorem Slab.HeldFor.not_releasable {s : Slab} (h : s.HeldFor d owing) : s.releasable = false := by
  rw [Bool.eq_false_iff]
  intro hr
  simp only [Slab.releasable, Bool.and_eq_true, beq_iff_eq] at hr
  obtain ⟨⟨⟨-, hp⟩, hf⟩, -⟩ := hr
  obtain e | ⟨-, e⟩ := h
  · rw [hf, noDrives_get] at e; cases e
  · rw [hp, noDrives_get] at e; cases e

/-- How a consequence treats a slab that port d writes: the slab loses its job, or keeps it with what holds it. -/
theorem Ctl.Consequence.held (h : c.Consequence (· = n) M t) (hm : owing = true → ¬M n) {x : SlabNo}
    (hj : (c.slab x).job = some n) (hw : ∃ w, (c.drive d).writing = some w ∧ w.slab = x)
    (hl : (c.drive d).link.carries .write = true) (hh : (c.slab x).HeldFor d owing) :
    (t.slab x).job = none ∨ (t.slab x).job = some n ∧ (t.slab x).HeldFor d owing := by
  have changed (y : SlabNo) (g : Slab → Slab) (hg : y = x → (g (c.slab y)).job = (c.slab y).job ∧ (g (c.slab y)).HeldFor d owing) :
      ((c.modSlab y g).slab x).job = some n ∧ ((c.modSlab y g).slab x).HeldFor d owing := by
    rw [Ctl.modSlab_slab_ite]
    split
    · next e => subst e; exact ⟨(hg rfl).1.trans hj, (hg rfl).2⟩
    · exact ⟨hj, hh⟩
  cases h with
  | port h =>
    obtain kept | ⟨-, -, r, sp, e⟩ := h.slab x
    · obtain ⟨job, -, -, -, -, -, pending⟩ := kept.fields
      refine .inr ⟨job.trans hj, ?_⟩
      obtain e | ⟨ho, e⟩ := hh
      · exact .inl (kept.2 d e)
      · exact .inr ⟨ho, by rw [pending]; exact e⟩
    · rw [e]; exact .inl rfl
  | rest | counts | files | withdrawn => exact .inr ⟨hj, hh⟩
  | @release n' y xs hn hj' hx hne hs =>
    by_cases hy : x = y
    · subst hy
      obtain hr | hr := hx
      · rw [hh.not_releasable] at hr; cases hr
      · obtain ⟨w, hw, e⟩ := hw
        rw [hr d w hw e] at hl; cases hl
    · refine .inr ?_
      show (xs[x]).job = some n ∧ (xs[x]).HeldFor d owing
      rw [hne x hy]
      exact ⟨hj, hh⟩
  | @unpend n' d' y hn hx =>
    refine .inr (changed y _ fun e => ⟨rfl, ?_⟩)
    obtain hf | ⟨ho, -⟩ := hh
    · exact .inl (e ▸ hf)
    · subst e
      obtain ⟨-, hj', -⟩ := Slab.isFilledOf_iff.1 hx
      rw [hj] at hj'
      cases hj'
      exact (hm ho hn).elim
  | digested y => exact .inr (changed y _ fun e => ⟨rfl, e ▸ hh⟩)
  | unverify d' =>
    rw [Ctl.modSlab_slab_ite]
    split
    · exact .inl rfl
    · exact .inr ⟨hj, hh⟩
  | unwritten d' y hw' =>
    refine .inr (changed y _ fun e => ⟨rfl, ?_⟩)
    have hne : d ≠ d' := by
      rintro rfl
      obtain ⟨w, hw, -⟩ := hw
      rw [hw'] at hw; cases hw
    obtain hf | ho := hh
    · refine .inl ?_
      show ((c.slab y).inFlight.set d' false)[d] = true
      rw [getElem_set_ne hne, e]
      exact hf
    · exact .inr (e ▸ ho)

/-- A slab of no job stays of none. -/
theorem Ctl.Consequence.job_none (h : c.Consequence N M t) {x : SlabNo} (hx : (c.slab x).job = none) :
    (t.slab x).job = none := by
  have changed (y : SlabNo) (g : Slab → Slab) (hg : ∀ s : Slab, (g s).job = s.job) : ((c.modSlab y g).slab x).job = none := by
    rw [Ctl.modSlab_slab_ite]
    split
    · next e => rw [hg, ← e, hx]
    · exact hx
  cases h with
  | port h =>
    obtain kept | ⟨-, -, r, sp, e⟩ := h.slab x
    · exact kept.fields.1.trans hx
    · rw [e]; rfl
  | rest | counts | files | withdrawn => exact hx
  | @release n' y xs hn hj hr hne hs =>
    show (xs[x]).job = none
    rw [hne x (by rintro rfl; rw [hx] at hj; cases hj), hx]
  | unpend | digested | unwritten => exact changed _ _ fun _ => rfl
  | unverify d =>
    rw [Ctl.modSlab_slab_ite]
    split
    · rfl
    · exact hx

/-- How a consequence treats a drive port: it stays, takes work, or loses some. -/
theorem Ctl.Consequence.drive (h : c.Consequence N M t) (d : DriveNo) :
    t.drive d = c.drive d ∨ c.PortEffect d (t.drive d) ∨ (c.drive d).Withdrawn (t.drive d) := by
  cases h with
  | @port e t h =>
    by_cases hd : d = e
    · subst hd
      exact .inr (.inl h.effect)
    · exact .inl (h.workOnly.2 d hd)
  | rest | counts | files | release | unpend | digested | unverify | unwritten => exact .inl rfl
  | withdrawn e q hq =>
    rw [Ctl.modDrive_drive_ite]
    split
    · next hd => subst hd; exact .inr (.inr hq)
    · exact .inl rfl

theorem Ctl.Consequence.dead (h : c.Consequence N M t)
    (hd : (c.job n).state = .stopping ∨ (c.job n).isLive d = false) :
    (t.job n).state = .stopping ∨ (t.job n).isLive d = false := by
  obtain ⟨state, dests, -⟩ := Job.core_fields (h.jobsKept.core n)
  rw [Job.isLive, state, dests]
  exact hd

/-- The writing entry after a consequence is the one before it, or one that was staged or queued over an IDLE link. -/
theorem Ctl.Parted.consequence (h : c.Parted Own n d owing) (hm : owing = true → ¬M n)
    (hs : c.Consequence (· = n) M t) : t.Parted Own n d owing := by
  have slab {w : Writing} (hw : (c.drive d).writing = some w) (ho : Own w.slab) :
      (t.slab w.slab).job = none ∨ (t.slab w.slab).job = some n ∧ (t.slab w.slab).HeldFor d owing := by
    obtain e | ⟨hj, hl, hh⟩ := h.writing w hw ho
    · exact .inl (hs.job_none e)
    · exact hs.held hm hj ⟨w, hw, rfl⟩ hl hh
  have writing {w : Writing} (hw : (c.drive d).writing = some w) (ho : Own w.slab)
      (hl : (c.drive d).link.carries .write = true → (t.drive d).link = (c.drive d).link) :
      (t.slab w.slab).job = none
        ∨ (t.slab w.slab).job = some n ∧ (t.drive d).link.carries .write = true ∧ (t.slab w.slab).HeldFor d owing := by
    obtain e | ⟨-, hl', -⟩ := h.writing w hw ho
    · exact .inl (hs.job_none e)
    · exact (slab hw ho).imp_right fun ⟨hj, hh⟩ => ⟨hj, by rw [hl hl']; exact hl', hh⟩
  obtain e | eff | gone := hs.drive d
  · exact ⟨e ▸ h.queue, e ▸ h.staged, fun w hw ho => writing (e ▸ hw) ho fun _ => by rw [e], e ▸ h.verify,
      e ▸ h.context, hs.dead h.dead⟩
  · refine ⟨fun x hx => h.queue x (eff.writeQueue_sublist.subset hx), fun g hg ho => ?_, fun w hw ho => ?_,
      fun r hr => h.verify r (eff.verifyQueue_sublist.subset hr), fun k hk => ?_, hs.dead h.dead⟩
    · obtain old | ⟨w, hw, e, live, -⟩ | ⟨hq, -⟩ := eff.staged g hg
      · exact h.staged g old ho
      · rw [e] at ho
        rw [h.not_writeLive hw ho] at live
        cases live
      · exact h.queue _ hq ho
    · obtain old | ⟨-, ⟨g, hg, e⟩ | ⟨hq, -⟩⟩ := eff.writing w hw
      · exact writing old ho fun hl => (eff.busy (Link.isIdle_of_carries hl)).1
      · exact (h.staged g hg (e ▸ ho)).elim
      · exact (h.queue _ hq ho).elim
    · obtain ⟨k0, hk0, e⟩ | ⟨hq, -⟩ := eff.context_file hk
      · rw [e]; exact h.context k0 hk0
      · exact h.verify _ hq
  · have link : (t.drive d).link = (c.drive d).link := by rw [gone.rest]
    refine ⟨fun x hx => h.queue x (gone.writeQueue.subset hx), fun g hg ho => ?_, fun w hw ho => ?_,
      fun r hr => h.verify r (gone.verifyQueue.subset hr), fun k hk => ?_, hs.dead h.dead⟩
    · obtain e | e := gone.staged
      · exact h.staged g (e ▸ hg) ho
      · rw [e] at hg; cases hg
    · obtain e | ⟨e, -⟩ := gone.writing
      · exact writing (e ▸ hw) ho fun _ => link
      · rw [e] at hw; cases hw
    · obtain e | e := gone.context
      · exact h.context k (e ▸ hk)
      · rw [e] at hk; cases hk

theorem Ctl.Parted.leads (h : c.Parted Own n d owing) (hm : owing = true → ¬M n) (hs : Ctl.Leads (· = n) M c t) :
    t.Parted Own n d owing := hs.keeps h fun _ _ ha hs => ha.consequence hm hs

end

end Sys2Proof.Machine

namespace Sys2Proof.Machine

/-! ## What a withdrawal leaves at the port (R152) -/

section
variable {c t : Ctl} {d : DriveNo} {n : CardNo}

theorem Ctl.abandonOf_drive (ofFile : FileRef → Bool) :
    (∃ k b, (c.abandonOf d ofFile).drive d = { c.drive d with context := k, readAbandoned := b }
        ∧ ∀ k', k = some k' → ofFile k'.file = false)
      ∧ ∀ y, (c.abandonOf d ofFile).slab y = c.slab y
        ∨ y = verifySlab d ∧ (c.abandonOf d ofFile).slab y = Slab.freeValues := by
  unfold Ctl.abandonOf
  split
  · next h =>
    obtain ⟨k, hk, -⟩ : ∃ k, (c.drive d).context = some k ∧ ofFile k.file = true := by
      simpa [Option.any_eq_true] using h
    obtain ⟨xs, u, b, e, hx⟩ := Ctl.abandonContext_eq (c := c) (d := d) (by simp [hk])
    rw [e]
    exact ⟨⟨none, b, (Ctl.withoutContext_drive ..).trans (if_pos rfl), fun _ h => by cases h⟩, hx⟩
  · next h =>
    refine ⟨⟨(c.drive d).context, (c.drive d).readAbandoned, rfl, fun k hk => ?_⟩, fun y => .inl rfl⟩
    simpa [hk] using h

/-- The writing entry left, or it is kept: not of such a slab, or with a WRITE in flight. -/
theorem Ctl.leaveWritingOf_drive (gone : SlabNo → Bool) :
    let q := (c.leaveWritingOf d gone false).drive d
    q = c.drive d ∧ (c.leaveWritingOf d gone false).slabs = c.slabs
          ∧ (∀ w, (c.drive d).writing = some w → gone w.slab = true → (c.drive d).link.carries .write = true)
      ∨ q = { c.drive d with writing := none, staged := (c.drive d).staged.filter (·.first) } := by
  simp only [Ctl.leaveWritingOf]
  split
  · next h =>
    obtain ⟨w, hw, -⟩ : ∃ w, (c.drive d).writing = some w ∧ gone w.slab = true := by
      have := (Bool.and_eq_true _ _ ▸ h).1
      simpa [Option.any_eq_true] using this
    refine .inr ?_
    simp [Ctl.closeWriting, Ctl.leaveWriting, hw, Ctl.leaveInFlight]
  · next h =>
    refine .inl ⟨rfl, rfl, fun w hw hg => ?_⟩
    simpa [hw, hg] using h

/-- What a withdrawal that leaves the pending-write sets alone leaves at its port. -/
structure DrivePort.WithdrawnOf (p q : DrivePort) (gone : SlabNo → Bool) (ofFile : FileRef → Bool) : Prop where
  writeQueue : q.writeQueue = p.writeQueue.filter fun x => !gone x
  verifyQueue : q.verifyQueue = p.verifyQueue.filter fun r => !ofFile r
  staged : ∀ g, q.staged = some g → gone g.slab = false
  context : ∀ k, q.context = some k → ofFile k.file = false
  writing : ∀ w, q.writing = some w → p.writing = some w ∧ (gone w.slab = true → p.link.carries .write = true)
  link : q.link = p.link

theorem Ctl.withdraw_drive (ofSlab : Slab → Bool) (ofFile : FileRef → Bool) :
    (c.drive d).WithdrawnOf ((c.withdraw d ofSlab ofFile false).drive d) (fun x => ofSlab (c.slab x)) ofFile
      ∧ (((c.withdraw d ofSlab ofFile false).drive d).writing ≠ none →
          ∀ y, (c.withdraw d ofSlab ofFile false).slab y = c.slab y
            ∨ y = verifySlab d ∧ (c.withdraw d ofSlab ofFile false).slab y = Slab.freeValues) := by
  rw [Ctl.withdraw_eq]
  generalize hg : (fun x => ofSlab (c.slab x)) = gone
  have filtered : (c.modDrive d fun p => p.filtered gone ofFile).drive d = (c.drive d).filtered gone ofFile :=
    Ctl.modDrive_drive ..
  obtain ⟨⟨k, b, hd, hk⟩, slabs⟩ := Ctl.abandonOf_drive (c := c.modDrive d fun p => p.filtered gone ofFile) (d := d) ofFile
  rw [filtered] at hd
  have left := Ctl.leaveWritingOf_drive (d := d) (c := (c.modDrive d fun p => p.filtered gone ofFile).abandonOf d ofFile) gone
  generalize (c.modDrive d fun p => p.filtered gone ofFile).abandonOf d ofFile = u at *
  have notGone {g : Staged} {o : Option Staged} (h : o.filter (fun g => !gone g.slab) = some g) : gone g.slab = false := by
    simpa using (Option.filter_eq_some_iff.1 h).2
  obtain ⟨e, same, busy⟩ | e := left
  · rw [e, hd]
    rw [hd] at busy
    exact ⟨⟨rfl, rfl, fun g h => notGone h, hk, fun w hw => ⟨hw, busy w hw⟩, rfl⟩,
      fun _ y => by rw [Ctl.slab_of_slabs same]; exact slabs y⟩
  · rw [e, hd]
    refine ⟨⟨rfl, rfl, fun g h => notGone (Option.filter_eq_some_iff.1 h).1, hk, fun w hw => (by cases hw), rfl⟩,
      fun h => (h rfl).elim⟩

theorem Ctl.withdrawJob_drive :
    (c.drive d).WithdrawnOf ((c.withdrawJob d n).drive d) (fun x => (c.slab x).job == some n) (fun r => r.job == n)
      ∧ (((c.withdrawJob d n).drive d).writing ≠ none →
          ∀ y, (c.withdrawJob d n).slab y = c.slab y ∨ y = verifySlab d ∧ (c.withdrawJob d n).slab y = Slab.freeValues) :=
  Ctl.withdraw_drive (fun s => s.job == some n) fun r => r.job == n

/-- A port that withdraws job n's work has parted with it. -/
theorem Ctl.withdrawJob_parted {Own : SlabNo → Prop} {owing : Bool} (own : ∀ x, Own x → (c.slab x).job = some n)
    (held : ∀ w, (c.drive d).writing = some w → Own w.slab → (c.slab w.slab).HeldFor d owing)
    (dead : (c.job n).state = .stopping ∨ (c.job n).isLive d = false) :
    (c.withdrawJob d n).Parted Own n d owing := by
  obtain ⟨port, slabs⟩ := Ctl.withdrawJob_drive (c := c) (d := d) (n := n)
  have gone {x : SlabNo} (ho : Own x) : ((c.slab x).job == some n) = true := by rw [own x ho]; exact beq_self_eq_true _
  have jobs := (Ctl.withdrawJob_leads (N := fun _ => True) (M := fun _ => True) (c := c) d n).jobsKept.core n
  obtain ⟨state, dests, -⟩ := Job.core_fields jobs
  refine ⟨fun x hx ho => ?_, fun g hg ho => ?_, fun w hw ho => ?_, fun r hr => ?_, fun k hk => ?_, ?_⟩
  · have hx' := port.writeQueue ▸ hx
    have := (List.mem_filter.1 hx').2
    simp [own x ho] at this
  · have := port.staged g hg
    simp [own _ ho] at this
  · obtain ⟨old, busy⟩ := port.writing w hw
    obtain e | ⟨-, e⟩ := slabs (by rw [hw]; simp) w.slab
    · rw [e, port.link]
      exact .inr ⟨own _ ho, busy (gone ho), held w old ho⟩
    · rw [e]
      exact .inl rfl
  · have hr' := port.verifyQueue ▸ hr
    simpa using (List.mem_filter.1 hr').2
  · simpa using port.context k hk
  · rw [state, Job.isLive, dests]; exact dead

end

end Sys2Proof.Machine

namespace Sys2Proof.Machine

/-! ## A stop: the job's work leaves every drive (R24, R25, R79) -/

section
variable {c t : Ctl} {d e : DriveNo} {n : CardNo}

theorem Ctl.leaveInFlight_slab (x y : SlabNo) :
    (c.leaveInFlight d x).slab y =
      if y = x then { c.slab x with inFlight := (c.slab x).inFlight.set d false } else c.slab y :=
  Ctl.modSlab_slab_ite ..

/-- A pool slab after a withdrawal at port d: at most d has left its writes in flight. -/
theorem Ctl.withdraw_slab (ofSlab : Slab → Bool) (ofFile : FileRef → Bool) {y : SlabNo} (hy : y.val < 508) :
    ∃ v, (c.withdraw d ofSlab ofFile false).slab y = { c.slab y with inFlight := v }
      ∧ ∀ e : DriveNo, e ≠ d → v[e] = (c.slab y).inFlight[e] := by
  rw [Ctl.withdraw_eq]
  generalize hu : (c.modDrive d fun p => p.filtered (fun x => ofSlab (c.slab x)) ofFile) = u
  have slab : u.slab y = c.slab y := by rw [← hu]; rfl
  rw [← slab]
  obtain ⟨-, slabs⟩ := Ctl.abandonOf_drive (c := u) (d := d) ofFile
  have kept := (slabs y).resolve_right fun ⟨e, _⟩ => absurd (e ▸ verifySlab_ge d) (Nat.not_le.2 hy)
  rw [← kept]
  generalize u.abandonOf d ofFile = a
  have same : ∃ v, a.slab y = { a.slab y with inFlight := v } ∧ ∀ e : DriveNo, e ≠ d → v[e] = (a.slab y).inFlight[e] :=
    ⟨_, rfl, fun _ _ => rfl⟩
  unfold Ctl.leaveWritingOf Ctl.closeWriting Ctl.leaveWriting
  split
  · simp only [Bool.false_eq_true, if_false]
    split
    · exact same
    · next w hw =>
      rw [Ctl.leaveInFlight_slab]
      split
      · next hy => exact ⟨_, by rw [hy]; rfl, fun e he => by rw [hy]; exact getElem_set_ne he⟩
      · exact same
  · exact same

/-- What was job n's at port d, of the pool: its slabs that owed d a write or had one in flight there. -/
def Ctl.OwnAt (r : Ctl) (n : CardNo) (d : DriveNo) (x : SlabNo) : Prop :=
  x.val < 508 ∧ (r.slab x).job = some n ∧ (r.slab x).HeldFor d true

/-- Port d holds no entry, waiting or staged, of a slab of job n, which is STOPPING. -/
structure Ctl.Shed (n : CardNo) (d : DriveNo) (c : Ctl) : Prop where
  queue : ∀ x ∈ (c.drive d).writeQueue, (c.slab x).job ≠ some n
  staged : ∀ g, (c.drive d).staged = some g → (c.slab g.slab).job ≠ some n
  stopping : (c.job n).state = .stopping

theorem Ctl.Shed.consequence {N M : CardNo → Prop} (h : c.Shed n d) (hs : c.Consequence N M t) : t.Shed n d := by
  have still {x : SlabNo} (hx : (c.slab x).job ≠ some n) : (t.slab x).job ≠ some n :=
    hs.job_ne (by rw [h.stopping]; decide) hx
  have stopping : (t.job n).state = .stopping := (hs.state n).trans h.stopping
  obtain e | eff | gone := hs.drive d
  · exact ⟨fun x hx => still (h.queue x (e ▸ hx)), fun g hg => still (h.staged g (e ▸ hg)), stopping⟩
  · refine ⟨fun x hx => still (h.queue x (eff.writeQueue_sublist.subset hx)), fun g hg => still ?_, stopping⟩
    obtain old | ⟨w, -, e, live, -⟩ | ⟨hq, -⟩ := eff.staged g hg
    · exact h.staged g old
    · intro hj
      rw [e] at hj
      unfold Ctl.writeLive at live
      rw [hj] at live
      split at live
      · next m r hm hr =>
        cases hm
        simp [h.stopping] at live
      · cases live
    · exact h.queue _ hq
  · refine ⟨fun x hx => still (h.queue x (gone.writeQueue.subset hx)), fun g hg => still ?_, stopping⟩
    obtain e | e := gone.staged
    · exact h.staged g (e ▸ hg)
    · rw [e] at hg; cases hg

theorem Ctl.Shed.leads {N M : CardNo → Prop} (h : c.Shed n d) (hs : Ctl.Leads N M c t) : t.Shed n d :=
  hs.keeps h fun _ _ ha hs => ha.consequence hs

theorem Ctl.withdrawJob_shed (hs : (c.job n).state = .stopping) : (c.withdrawJob d n).Shed n d := by
  have lead := Ctl.withdrawJob_leads (N := fun _ => True) (M := fun _ => True) (c := c) d n
  obtain ⟨port, -⟩ := Ctl.withdrawJob_drive (c := c) (d := d) (n := n)
  have still {x : SlabNo} (hx : (c.slab x).job ≠ some n) : ((c.withdrawJob d n).slab x).job ≠ some n :=
    (lead.keeps (P := fun a => (a.slab x).job ≠ some n ∧ (a.job n).state = .stopping) ⟨hx, hs⟩
      fun _ _ ha hs => ⟨hs.job_ne (by rw [ha.2]; decide) ha.1, (hs.state n).trans ha.2⟩).1
  refine ⟨fun x hx => still fun hj => ?_, fun g hg => still fun hj => ?_,
    (Job.core_fields (lead.jobsKept.core n)).1.trans hs⟩
  · have := (List.mem_filter.1 (port.writeQueue ▸ hx)).2
    simp [hj] at this
  · have := port.staged g hg
    simp [hj] at this

/-- Before port d withdraws: what was job n's there still is, and is held. -/
structure Ctl.StillOwns (r : Ctl) (n : CardNo) (c : Ctl) (d : DriveNo) : Prop where
  owns : ∀ x, r.OwnAt n d x → (c.slab x).job = some n ∧ (c.slab x).HeldFor d true
  stopping : (c.job n).state = .stopping

theorem Ctl.StillOwns.elsewhere {r : Ctl} (h : r.StillOwns n c d) (hne : d ≠ e) : r.StillOwns n (c.withdrawJob e n) d := by
  have lead := Ctl.withdrawJob_leads (N := fun _ => True) (M := fun _ => True) (c := c) e n
  refine ⟨fun x hx => ?_, (Job.core_fields (lead.jobsKept.core n)).1.trans h.stopping⟩
  obtain ⟨v, kept, same⟩ := Ctl.withdraw_slab (c := c) (d := e) (fun s => s.job == some n) (fun r => r.job == n) hx.1
  obtain ⟨hj, hh⟩ := h.owns x hx
  have slab : (c.withdrawJob e n).slab x = { c.slab x with inFlight := v } := kept
  rw [slab]
  refine ⟨hj, ?_⟩
  obtain hf | ho := hh
  · exact .inl ((same d hne).trans hf)
  · exact .inr ho

/-- The job's work has left every drive. -/
theorem Ctl.withdrawJobs_parted (r : Ctl) (h : ∀ d, r.StillOwns n c d) (d : DriveNo) :
    (eachDrive (fun c d => c.withdrawJob d n) c).Parted (r.OwnAt n d) n d true
      ∧ (eachDrive (fun c d => c.withdrawJob d n) c).Shed n d :=
  eachDrive_each (A := fun t d => r.StillOwns n t d) (B := fun t d => t.Parted (r.OwnAt n d) n d true ∧ t.Shed n d) h
    (fun _ _ ha => ⟨Ctl.withdrawJob_parted (fun x hx => (ha.owns x hx).1) (fun _ _ hw => (ha.owns _ hw).2)
      (.inl ha.stopping), Ctl.withdrawJob_shed ha.stopping⟩)
    (fun _ _ _ hne ha => ha.elsewhere hne)
    (fun _ _ _ _ hb => ⟨hb.1.leads (M := fun _ => False) (fun _ h => h) (Ctl.withdrawJob_leads _ _),
      hb.2.leads (N := fun _ => True) (M := fun _ => True) (Ctl.withdrawJob_leads _ _)⟩) d

/-! ### Entering STOPPING -/

theorem Ctl.withdrawDigest_job (x y : SlabNo) : ((c.withdrawDigest x).slab y).job = (c.slab y).job := by
  unfold Ctl.withdrawDigest
  split
  · rw [Ctl.modSlab_slab_ite]
    split
    · next h => rw [h]; rfl
    · rfl
  · unfold Ctl.markDiscard
    split <;> rfl

theorem Ctl.withdrawDigests_job (l : List SlabNo) (c : Ctl) (y : SlabNo) :
    ((l.foldl Ctl.withdrawDigest c).slab y).job = (c.slab y).job := by
  induction l generalizing c with
  | nil => rfl
  | cons x l ih => exact (ih _).trans (Ctl.withdrawDigest_job x y)

/-- The job as it enters STOPPING. -/
def Job.stopped (j : Job) (reason : EndReason) : Job :=
  { j with state := .stopping, endReason := reason, suspend := .none, faultCause := .none }

/-- The digests and releases that follow the withdrawals of a stop. -/
theorem Ctl.stopped_leads {N M : CardNo → Prop} (hn : N n) (c : Ctl) :
    Ctl.Leads N M c ((((c.slabsWhere fun s => s.isFilledOf n).foldl Ctl.withdrawDigest c).testReleases
      (c.slabsWhere fun s => s.isFilledOf n)).pumpAll) := by
  refine ((foldl_leads (fun c x => Ctl.withdrawDigest_leads x) _ c).trans (Ctl.testReleases_leads hn _ fun x hx => ?_)).trans
    (Ctl.pumpAll_leads _)
  rw [Ctl.withdrawDigests_job]
  exact .inl (Slab.isFilledOf_iff.1 ((c.mem_slabsWhere _ x).1 hx)).2.1

theorem Ctl.enterStopping_leads {N M : CardNo → Prop} (hn : N n) (reason : EndReason) :
    Ctl.Leads N M (c.updJob n fun j => j.stopped reason) (c.enterStopping n reason) :=
  (eachDrive_leads (fun _ d => Ctl.withdrawJob_leads d n) _).trans (Ctl.stopped_leads hn _)

theorem Ctl.enterStopping_parted (reason : EndReason) (d : DriveNo) :
    (c.enterStopping n reason).Parted (c.OwnAt n d) n d true ∧ (c.enterStopping n reason).Shed n d := by
  have start (d : DriveNo) : c.StillOwns n (c.updJob n fun j => j.stopped reason) d :=
    ⟨fun x hx => by rw [Ctl.slab_of_slabs (Ctl.updJob_slabs ..)]; exact hx.2, by rw [Ctl.updJob_job]; rfl⟩
  obtain ⟨parted, shed⟩ := Ctl.withdrawJobs_parted c start d
  exact ⟨parted.leads (M := fun _ => False) (fun _ h => h) (Ctl.stopped_leads (N := (· = n)) (n := n) rfl _),
    shed.leads (Ctl.stopped_leads (N := fun _ => True) (M := fun _ => True) trivial _)⟩

/-! ### The drain (R26) -/

theorem Ctl.retireRun_files (k : Nat) (c : Ctl) {g : FileRec} (hg : g ∈ (c.retireRun k n).files) : g ∈ c.files := by
  induction k generalizing c with
  | zero => exact hg
  | succ k ih =>
    simp only [Ctl.retireRun] at hg
    split at hg
    · exact hg
    · split at hg
      · split at hg
        · have := ih _ hg
          rw [Ctl.retire_files] at this
          exact (List.mem_filter.1 this).1
        · exact hg
      · exact hg

/-- What a drained stop leaves: no slab, no file that is not COMPLETE, and the drives as they were. -/
structure Ctl.StopDrained (M : CardNo → Prop) (c t : Ctl) (n : CardNo) : Prop where
  drives : t.drives = c.drives
  freed : ∃ w, Ctl.Leads (· = n) M c w ∧ t.drives = w.drives ∧ t.slabs = w.slabs
  noSlab : t.sourceCount n = 0
  complete : ∀ g ∈ t.queue n, ∃ o, g.state = .complete o

theorem FileRec.isComplete_iff {f : FileRec} : f.isComplete = true ↔ ∃ o, f.state = .complete o := by
  unfold FileRec.isComplete
  split
  · next o h => exact ⟨fun _ => ⟨o, h⟩, fun _ => rfl⟩
  · next h => exact ⟨fun e => (by cases e), fun ⟨o, e⟩ => (h o e).elim⟩

theorem Ctl.drainedStop_drained {M : CardNo → Prop} (hs : (c.job n).state = .stopping) (ht : c.txnOf n = false) :
    c.StopDrained M (c.drainedStop n) n := by
  have drained := Ctl.drainSlabs_of_txnOf (N := (· = n)) (M := M) (c := c) (n := n) rfl ht
  generalize hu : (c.slabsWhere fun s => s.isSourceOf n).foldl (Ctl.drainSlab n) c = u at drained
  have state : (u.job n).state = .stopping := (Job.core_fields (drained.leads.jobsKept.core n)).1.trans hs
  have noSlab : u.sourceCount n = 0 := by
    refine Ctl.sourceCount_eq_zero.2 fun x => ?_
    by_cases hx : x ∈ c.slabsWhere fun s => s.isSourceOf n
    · obtain ⟨-, e | ⟨m, e, run⟩⟩ := (drained.given x hx).renewed
      · simp [Slab.isSourceOf, e]
      · have : m ≠ n := by
          rintro rfl
          rw [state] at run
          cases run
        simp [Slab.isSourceOf, e, this]
    · rw [drained.others x hx]
      rw [Ctl.mem_slabsWhere] at hx
      simpa using hx
  have retired : (u.abandonFiles n).SameBeyondFiles ((u.abandonFiles n).testRetire n) :=
    Ctl.retireRun_sameBeyondFiles _ _ (Ctl.noWritesOf_of_sourceCount (by
      rw [Ctl.sourceCount_of_slabs (show (u.abandonFiles n).slabs = u.slabs from rfl), noSlab]))
  have run : c.drainedStop n = (u.abandonFiles n).testRetire n := by rw [← hu]; rfl
  rw [run]
  refine ⟨retired.drives.trans drained.drives,
    ⟨_, drained.leads.trans (Ctl.abandonFiles_leads rfl), retired.drives, retired.slabs⟩, ?_, fun g hg => ?_⟩
  · rw [Ctl.sourceCount_of_slabs retired.slabs]
    exact noSlab
  · obtain ⟨mem, job⟩ := List.mem_filter.1 hg
    obtain ⟨f, -, rfl⟩ := List.mem_map.1 (Ctl.retireRun_files _ _ mem)
    refine FileRec.isComplete_iff.1 ?_
    split
    · rfl
    · next h =>
      rw [if_neg h] at job
      simpa [show f.ref.job = n by simpa using job] using h

/-- How a STOPPING job settles: it drains, and with its last file ends; or something of it is under way. -/
theorem Ctl.settle_stops {M : CardNo → Prop} (hs : (c.job n).state = .stopping) :
    (∃ w, Ctl.Leads (· = n) M c w ∧ (c.settle n).drives = w.drives ∧ (c.settle n).slabs = w.slabs)
      ∧ (((c.settle n).sourceCount n = 0 ∧ (∀ g ∈ (c.settle n).queue n, ∃ o, g.state = .complete o)
            ∧ (((c.settle n).job n).state = .stopping → (c.settle n).queue n ≠ [])
            ∧ (((c.settle n).job n).state = .ended → (c.settle n).queue n = []))
          ∨ ((c.settle n).txnOf n = true ∨ (c.settle n).digestOf n = true) ∧ ((c.settle n).job n).state = .stopping) := by
  have dropped : Ctl.Leads (· = n) M c (c.dropStaleWait n) := Ctl.dropStaleWait_leads
  have hs' : ((c.dropStaleWait n).job n).state = .stopping := by rw [Ctl.dropStaleWait_job]; exact hs
  rw [Ctl.settle_stopping hs]
  split
  · next hd =>
    have txn := Ctl.stopDrained_txnOf hd
    obtain ⟨-, ⟨w, lead, drives, slabs⟩, noSlab, complete⟩ := Ctl.drainedStop_drained (M := M) hs' txn
    have state : (((c.dropStaleWait n).drainedStop n).job n).state = .stopping :=
      (Job.core_fields ((Ctl.drainedStop_leads (N := (· = n)) (M := (· = n)) rfl rfl txn).jobsKept.core n)).1.trans hs'
    rw [Ctl.drainStop_eq]
    split
    · next hq =>
      refine ⟨⟨w, dropped.trans lead, (Ctl.endJob_drives ..).trans drives, (Ctl.endJob_slabs ..).trans slabs⟩, .inl ?_⟩
      rw [Ctl.sourceCount_of_slabs (Ctl.endJob_slabs ..), Ctl.queue_of_files (Ctl.endJob_files ..), Ctl.endJob_job]
      exact ⟨noSlab, complete, fun h => (by cases h), fun _ => List.isEmpty_iff.1 hq⟩
    · next hq =>
      refine ⟨⟨w, dropped.trans lead, drives, slabs⟩, .inl ⟨noSlab, complete, fun _ => mt List.isEmpty_iff.2 hq, fun h => ?_⟩⟩
      rw [state] at h; cases h
  · next hd =>
    refine ⟨⟨_, dropped, rfl, rfl⟩, .inr ⟨?_, hs'⟩⟩
    simpa [Ctl.stopDrained, -not_and, Bool.not_eq_true, not_and_or] using hd

end

/-! ## JOB_STOP (R24, R25, R26) -/

section
variable {c : Ctl} {n : CardNo}

/-- The record of a job that has entered STOPPING, once it has settled: STOPPING, or ENDED with the same end reason. -/
theorem Ctl.settle_stopped {j : Job} {r : EndReason} (core : (c.job n).core = (j.stopped r).core) :
    let j' := ((c.settle n).job n)
    (j'.state = .stopping ∧ j'.holds = j.holds ∨ j'.state = .ended ∧ j'.holds.isEmpty = true)
      ∧ j'.endReason = r ∧ j'.suspend = .none ∧ j'.faultCause = .none ∧ j'.dests = j.dests
      ∧ j'.lastRelease = j.lastRelease := by
  have stopping : (c.job n).state = .stopping := (Job.core_fields core).1
  have reason : (c.job n).endReason = r := (Job.core_fields core).2.2.2.2.2.2.2.1
  obtain ⟨settled, -⟩ := c.settle_job n
  obtain ⟨e, ended, ⟨hs, -⟩ | ⟨-, he⟩⟩ | ⟨hs, -⟩ | kept := settled
  · rw [stopping] at hs
    obtain hs | hs := hs <;> cases hs
  · rw [he, reason] at ended
    obtain ⟨state, dests, holds, last, fault, -, suspend, reason', -⟩ :=
      Job.core_fields (ended.trans (Job.core_endedBy core r))
    exact ⟨.inr ⟨state, by rw [holds]; rfl⟩, reason', suspend, fault, dests, last⟩
  · rw [stopping] at hs; cases hs
  · obtain ⟨state, dests, holds, last, fault, -, suspend, reason', -⟩ := Job.core_fields (kept.trans core)
    exact ⟨.inl ⟨state, holds⟩, reason', suspend, fault, dests, last⟩

theorem Ctl.enterStopping_core (r : EndReason) : ((c.enterStopping n r).job n).core = ((c.job n).stopped r).core := by
  have core := (Ctl.enterStopping_leads (N := (· = n)) (M := (· = n)) (c := c) rfl r).jobsKept.core n
  rwa [Ctl.updJob_job] at core

/-- What a JOB_STOP leaves at a drive port. -/
theorem Ctl.stopJob_drive (r : EndReason) (d : DriveNo) :
    let t := (c.enterStopping n r).settle n
    (∀ q ∈ (t.drive d).verifyQueue, q.job ≠ n) ∧ (∀ k, (t.drive d).context = some k → k.file.job ≠ n)
      ∧ (∀ y ∈ (t.drive d).writeQueue, (t.slab y).job ≠ some n ∧ ¬c.OwnAt n d y)
      ∧ ∀ g, (t.drive d).staged = some g → (t.slab g.slab).job ≠ some n ∧ ¬c.OwnAt n d g.slab := by
  intro t
  obtain ⟨parted, shed⟩ := Ctl.enterStopping_parted (c := c) (n := n) r d
  obtain ⟨⟨w, lead, drives, slabs⟩, -⟩ := Ctl.settle_stops (M := fun _ => False) shed.stopping
  have parted := parted.leads (fun _ h => h) lead
  have shed := shed.leads lead
  have slab (y : SlabNo) : t.slab y = w.slab y := Ctl.slab_of_slabs slabs y
  rw [show t.drive d = w.drive d from Ctl.drive_of_drives drives d]
  simp only [slab]
  exact ⟨parted.verify, parted.context, fun y hy => ⟨shed.queue y hy, parted.queue y hy⟩,
    fun g hg => ⟨shed.staged g hg, parted.staged g hg⟩⟩

theorem Ctl.stopJob_otherJobs (r : EndReason) : c.OtherJobsSame ((c.enterStopping n r).settle n) n :=
  ((c.updJob_otherJobs n _).trans (Ctl.enterStopping_leads (N := (· = n)) (M := (· = n)) rfl r).otherJobs).trans
    (Ctl.settle_job _ n).2

end

@[simp] theorem Ctl.pushEntry_txnOf (c : Ctl) (e : OutEntry) (n : CardNo) : (c.pushEntry e).txnOf n = c.txnOf n := rfl
@[simp] theorem Ctl.pushEntry_digestOf (c : Ctl) (e : OutEntry) (n : CardNo) : (c.pushEntry e).digestOf n = c.digestOf n := rfl

/-- Settles O42: the job moved, its work withdrawn from every drive, then the drain. -/
theorem jobStopStops : Obligations.JobStopStops := by
  intro s f n ht hp ha j
  have run : exec .jobStop s = .next (s.answer f (.ok (s.ctl.stopJob n, []))) :=
    exec_jobRequest (act := fun c n => .ok (c.stopJob n, [])) rfl ht hp (takes_of_availability (.inr rfl) ha)
  refine ⟨fun hs => ?_, fun hs => ?_⟩
  · rw [run, Ctl.stopJob, if_pos hs, State.answer_unchanged]
  rw [Ctl.stopJob, if_neg hs] at run
  obtain ⟨state, reason, suspend, fault, dests, last⟩ :=
    Ctl.settle_stopped (Ctl.enterStopping_core (c := s.ctl) (n := n) .stopped)
  have drive := Ctl.stopJob_drive (c := s.ctl) (n := n) .stopped
  have others := Ctl.stopJob_otherJobs (c := s.ctl) (n := n) .stopped
  obtain ⟨-, settled⟩ := Ctl.settle_stops (M := fun _ => False)
    (Ctl.enterStopping_parted (c := s.ctl) (n := n) .stopped 0).2.stopping
  generalize (s.ctl.enterStopping n .stopped).settle n = t at *
  refine ⟨_, run, State.answer_doneIn .., ?_⟩
  rw [State.answer_ok_ctl]
  simp only [Ctl.pushEntry_job, Ctl.pushEntry_queue, Ctl.pushEntry_drive, Ctl.pushEntry_slab, Ctl.pushEntry_sourceCount,
    Ctl.pushEntry_txnOf, Ctl.pushEntry_digestOf]
  refine ⟨reason, suspend, fault, dests, last, state.imp And.left And.left, fun hst => ⟨?_, ?_⟩, fun he => ?_,
    fun htx hdg => ?_, fun d => ?_, fun m hm => (others.1 m hm).2⟩
  · exact (state.resolve_right fun ⟨e, _⟩ => by rw [hst] at e; cases e).2
  · obtain ⟨-, -, more, -⟩ | ⟨busy, -⟩ := settled
    · exact .inl (more hst)
    · exact .inr busy
  · obtain ⟨noSlab, -, -, last⟩ | ⟨-, e⟩ := settled
    · exact ⟨(state.resolve_left fun ⟨e, _⟩ => by rw [he] at e; cases e).2, last he, noSlab⟩
    · rw [he] at e; cases e
  · obtain ⟨noSlab, complete, -⟩ | ⟨busy, -⟩ := settled
    · exact ⟨noSlab, complete⟩
    · rw [htx, hdg] at busy
      simp at busy
  · obtain ⟨verify, context, queue, staged⟩ := drive d
    refine ⟨verify, context, fun y hy => ⟨(queue y hy).1, fun hlt hpend hj => ?_⟩, fun g hg => ⟨(staged g hg).1,
      fun hlt hheld hj => ?_⟩⟩
    · exact (queue y hy).2 ⟨hlt, hj, .inr ⟨rfl, hpend⟩⟩
    · exact (staged g hg).2 ⟨hlt, hj, hheld.symm.imp_right fun h => ⟨rfl, h⟩⟩

end Sys2Proof.Machine

namespace Sys2Proof.Machine

/-! ## Files that are closed, and retire -/

section
variable {c t u : Ctl} {n : CardNo} {d : DriveNo}

/-- From c to t job n's files keep their names and destination results, and COMPLETE ones stay as they stand (R53), where
names are distinct. -/
def Ctl.FilesClosed (n : CardNo) (c t : Ctl) : Prop :=
  (c.files.map (·.ref)).Nodup → (t.files.map (·.ref)).Nodup
    ∧ ∀ g ∈ t.queue n, ∃ g0 ∈ c.queue n, g0.ref = g.ref ∧ (g0.isComplete = true → g = g0) ∧ g.dests = g0.dests

theorem Ctl.FilesClosed.of_files (h : t.files = c.files) : c.FilesClosed n t := fun nodup =>
  ⟨h ▸ nodup, fun g hg => ⟨g, Ctl.queue_of_files h n ▸ hg, rfl, fun _ => rfl, rfl⟩⟩

theorem Ctl.FilesClosed.trans (h : c.FilesClosed n t) (g : t.FilesClosed n u) : c.FilesClosed n u := by
  intro nodup
  obtain ⟨nodup', hf⟩ := h nodup
  obtain ⟨nodup'', gf⟩ := g nodup'
  refine ⟨nodup'', fun f hf' => ?_⟩
  obtain ⟨f1, h1, r1, s1, d1⟩ := gf f hf'
  obtain ⟨f0, h0, r0, s0, d0⟩ := hf f1 h1
  refine ⟨f0, h0, r0.trans r1, fun hc => ?_, d1.trans d0⟩
  have e := s0 hc
  subst e
  exact s1 hc

/-- Records leave the table. -/
theorem Ctl.FilesClosed.of_filter {p : FileRec → Bool} (h : t.files = c.files.filter p) : c.FilesClosed n t := by
  intro nodup
  refine ⟨?_, fun g hg => ⟨g, ?_, rfl, fun _ => rfl, rfl⟩⟩
  · rw [h]
    exact nodup.sublist (List.filter_sublist.map _)
  · obtain ⟨mem, job⟩ := List.mem_filter.1 hg
    rw [h] at mem
    exact List.mem_filter.2 ⟨(List.mem_filter.1 mem).1, job⟩

/-- Records are changed that are not COMPLETE, their names and results kept. -/
theorem Ctl.FilesClosed.of_map {k : FileRec → FileRec} (h : t.files = c.files.map k)
    (hk : ∀ f ∈ c.files, (c.files.map (·.ref)).Nodup →
      (k f).ref = f.ref ∧ (f.isComplete = true → k f = f) ∧ (k f).dests = f.dests) : c.FilesClosed n t := by
  intro nodup
  have refs : t.files.map (·.ref) = c.files.map (·.ref) := by
    rw [h, List.map_map]
    exact List.map_congr_left fun f hf => (hk f hf nodup).1
  refine ⟨refs ▸ nodup, fun g hg => ?_⟩
  obtain ⟨mem, job⟩ := List.mem_filter.1 hg
  rw [h] at mem
  obtain ⟨f, hf, rfl⟩ := List.mem_map.1 mem
  obtain ⟨ref, same, dests⟩ := hk f hf nodup
  exact ⟨f, List.mem_filter.2 ⟨hf, by rw [← ref]; exact job⟩, ref.symm, same, dests⟩

theorem Ctl.retireRun_filesClosed (k : Nat) (m : CardNo) (c : Ctl) : c.FilesClosed n (c.retireRun k m) := by
  induction k generalizing c with
  | zero => exact .of_files rfl
  | succ k ih =>
    simp only [Ctl.retireRun]
    split
    · exact .of_files rfl
    · split
      · split
        · exact (Ctl.FilesClosed.of_filter (Ctl.retire_files ..)).trans (ih _)
        · exact .of_files rfl
      · exact .of_files rfl

theorem Ctl.testComplete_filesClosed (r : FileRef) (c : Ctl) : c.FilesClosed n (c.testComplete r) := by
  unfold Ctl.testComplete
  split
  · exact .of_files rfl
  · next f hf =>
    simp only
    split
    · next h =>
      refine Ctl.FilesClosed.trans (t := c.modFile r fun g => { g with state := .complete (f.outcome (c.job r.job)) })
        (Ctl.FilesClosed.of_map rfl fun g hg nodup => ?_) (Ctl.retireRun_filesClosed _ _ _)
      split
      · next e =>
        refine ⟨rfl, fun hc => ?_, rfl⟩
        have : c.file? g.ref = some g := Ctl.file_of_mem nodup hg
        rw [e, hf] at this
        cases this
        simp [hc] at h
      · exact ⟨rfl, fun _ => rfl, rfl⟩
    · exact .of_files rfl

theorem Ctl.testCompletes_filesClosed (rs : List FileRef) (c : Ctl) : c.FilesClosed n (c.testCompletes rs) := by
  induction rs generalizing c with
  | nil => exact .of_files rfl
  | cons r rs ih => exact (Ctl.testComplete_filesClosed r c).trans (ih _)

theorem Ctl.drainSlabs_files (l : List SlabNo) (c : Ctl) : (l.foldl (Ctl.drainSlab n) c).files = c.files := by
  induction l generalizing c with
  | nil => rfl
  | cons x l ih => exact (ih _).trans (Ctl.drainSlab_slab c n x).2.2.2

theorem Ctl.abandonFiles_filesClosed : c.FilesClosed n (c.abandonFiles n) := by
  refine Ctl.FilesClosed.of_map rfl fun f _ _ => ?_
  split
  · next h => exact ⟨rfl, fun hc => (by rw [h.2] at hc; cases hc), rfl⟩
  · exact ⟨rfl, fun _ => rfl, rfl⟩

theorem Ctl.drainedStop_filesClosed : c.FilesClosed n (c.drainedStop n) := by
  have freed : c.FilesClosed n ((c.slabsWhere fun s => s.isSourceOf n).foldl (Ctl.drainSlab n) c) :=
    .of_files (Ctl.drainSlabs_files _ c)
  unfold Ctl.drainedStop
  generalize (c.slabsWhere fun s => s.isSourceOf n).foldl (Ctl.drainSlab n) c = u at *
  exact (freed.trans Ctl.abandonFiles_filesClosed).trans (Ctl.retireRun_filesClosed _ _ _)

theorem Ctl.settle_filesClosed : c.FilesClosed n (c.settle n) := by
  cases hs : (c.job n).state with
  | running | held => exact .of_files (Ctl.settle_runningOrHeld (by simp [hs])).files
  | suspending => exact .of_files (Ctl.settle_suspends hs rfl).2.1
  | stopping =>
    rw [Ctl.settle_stopping hs]
    have dropped : c.FilesClosed n (c.dropStaleWait n) := .of_files (by simp)
    split
    · rw [Ctl.drainStop_eq]
      split
      · exact (dropped.trans Ctl.drainedStop_filesClosed).trans (.of_files (by simp))
      · exact dropped.trans Ctl.drainedStop_filesClosed
    · exact dropped
  | free | opened | suspended | faulted | ended =>
    rw [Ctl.settle_still (by simp [hs])]
    exact .of_files (by simp)

theorem Ctl.enterStopping_files (r : EndReason) : (c.enterStopping n r).files = c.files := by
  have each (l : List SlabNo) : ∀ c : Ctl, (l.foldl Ctl.withdrawDigest c).files = c.files := by
    induction l with
    | nil => exact fun _ => rfl
    | cons x l ih => exact fun c => (ih _).trans (Ctl.withdrawDigest_files c x)
  simp [Ctl.enterStopping, each, eachDrive, Ctl.withdrawJob]

/-! ## What settles at the ports -/

/-- A request of a reader grants at most one slab, in new use. -/
theorem Ctl.raiseSource_slab (y : SlabNo) :
    (c.raiseSource n).slab y = c.slab y
      ∨ ((c.raiseSource n).slab y).pendingWrites = noDrives ∧ ((c.raiseSource n).slab y).job = some n := by
  unfold Ctl.raiseSource Ctl.raise
  split
  · split
    · exact .inl rfl
    · split
      · next x _ =>
        simp only [Ctl.grant]
        cases hf : c.readingFile n with
        | none => exact .inl (by simp [Ctl.grantSource, hf])
        | some f =>
          rw [Ctl.grantSource_eq hf, Ctl.issueSpanRead_eq (c.granted n x f) n |>.choose_spec]
          show (c.modSlab x fun _ => f.spanSlab n).slab y = _ ∨ ((c.modSlab x fun _ => f.spanSlab n).slab y).pendingWrites = _
            ∧ ((c.modSlab x fun _ => f.spanSlab n).slab y).job = _
          rw [Ctl.modSlab_slab_ite]
          split
          · exact .inr ⟨rfl, rfl⟩
          · exact .inl rfl
      · exact .inl rfl
  · exact .inl rfl

/-- How settling job n leaves drives and slabs: as a run of consequences does, but for a slab that its reader asks for. -/
theorem Ctl.settle_ports (M : CardNo → Prop) (c : Ctl) (n : CardNo) :
    ∃ w, Ctl.Leads (· = n) M c w ∧ (c.settle n).drives = w.drives
      ∧ ∀ y, (c.settle n).slab y = w.slab y
        ∨ ((c.settle n).slab y).pendingWrites = noDrives ∧ ((c.settle n).slab y).job = some n := by
  have here (h1 : (c.settle n).drives = c.drives) (h2 : (c.settle n).slabs = c.slabs) : ∃ w, Ctl.Leads (· = n) M c w
      ∧ (c.settle n).drives = w.drives
      ∧ ∀ y, (c.settle n).slab y = w.slab y
        ∨ ((c.settle n).slab y).pendingWrites = noDrives ∧ ((c.settle n).slab y).job = some n :=
    ⟨c, .refl c, h1, fun y => .inl (Ctl.slab_of_slabs h2 y)⟩
  cases hs : (c.job n).state with
  | running =>
    by_cases he : c.endCondition n = true
    · rw [Ctl.settle_ends he] at here ⊢
      exact here (by simp) (by simp)
    · rw [Bool.not_eq_true] at he
      rw [Ctl.settle_running hs he]
      refine ⟨c, .refl c, by simp, fun y => ?_⟩
      have slab : (c.dropStaleWait n).slab y = c.slab y := Ctl.slab_of_slabs (by simp) y
      rw [← slab]
      exact Ctl.raiseSource_slab y
  | held =>
    by_cases he : c.endCondition n = true
    · rw [Ctl.settle_ends he] at here ⊢
      exact here (by simp) (by simp)
    · rw [Bool.not_eq_true] at he
      rw [Ctl.settle_held hs he] at here ⊢
      exact here (by simp) (by simp)
  | suspending =>
    obtain ⟨-, -, drives, slabs, -⟩ := Ctl.settle_suspends hs rfl
    exact here drives slabs
  | stopping =>
    obtain ⟨⟨w, lead, drives, slabs⟩, -⟩ := Ctl.settle_stops (M := M) hs
    exact ⟨w, lead, drives, fun y => .inl (Ctl.slab_of_slabs slabs y)⟩
  | free | opened | suspended | faulted | ended =>
    rw [Ctl.settle_still (by simp [hs])] at here ⊢
    exact here (by simp) (by simp)

end

/-! ## JOB_DROP (R18, R51, R27) -/

section
variable {c t : Ctl} {n : CardNo} {d : DriveNo}

/-- The job's destinations with d dropped. -/
def Job.destsWithout (j : Job) (d : DriveNo) : List Dest :=
  j.dests.map fun e => if e.port = d then { e with live := false } else e

/-- The job as a drop of d leaves it (R18, R10). -/
def Job.dropped (j : Job) (d : DriveNo) : Job :=
  let j' := { j with dests := j.destsWithout d }
  if j.holds.destGone[d].isSome then ({ j' with holds := j.holds.setDest d none }).releaseIfEmpty (.destGone d) else j'

theorem Job.dropped_fields (j : Job) (d : DriveNo) :
    (j.dropped d).dests = j.destsWithout d ∧ (j.dropped d).verify = j.verify ∧ (j.dropped d).holds.destGone[d] = none
      ∧ ((j.dropped d).state = j.state ∨ j.state = .held ∧ (j.dropped d).state = .running) := by
  have gone : (j.holds.setDest d none).destGone[d] = none := by simp [HoldSet.setDest]
  unfold Job.dropped
  by_cases h : j.holds.destGone[d].isSome = true
  · rw [if_pos h]
    unfold Job.releaseIfEmpty
    split
    · next hr => exact ⟨rfl, rfl, gone, .inr ⟨hr.1, rfl⟩⟩
    · exact ⟨rfl, rfl, gone, .inl rfl⟩
  · rw [if_neg h]
    exact ⟨rfl, rfl, by simpa using h, .inl rfl⟩

/-- A HELD job that was held for d alone runs again. -/
theorem Job.dropped_released {j : Job} (hs : j.state = .held) (hg : j.holds.destGone[d] ≠ none)
    (he : (j.holds.setDest d none).isEmpty = true) :
    (j.dropped d).state = .running ∧ (j.dropped d).lastRelease = .destGone d := by
  unfold Job.dropped
  rw [if_pos (Option.isSome_iff_ne_none.2 hg), Job.releaseIfEmpty, if_pos ⟨hs, he⟩]
  exact ⟨rfl, rfl⟩

theorem Job.isLive_dropped (j : Job) (d : DriveNo) : (j.dropped d).isLive d = false := by
  rw [Job.isLive, (j.dropped_fields d).1, Job.destsWithout, List.any_map, List.any_eq_false]
  intro e _
  by_cases h : e.port = d <;> simp [h]

/-- The drop of d up to the tests for completion. -/
def Ctl.destDropped (c : Ctl) (n : CardNo) (d : DriveNo) : Ctl :=
  let c := (c.updJob n fun j => j.dropped d).withdrawJob d n
  c.purgeDest d (c.slabsWhere fun s => s.isFilledOf n)

/-- The results on d closed in job n's files that are not COMPLETE (R53). -/
def Ctl.resultsDropped (c : Ctl) (n : CardNo) (d : DriveNo) : Ctl :=
  { c with files := c.files.map fun f =>
      if f.ref.job = n ∧ f.isComplete = false then f.closeResults (c.job n).verify (· == d) .dropped else f }

/-- The files tested, and the job stopped where no destination is LIVE (R27). -/
def Ctl.stopUndestined (c : Ctl) (n : CardNo) : Ctl :=
  if !(c.job n).dests.any (·.live) && (c.job n).state != .stopping then c.enterStopping n .noDestination else c

theorem Ctl.dropDest_eq (c : Ctl) (n : CardNo) (d : DriveNo) :
    c.dropDest n d = ((((c.destDropped n d).resultsDropped n d).testCompletes
      ((((c.destDropped n d).resultsDropped n d).queue n).map (·.ref))).stopUndestined n).pump d := rfl

/-! ### What a drop leads to -/

theorem Ctl.purge_owes_not (l : List SlabNo) (c : Ctl) (x : SlabNo)
    (hx : x ∈ l ∨ (c.slab x).pendingWrites[d] = false) :
    ((l.foldl (fun c x => c.leavePending d x) c).slab x).pendingWrites[d] = false := by
  induction l generalizing c with
  | nil => exact hx.resolve_left List.not_mem_nil
  | cons y l ih =>
    refine ih _ ?_
    rw [Ctl.leavePending_slab]
    by_cases e : x = y
    · subst e
      refine .inr ?_
      rw [if_pos rfl]
      simp
    · rw [if_neg e]
      exact hx.imp_left fun h => (List.mem_cons.1 h).resolve_left e

theorem Ctl.testReleases_owes_not (l : List SlabNo) (c : Ctl) (x : SlabNo) (hx : (c.slab x).pendingWrites[d] = false) :
    ((c.testReleases l).slab x).pendingWrites[d] = false := by
  induction l generalizing c with
  | nil => exact hx
  | cons y l ih =>
    refine ih _ ?_
    obtain e | ⟨-, -, given⟩ := c.testRelease_slab y x
    · rw [e]; exact hx
    · rw [given.renewed.1]; exact noDrives_get d

/-- The withdrawal and the purge of a drop, from the job's new record on. -/
theorem Ctl.destDropped_leads :
    Ctl.Leads (· = n) (· = n) ((c.updJob n fun j => j.dropped d).withdrawJob d n) (c.destDropped n d) := by
  unfold Ctl.destDropped
  generalize (c.updJob n fun j => j.dropped d).withdrawJob d n = u
  exact Ctl.purgeDest_leads (N := (· = n)) (M := (· = n)) (n := n) rfl rfl d _ fun x hx => (Ctl.mem_slabsWhere _ _ x).1 hx

theorem Ctl.resultsDropped_leads : Ctl.Leads (· = n) (· = n) c (c.resultsDropped n d) := by
  refine (Ctl.Consequence.files _ fun m hm => filter_map_of_others (fun f => ?_) fun f _ hf => ?_).leads
  · split <;> rfl
  · exact if_neg fun h => hm (hf ▸ h.1)

/-- The job's FILLED slabs owe d nothing after the purge (R78). -/
theorem Ctl.destDropped_owes_not {x : SlabNo} (hx : (c.slab x).isFilledOf n = true) :
    ((c.destDropped n d).slab x).pendingWrites[d] = false := by
  have start : ((c.updJob n fun j => j.dropped d).slab x).isFilledOf n = true := by
    rw [Ctl.slab_of_slabs (Ctl.updJob_slabs ..)]; exact hx
  have withdrawn := (Ctl.withdrawJob_leads (N := (· = n)) (M := (· = n)) (c := c.updJob n fun j => j.dropped d) d n).keeps
    (P := fun a => (a.slab x).isFilledOf n = true ∨ (a.slab x).pendingWrites[d] = false) (.inl start) fun a b ha hs => by
      obtain filled | owes := ha
      · obtain same | ⟨e, -⟩ := hs.slab x
        · refine .inl ?_
          obtain ⟨hp, hj, hst⟩ := Slab.isFilledOf_iff.1 filled
          exact Slab.isFilledOf_iff.2 ⟨same.purpose.trans hp, same.job.trans hj, same.state.trans hst⟩
        · rw [e]; exact .inr (noDrives_get d)
      · exact .inr (hs.owes_not owes)
  unfold Ctl.destDropped Ctl.purgeDest
  generalize (c.updJob n fun j => j.dropped d).withdrawJob d n = u at *
  exact Ctl.testReleases_owes_not _ _ x (Ctl.purge_owes_not _ u x (withdrawn.imp_left (Ctl.mem_slabsWhere _ _ x).2))

/-- The job has no LIVE destination left. -/
def Job.undestined (j : Job) : Prop := ∀ e ∈ j.dests, e.live = false

theorem Ctl.stopUndestined_cases (hs : (c.job n).state ≠ .stopping) :
    ¬(c.job n).undestined ∧ c.stopUndestined n = c
      ∨ (c.job n).undestined ∧ c.stopUndestined n = c.enterStopping n .noDestination := by
  have cond : (!(c.job n).dests.any (·.live) && (c.job n).state != .stopping) = true ↔ (c.job n).undestined := by
    simp [Job.undestined, hs]
  unfold Ctl.stopUndestined
  by_cases h : (c.job n).undestined
  · exact .inr ⟨h, if_pos (cond.2 h)⟩
  · exact .inl ⟨h, if_neg (mt cond.1 h)⟩

theorem Ctl.destDropped_core : ((c.destDropped n d).job n).core = ((c.job n).dropped d).core := by
  have withdrawn := Ctl.withdrawJob_leads (N := (· = n)) (M := (· = n)) (c := c.updJob n fun j => j.dropped d) d n
  rw [(withdrawn.trans Ctl.destDropped_leads).jobsKept.core n, Ctl.updJob_job]

/-- A drop, from the purge on, is a run of consequences, in which the job is stopped where it has no LIVE destination left. -/
theorem Ctl.dropDest_leads (hs : ((c.job n).dropped d).state ≠ .stopping) :
    ∃ u, Ctl.Leads (· = n) (· = n) (c.destDropped n d) u
      ∧ (¬((c.job n).dropped d).undestined ∧ Ctl.Leads (· = n) (· = n) u (c.dropDest n d)
        ∨ ((c.job n).dropped d).undestined
          ∧ Ctl.Leads (· = n) (· = n) (u.updJob n fun j => j.stopped .noDestination) (c.dropDest n d)) := by
  have tested : Ctl.Leads (· = n) (· = n) (c.destDropped n d) (((c.destDropped n d).resultsDropped n d).testCompletes
      ((((c.destDropped n d).resultsDropped n d).queue n).map (·.ref))) := by
    refine Ctl.resultsDropped_leads.trans (Ctl.testCompletes_leads (N := (· = n)) (M := (· = n)) (n := n) rfl rfl _ (fun r hr => ?_) _)
    obtain ⟨f, hf, rfl⟩ := List.mem_map.1 hr
    exact Ctl.mem_queue_job hf
  rw [Ctl.dropDest_eq]
  have core := (tested.jobsKept.core n).trans Ctl.destDropped_core
  generalize ((c.destDropped n d).resultsDropped n d).testCompletes _ = u at *
  obtain ⟨state, dests, -⟩ := Job.core_fields core
  have undestined : (u.job n).undestined ↔ ((c.job n).dropped d).undestined := by rw [Job.undestined, dests, Job.undestined]
  refine ⟨u, tested, ?_⟩
  obtain ⟨h, e⟩ | ⟨h, e⟩ := Ctl.stopUndestined_cases (c := u) (n := n) (by rw [state]; exact hs)
  · rw [e]
    exact .inl ⟨mt undestined.2 h, Ctl.pump_leads u d⟩
  · rw [e]
    exact .inr ⟨undestined.1 h, (Ctl.enterStopping_leads (N := (· = n)) (M := (· = n)) rfl _).trans (Ctl.pump_leads _ d)⟩

/-- What holds after the purge of a drop, and is kept by consequences and by the stop, holds after the drop. -/
theorem Ctl.dropDest_keeps {P : Ctl → Prop} (hs : ((c.job n).dropped d).state ≠ .stopping) (h : P (c.destDropped n d))
    (lead : ∀ a b, Ctl.Leads (· = n) (· = n) a b → P a → P b)
    (stop : ∀ a, P a → P (a.updJob n fun j => j.stopped .noDestination)) : P (c.dropDest n d) := by
  obtain ⟨u, hu, ⟨-, run⟩ | ⟨-, run⟩⟩ := Ctl.dropDest_leads hs
  · exact lead _ _ run (lead _ _ hu h)
  · exact lead _ _ run (stop _ (lead _ _ hu h))

/-- The core of the job's record after a drop. -/
theorem Ctl.dropDest_core (hs : ((c.job n).dropped d).state ≠ .stopping) :
    ¬((c.job n).dropped d).undestined ∧ ((c.dropDest n d).job n).core = ((c.job n).dropped d).core
      ∨ ((c.job n).dropped d).undestined
        ∧ ((c.dropDest n d).job n).core = (((c.job n).dropped d).stopped .noDestination).core := by
  obtain ⟨u, hu, ⟨h, run⟩ | ⟨h, run⟩⟩ := Ctl.dropDest_leads hs
  · exact .inl ⟨h, (run.jobsKept.core n).trans ((hu.jobsKept.core n).trans Ctl.destDropped_core)⟩
  · refine .inr ⟨h, (run.jobsKept.core n).trans ?_⟩
    rw [Ctl.updJob_job]
    exact congrArg (fun j => Job.stopped j .noDestination) ((hu.jobsKept.core n).trans Ctl.destDropped_core)

/-! ### The work of the job at the dropped port -/

/-- The write queue of a port only loses entries. -/
theorem Ctl.Leads.queue_subset {N M : CardNo → Prop} (h : Ctl.Leads N M c t) {x : SlabNo}
    (hx : x ∈ (t.drive d).writeQueue) : x ∈ (c.drive d).writeQueue := by
  refine (h.keeps (P := fun a => ∀ y ∈ (a.drive d).writeQueue, y ∈ (c.drive d).writeQueue) (fun _ h => h) ?_) x hx
  intro a b ha hs y hy
  obtain e | eff | gone := hs.drive d
  · exact ha y (e ▸ hy)
  · exact ha y (eff.writeQueue_sublist.subset hy)
  · exact ha y (gone.writeQueue.subset hy)

/-- What port d has of job n's work once d is dropped from it, against the state r before: nothing, but where it writes a
slab that did not count it among its writes in flight. -/
structure Ctl.DroppedAt (r : Ctl) (n : CardNo) (d : DriveNo) (c : Ctl) : Prop where
  queue : ∀ x ∈ (c.drive d).writeQueue, (r.slab x).job ≠ some n
  parted : c.Parted (fun x => (r.slab x).job = some n
    ∧ ∀ w, (r.drive d).writing = some w → (r.slab w.slab).inFlight[d] = true) n d false
  owes : ∀ x, (r.slab x).isFilledOf n = true → (c.slab x).pendingWrites[d] = false

theorem Ctl.DroppedAt.leads {r : Ctl} (h : r.DroppedAt n d c) (hs : Ctl.Leads (· = n) (· = n) c t) : r.DroppedAt n d t :=
  ⟨fun x hx => h.queue x (hs.queue_subset hx), h.parted.leads (fun h => by cases h) hs,
    fun x hx => hs.owes_not (h.owes x hx)⟩

theorem Ctl.DroppedAt.stop {r : Ctl} (h : r.DroppedAt n d c) (e : EndReason) :
    r.DroppedAt n d (c.updJob n fun j => j.stopped e) := by
  have drive := Ctl.drive_of_drives (c.updJob_drives n fun j => j.stopped e)
  have slab := Ctl.slab_of_slabs (c.updJob_slabs n fun j => j.stopped e)
  obtain ⟨queue, ⟨q, s, w, v, k, -⟩, owes⟩ := h
  refine ⟨fun x hx => queue x (drive d ▸ hx), ⟨?_, ?_, ?_, ?_, ?_, .inl ?_⟩, fun x hx => by rw [slab]; exact owes x hx⟩
  · rwa [drive]
  · rwa [drive]
  · simpa only [drive, slab] using w
  · rwa [drive]
  · rwa [drive]
  · rw [Ctl.updJob_job]; rfl

theorem Ctl.destDropped_droppedAt : c.DroppedAt n d (c.destDropped n d) := by
  have drive := Ctl.drive_of_drives (c.updJob_drives n fun j => j.dropped d)
  have slab := Ctl.slab_of_slabs (c.updJob_slabs n fun j => j.dropped d)
  have parted := Ctl.withdrawJob_parted (c := c.updJob n fun j => j.dropped d) (d := d) (n := n) (owing := false)
    (Own := fun x => (c.slab x).job = some n ∧ ∀ w, (c.drive d).writing = some w → (c.slab w.slab).inFlight[d] = true)
    (fun x hx => by rw [slab]; exact hx.1) (fun w hw ho => .inl (by rw [slab]; exact ho.2 w (drive d ▸ hw)))
    (.inr (by rw [Ctl.updJob_job]; exact Job.isLive_dropped _ d))
  refine ⟨fun x hx hj => ?_, parted.leads (fun h => by cases h) Ctl.destDropped_leads, fun x hx => Ctl.destDropped_owes_not hx⟩
  have queue := (Ctl.withdrawJob_drive (c := c.updJob n fun j => j.dropped d) (d := d) (n := n)).1.writeQueue
  have mem := Ctl.destDropped_leads.queue_subset hx
  rw [queue] at mem
  have := (List.mem_filter.1 mem).2
  simp [slab, hj] at this

theorem Ctl.dropDest_droppedAt (hs : ((c.job n).dropped d).state ≠ .stopping) : c.DroppedAt n d (c.dropDest n d) :=
  Ctl.dropDest_keeps (P := fun a => c.DroppedAt n d a) hs Ctl.destDropped_droppedAt (fun _ _ run ha => ha.leads run)
    fun _ ha => ha.stop _

/-! ### The drop and what settles -/

theorem Ctl.drop_port (hs : ((c.job n).dropped d).state ≠ .stopping) :
    let t := (c.dropDest n d).settle n
    (∀ x ∈ (t.drive d).writeQueue, (c.slab x).job ≠ some n)
      ∧ ((∀ w, (c.drive d).writing = some w → (c.slab w.slab).inFlight[d] = true) →
          ∀ y, (t.drive d).staged = some y → (c.slab y.slab).job ≠ some n)
      ∧ (∀ x, (c.slab x).isFilledOf n = true → (t.slab x).pendingWrites[d] = false)
      ∧ (∀ r ∈ (t.drive d).verifyQueue, r.job ≠ n) ∧ ∀ k, (t.drive d).context = some k → k.file.job ≠ n := by
  intro t
  obtain ⟨w, lead, drives, slabs⟩ := Ctl.settle_ports (· = n) (c.dropDest n d) n
  obtain ⟨queue, parted, owes⟩ := (Ctl.dropDest_droppedAt hs).leads lead
  rw [show t.drive d = w.drive d from Ctl.drive_of_drives drives d]
  refine ⟨queue, fun guard y hy hj => parted.staged y hy ⟨hj, guard⟩, fun x hx => ?_, parted.verify, parted.context⟩
  obtain e | ⟨e, -⟩ := slabs x
  · rw [show t.slab x = w.slab x from e]; exact owes x hx
  · rw [show (t.slab x).pendingWrites = noDrives from e]; exact noDrives_get d

theorem Job.SettledFrom.holds {j j' : Job} (h : j.SettledFrom j') : j'.holds = j.holds ∨ j'.holds = HoldSet.empty := by
  obtain ⟨r, core, -⟩ | ⟨-, core⟩ | core := h
  · exact .inr (Job.core_fields core).2.2.1
  · exact .inl (Job.core_fields (j := { j with state := .suspended }) core).2.2.1
  · exact .inl (Job.core_fields core).2.2.1

theorem Ctl.drop_job (hs : ((c.job n).dropped d).state ≠ .stopping) :
    let j := c.job n
    let t := (c.dropDest n d).settle n
    let j' := t.job n
    j'.dests = j.destsWithout d ∧ j'.holds.destGone[d] = none
      ∧ ((∀ e ∈ j.destsWithout d, e.live = false) → (j'.state = .stopping ∨ j'.state = .ended) ∧ j'.endReason = .noDestination)
      ∧ ((∃ e ∈ j.destsWithout d, e.live = true) → (j.dropped d).state = .running → t.queue n ≠ [] →
          j'.state = .running ∧ j'.lastRelease = (j.dropped d).lastRelease) := by
  intro j t j'
  obtain ⟨dests, -, gone, -⟩ := j.dropped_fields d
  have core := Ctl.dropDest_core hs
  have kept : ((c.dropDest n d).job n).dests = j.destsWithout d ∧ ((c.dropDest n d).job n).holds.destGone[d] = none := by
    obtain ⟨-, h⟩ | ⟨-, h⟩ := core
    · obtain ⟨-, hd, hh, -⟩ := Job.core_fields h
      exact ⟨hd.trans dests, by rw [hh]; exact gone⟩
    · obtain ⟨-, hd, hh, -⟩ := Job.core_fields h
      exact ⟨hd.trans dests, by rw [hh]; exact gone⟩
  obtain ⟨settled, -⟩ := (c.dropDest n d).settle_job n
  have undestined : (j.dropped d).undestined ↔ ∀ e ∈ j.destsWithout d, e.live = false := by rw [Job.undestined, dests]
  refine ⟨settled.fields.2.1.trans kept.1, ?_, fun none' => ?_, fun live run hq => ?_⟩
  · obtain e | e := settled.holds
    · rw [show j'.holds = _ from e]; exact kept.2
    · rw [show j'.holds = _ from e]; simp [HoldSet.empty]
  · obtain ⟨h, -⟩ | ⟨-, h⟩ := core
    · exact (h (undestined.2 none')).elim
    · obtain ⟨state, reason, -⟩ := Ctl.settle_stopped h
      exact ⟨state.imp And.left And.left, reason⟩
  · obtain ⟨-, h⟩ | ⟨h, -⟩ := core
    · obtain ⟨state, -, -, last, -⟩ := Job.core_fields h
      have running := state.trans run
      have job := (Ctl.settle_runningOrHeld (.inl running)).job
      rw [if_neg fun h => hq h.2.1] at job
      rw [show j' = _ from job]
      exact ⟨running, last⟩
    · obtain ⟨e, he, hl⟩ := live
      rw [undestined.1 h e he] at hl
      cases hl

/-! ### The files of the job (R51, R53) -/

theorem Ctl.destDropped_files : (c.destDropped n d).files = c.files := by
  have purged (l : List SlabNo) : ∀ c : Ctl, (l.foldl (fun c x => c.leavePending d x) c).files = c.files := by
    induction l with
    | nil => exact fun _ => rfl
    | cons x l ih => exact fun c => ih _
  unfold Ctl.destDropped Ctl.purgeDest Ctl.withdrawJob
  rw [Ctl.testReleases_files, purged, Ctl.withdraw_files, Ctl.updJob_files]

theorem Ctl.dropDest_filesClosed : ((c.destDropped n d).resultsDropped n d).FilesClosed n ((c.dropDest n d).settle n) := by
  rw [Ctl.dropDest_eq]
  generalize (c.destDropped n d).resultsDropped n d = u
  have tested : u.FilesClosed n (u.testCompletes ((u.queue n).map (·.ref))) := Ctl.testCompletes_filesClosed _ _
  generalize u.testCompletes _ = v at *
  have stopped : v.FilesClosed n (v.stopUndestined n) := by
    refine Ctl.FilesClosed.of_files ?_
    unfold Ctl.stopUndestined
    split
    · exact Ctl.enterStopping_files _
    · rfl
  generalize v.stopUndestined n = w at *
  have pumped : w.FilesClosed n (w.pump d) := .of_files (Ctl.pump_files w d)
  exact ((tested.trans stopped).trans pumped).trans (Ctl.settle_filesClosed (c := w.pump d) (n := n))

/-- A result that a drop closes (2.6). -/
theorem DestResult.isFinal_iff (r : DestResult) (v : VerifyMode) :
    r.isFinal v = false ↔ r = .pending ∨ (r = .written ∧ v = .readback) := by
  cases r <;> cases v <;> simp [DestResult.isFinal]

theorem Ctl.drop_files (hn : (c.files.map (·.ref)).Nodup) {g : FileRec} (hg : g ∈ ((c.dropDest n d).settle n).queue n) :
    ∃ g0 ∈ c.queue n, g0.ref = g.ref ∧ (g0.isComplete = true → g = g0)
      ∧ (g0.isComplete = false → g.dests = g0.dests.map fun e =>
          if e.port = d ∧ (e.result = .pending ∨ (e.result = .written ∧ (c.job n).verify = .readback)) then
            { e with result := .dropped }
          else e) := by
  have verify : ((c.destDropped n d).job n).verify = (c.job n).verify := by
    obtain ⟨-, -, -, -, -, -, -, -, e, -⟩ := Job.core_fields (Ctl.destDropped_core (c := c) (n := n) (d := d))
    exact e.trans ((c.job n).dropped_fields d).2.1
  have files := Ctl.destDropped_files (c := c) (n := n) (d := d)
  have closes := Ctl.dropDest_filesClosed (c := c) (n := n) (d := d)
  generalize c.destDropped n d = u at *
  have refs : (u.resultsDropped n d).files.map (·.ref) = c.files.map (·.ref) := by
    rw [← files]
    simp only [Ctl.resultsDropped, List.map_map]
    refine List.map_congr_left fun f _ => ?_
    simp only [Function.comp]
    split <;> rfl
  rw [← refs] at hn
  obtain ⟨-, closed⟩ := closes hn
  obtain ⟨g1, hg1, ref, same, dests⟩ := closed g hg
  obtain ⟨mem, job⟩ := List.mem_filter.1 hg1
  obtain ⟨g0, hg0, rfl⟩ := List.mem_map.1 mem
  rw [files] at hg0
  by_cases h : g0.ref.job = n ∧ g0.isComplete = false
  · rw [if_pos h] at ref same dests
    refine ⟨g0, List.mem_filter.2 ⟨hg0, by simpa using h.1⟩, ref, fun hc => (by rw [h.2] at hc; cases hc), fun _ => ?_⟩
    rw [dests, FileRec.closeResults, verify]
    refine List.map_congr_left fun e _ => if_congr ?_ rfl rfl
    rw [Bool.and_eq_true, beq_iff_eq, Bool.not_eq_true', DestResult.isFinal_iff]
  · rw [if_neg h] at ref same dests job
    have job' : g0.ref.job = n := by simpa using job
    refine ⟨g0, List.mem_filter.2 ⟨hg0, job⟩, ref, same, fun hc => (h ⟨job', hc⟩).elim⟩

theorem Ctl.drop_otherJobs (hs : ((c.job n).dropped d).state ≠ .stopping) :
    c.OtherJobsSame ((c.dropDest n d).settle n) n := by
  have start : c.OtherJobsSame (c.destDropped n d) n :=
    ((c.updJob_otherJobs n _).trans (Ctl.withdrawJob_leads (N := (· = n)) (M := (· = n)) d n).otherJobs).trans
      Ctl.destDropped_leads.otherJobs
  exact (Ctl.dropDest_keeps (P := fun a => c.OtherJobsSame a n) hs start (fun _ _ run h => h.trans run.otherJobs)
    fun a h => h.trans (a.updJob_otherJobs n _)).trans (Ctl.settle_job _ n).2

end

/-- Settles O41: the record without the destination, its work withdrawn and its results closed, then what settles. -/
theorem jobDropDropsADestination : Obligations.JobDropDropsADestination := by
  intro s f n b ht hp ha j
  have run : exec .jobDrop s = .next (s.answer f (s.ctl.answerDrop n b)) := by
    rw [exec_of_takes (k := .jobDrop) (act := reqJobDrop) rfl ht, hp, reqJobDrop,
      Ctl.forJob_taken _ (cardNo_ofNat n) (takes_of_availability (.inr rfl) ha)]
  have notStopping (d : DriveNo) : (j.dropped d).state ≠ .stopping := by
    have taken : j.state ≠ .stopping := fun e => by simp [j, availability, e] at ha
    obtain e | ⟨-, e⟩ := (j.dropped_fields d).2.2.2
    · rwa [e]
    · rw [e]; decide
  refine ⟨fun hno => ?_, fun d e hb he => ?_⟩
  · have none' : (driveNo? b).bind j.dest? = none := by
      rw [Option.bind_eq_none_iff]
      intro d hd
      rw [Job.dest?, List.find?_eq_none]
      intro e he hp
      refine hno e he ?_
      rw [driveNo_eq_some.1 hd, toNat_ofNat_drive, beq_iff_eq.1 hp]
    rw [run, Ctl.answerDrop, none']
    rfl
  have found : (driveNo? b).bind j.dest? = some e := by
    rw [driveNo_eq_some.2 (BitVec.eq_of_toNat_eq (by rw [hb, toNat_ofNat_drive])), Option.bind_some]
    exact he
  have port : e.port = d := by simpa using List.find?_some he
  rw [Ctl.answerDrop, found] at run
  refine ⟨fun hl => ?_, fun hl => ?_⟩
  · simp only [hl, Bool.false_eq_true, if_false] at run
    rw [run, State.answer_unchanged]
  intro dests
  simp only [hl, if_true, port] at run
  obtain ⟨hd, gone, none', some'⟩ := Ctl.drop_job (notStopping d)
  obtain ⟨queue, staged, owes, verify, context⟩ := Ctl.drop_port (notStopping d)
  have others := Ctl.drop_otherJobs (notStopping d)
  have files (hn : (s.ctl.files.map (·.ref)).Nodup) (g : FileRec) := Ctl.drop_files (n := n) (d := d) hn (g := g)
  generalize (s.ctl.dropDest n d).settle n = t at *
  refine ⟨_, run, State.answer_doneIn .., ?_⟩
  rw [State.answer_ok_ctl]
  simp only [Ctl.pushEntry_job, Ctl.pushEntry_queue, Ctl.pushEntry_drive, Ctl.pushEntry_slab]
  refine ⟨hd, gone, fun fresh g hg => files fresh.1 g hg, queue, staged, owes, verify, context, none',
    fun live hs hg he hq => ?_, fun m hm => (others.1 m hm).2⟩
  obtain ⟨run', last⟩ := j.dropped_released hs hg he
  obtain ⟨state, last'⟩ := some' live run' hq
  exact ⟨state, last'.trans last⟩

end Sys2Proof.Machine

namespace Sys2Proof.Machine

/-! ## What a READY port takes, piece by piece (R98, R143, R144) -/

theorem Job.letsWorkGoOn_iff (j : Job) : j.LetsWorkGoOn ↔ j.allowsWork = true := by
  unfold Job.LetsWorkGoOn Job.allowsWork
  cases j.state <;> simp

/-- The first of a list that passes a test, with what stands before and after it. -/
theorem find_append_cons {α : Type} [BEq α] [LawfulBEq α] {f : α → Bool} {pre post : List α} {x : α} (hx : f x = true)
    (hp : ∀ y ∈ pre, f y = false) :
    (pre ++ x :: post).find? f = some x ∧ (pre ++ x :: post).erase x = pre ++ post := by
  have mem : x ∉ pre := fun h => by rw [hp x h] at hx; cases hx
  have none' : pre.find? f = none := List.find?_eq_none.2 fun y hy => by simp [hp y hy]
  refine ⟨?_, ?_⟩
  · rw [List.find?_append, none', List.find?_cons_of_pos hx]
    rfl
  · rw [List.erase_append_right _ mem, List.erase_cons_head]

section
variable {c : Ctl} {d : DriveNo}

theorem Ctl.pump_not_ready (h : (c.drive d).state ≠ .ready) : c.pump d = c := by
  simp [Ctl.pump, Ctl.takeVerify, Ctl.choose, Ctl.fillStage, h]

/-! ### The context -/

theorem Ctl.takeVerify_busy (h : (c.drive d).context ≠ none) : c.takeVerify d = c := by
  simp [Ctl.takeVerify, h]

theorem Ctl.takeVerify_nothing
    (h : (c.drive d).context = none → ∀ r ∈ (c.drive d).verifyQueue, ¬(c.job r.job).LetsWorkGoOn) :
    c.takeVerify d = c := by
  by_cases hk : (c.drive d).context = none
  · have none' : (c.drive d).verifyQueue.find? (fun r => (c.job r.job).allowsWork) = none :=
      List.find?_eq_none.2 fun r hr e => h hk r hr ((Job.letsWorkGoOn_iff _).2 e)
    simp [Ctl.takeVerify, none']
  · exact Ctl.takeVerify_busy hk

/-- An IDLE context takes the oldest verify entry whose job allows verifies. -/
theorem Ctl.takeVerify_takes {pre post : List FileRef} {r : FileRef} (hs : (c.drive d).state = .ready)
    (hk : (c.drive d).context = none) (hq : (c.drive d).verifyQueue = pre ++ r :: post)
    (hp : ∀ q ∈ pre, ¬(c.job q.job).LetsWorkGoOn) (hr : (c.job r.job).LetsWorkGoOn) :
    c.takeVerify d = c.modDrive d fun p => { p with verifyQueue := pre ++ post, context := some (Context.atStart r) } := by
  obtain ⟨found, left⟩ := find_append_cons (f := fun q : FileRef => (c.job q.job).allowsWork) (post := post)
    ((Job.letsWorkGoOn_iff _).1 hr) fun q hq => by
      rw [Bool.eq_false_iff]
      exact fun e => hp q hq ((Job.letsWorkGoOn_iff _).2 e)
  simp only [Ctl.takeVerify, hs, hk, hq, and_self, if_true, found]
  simp only [Ctl.modDrive, hq, left]
  rfl

/-- The port goes on from there as it would with the context already reading that file. -/
theorem Ctl.pump_takesVerify {pre post : List FileRef} {r : FileRef} (hs : (c.drive d).state = .ready)
    (hk : (c.drive d).context = none) (hq : (c.drive d).verifyQueue = pre ++ r :: post)
    (hp : ∀ q ∈ pre, ¬(c.job q.job).LetsWorkGoOn) (hr : (c.job r.job).LetsWorkGoOn) :
    c.pump d =
      (c.modDrive d fun p => { p with verifyQueue := pre ++ post, context := some (Context.atStart r) }).pump d := by
  have taken := Ctl.takeVerify_takes hs hk hq hp hr
  generalize hu : (c.modDrive d fun p => { p with verifyQueue := pre ++ post, context := some (Context.atStart r) }) = u at *
  have stays : u.takeVerify d = u := Ctl.takeVerify_busy (by rw [← hu, Ctl.modDrive_drive]; simp)
  rw [Ctl.pump, Ctl.pump, taken, stays]

/-! ### The WRITE that goes on and the oldest entry -/

theorem Ctl.eligible_iff {x : SlabNo} : c.EntryMayGo x ↔ c.eligible x = true := by
  simp only [Ctl.EntryMayGo, Ctl.eligible, Job.letsWorkGoOn_iff, Option.any_eq_true]

theorem Ctl.writeLive_iff {x : SlabNo} :
    c.writeLive d x = true ↔ ∃ n g e, (c.slab x).job = some n ∧ (c.slab x).file.bind c.file? = some g
      ∧ (c.job n).state ≠ .stopping ∧ (∃ m ∈ (c.job n).dests, m.port = d ∧ m.live = true)
      ∧ (g.dests.find? fun e => e.port == d) = some e ∧ e.result = .pending := by
  unfold Ctl.writeLive
  cases hj : (c.slab x).job with
  | none => simp
  | some n =>
    cases hf : (c.slab x).file with
    | none => simp
    | some r =>
      cases hg : c.file? r with
      | none => simp [hg, Ctl.resultOn]
      | some g =>
        cases he : g.dests.find? (fun e => e.port == d) <;>
          simp [hg, he, Ctl.resultOn, FileRec.resultOn, FileRec.dest?, Job.isLive, and_assoc]

theorem Ctl.nextWriteIs_iff {x : SlabNo} {b : Nat} : c.NextWriteIs d x b ↔ c.nextOfWriting d = some (x, b) := by
  have unfolded : c.NextWriteIs d x b ↔ (∃ w, (c.drive d).writing = some w ∧ w.slab = x ∧ b = w.next + c.writeCount d)
      ∧ b < endBlock (c.slab x).offset (c.slab x).len ∧ c.writeLive d x = true := by
    rw [Ctl.writeLive_iff]
    unfold Ctl.NextWriteIs Ctl.writeCount Link.flight
    cases (c.drive d).link.cond <;> exact Iff.rfl
  rw [unfolded]
  unfold Ctl.nextOfWriting
  cases hw : (c.drive d).writing with
  | none => simp
  | some w =>
    simp only [Option.some.injEq, exists_eq_left', Option.ite_none_right_eq_some, Bool.and_eq_true, decide_eq_true_eq,
      Prod.mk.injEq]
    constructor
    · rintro ⟨⟨rfl, rfl⟩, hb, hl⟩
      exact ⟨⟨hl, hb⟩, rfl, rfl⟩
    · rintro ⟨⟨hl, hb⟩, rfl, rfl⟩
      exact ⟨⟨rfl, rfl⟩, hb, hl⟩

theorem Ctl.nextOfWriting_none (h : ¬∃ x b, c.NextWriteIs d x b) : c.nextOfWriting d = none := by
  cases hn : c.nextOfWriting d with
  | none => rfl
  | some v => exact (h ⟨v.1, v.2, Ctl.nextWriteIs_iff.2 hn⟩).elim

theorem Ctl.oldestEntryIs_found {pre post : List SlabNo} {x : SlabNo} (h : c.OldestEntryIs d pre x post) :
    c.oldestEligible d = some x ∧ (c.drive d).writeQueue.erase x = pre ++ post := by
  obtain ⟨hq, hx, hp⟩ := h
  rw [Ctl.oldestEligible, hq]
  exact find_append_cons (Ctl.eligible_iff.1 hx) fun y hy => by
    rw [Bool.eq_false_iff]
    exact fun e => hp y hy (Ctl.eligible_iff.2 e)

theorem Ctl.oldestEligible_none (h : ∀ x ∈ (c.drive d).writeQueue, ¬c.EntryMayGo x) : c.oldestEligible d = none :=
  List.find?_eq_none.2 fun x hx e => h x hx (Ctl.eligible_iff.2 e)

/-! ### The verify read -/

theorem Ctl.verifyReady_iff_readIs (hs : (c.drive d).state = .ready) :
    c.verifyReady d = true ↔ ∃ k f sp b, c.VerifyReadIs d k f sp b := by
  rw [Ctl.verifyReady_iff]
  constructor
  · rintro ⟨-, k, f, hk, hf, ⟨hn, hl, hv⟩ | ⟨sp, hsp, hb, hr⟩⟩
    · exact ⟨k, f, _, _, hk, hf, .inr ⟨hn, hl, hv, rfl, rfl⟩⟩
    · exact ⟨k, f, sp, _, hk, hf, .inl ⟨hsp, rfl, hb, hr⟩⟩
  · rintro ⟨k, f, sp, b, hk, hf, ⟨hsp, rfl, hb, hr⟩ | ⟨hn, hl, hv, -, -⟩⟩
    · exact ⟨hs, k, f, hk, hf, .inr ⟨sp, hsp, hb, hr⟩⟩
    · exact ⟨hs, k, f, hk, hf, .inl ⟨hn, hl, hv⟩⟩

theorem Ctl.verifyReady_eq_false (hs : (c.drive d).state = .ready) (h : ¬∃ k f sp b, c.VerifyReadIs d k f sp b) :
    c.verifyReady d = false := by
  rw [Bool.eq_false_iff]
  exact fun e => h ((Ctl.verifyReady_iff_readIs hs).1 e)

/-- The first WRITE of an entry counts among the slab's writes in flight (R68). -/
theorem Ctl.startWrite_inFlight {x : SlabNo} {b start count : Nat} (h : c.writeTxn d x b = some (start, count)) :
    ((c.startWrite d x b true).slab x).inFlight[d] = true := by
  simp [Ctl.startWrite, h, Ctl.driveIssue]

/-! ### The stage -/

/-- The filling of the stage changes the stage, and takes at most entries from the write queue. -/
theorem Ctl.fillStage_eq (c : Ctl) (d : DriveNo) :
    ∃ q g, c.fillStage d = c.modDrive d (fun p => { p with writeQueue := q, staged := g })
      ∧ q.Sublist (c.drive d).writeQueue := by
  have same : c = c.modDrive d fun p => { p with writeQueue := (c.drive d).writeQueue, staged := (c.drive d).staged } := by
    simp only [Ctl.modDrive, Ctl.drive, Fin.getElem_fin]
    rw [Vector.set_getElem_self]
  simp only [Ctl.fillStage]
  split
  · split
    · exact ⟨_, _, rfl, .refl _⟩
    · split
      · exact ⟨_, _, rfl, List.erase_sublist⟩
      · exact ⟨_, _, same, .refl _⟩
  · exact ⟨_, _, same, .refl _⟩

/-- What the filling of the stage leaves of the port, and all of the slabs. -/
theorem Ctl.fillStage_leaves (c : Ctl) (d : DriveNo) :
    let q := (c.fillStage d).drive d
    q.link = (c.drive d).link ∧ q.failed = (c.drive d).failed ∧ q.writing = (c.drive d).writing
      ∧ q.context = (c.drive d).context ∧ q.writeQueue.Sublist (c.drive d).writeQueue
      ∧ (c.fillStage d).slabs = c.slabs := by
  obtain ⟨q, g, e, sub⟩ := c.fillStage_eq d
  simp only [e, Ctl.modDrive_drive, Ctl.modDrive_slabs, true_and, and_true]
  exact sub

/-! ### The pump of a port with nothing to verify anew, over an IDLE link -/

theorem Link.isIdle_of_cond {l : Link} (h : l.cond = .idle) : l.isIdle = true := by simp [Link.isIdle, h]

theorem Link.issue_sent {l : Link} (h : l.cond = .idle) (k : TxnKind) (a n : Nat) :
    l.issue k a n 0 Config.driveTimeout = l.sent k a n 0 4000 := Link.issue_idle l h k a n 0 _

theorem Ctl.choose_current (hf : (c.drive d).link.flight ≠ none) : c.choose d = c := by
  simp [Ctl.choose, Link.isIdle_eq_false_of_flight (Option.isSome_iff_ne_none.2 hf)]

theorem Ctl.fillStage_nothing (hn : ¬∃ x b, c.NextWriteIs d x b) (ho : ∀ x ∈ (c.drive d).writeQueue, ¬c.EntryMayGo x) :
    c.fillStage d = c := by
  simp [Ctl.fillStage, Ctl.nextOfWriting_none hn, Ctl.oldestEligible_none ho]

section
variable (hs : (c.drive d).state = .ready)
include hs

/-- With nothing to take, nothing is taken. -/
theorem Ctl.choose_nothing (hg : (c.drive d).staged = none) (hv : ¬∃ k f sp b, c.VerifyReadIs d k f sp b)
    (hn : ¬∃ x b, c.NextWriteIs d x b) (ho : ∀ x ∈ (c.drive d).writeQueue, ¬c.EntryMayGo x) :
    (c.choose d).fillStage d = c := by
  have e : c.choose d = c := by
    simp [Ctl.choose, hs, hg, Ctl.verifyReady_eq_false hs hv, Ctl.nextOfWriting_none hn, Ctl.oldestEligible_none ho]
  rw [e]
  simp [Ctl.fillStage, Ctl.nextOfWriting_none hn, Ctl.oldestEligible_none ho]

theorem Ctl.fillStage_blocked (h : (c.drive d).staged ≠ none ∨ ∃ k f sp b, c.VerifyReadIs d k f sp b) :
    c.fillStage d = c := by
  obtain h | h := h
  · simp [Ctl.fillStage, h]
  · simp [Ctl.fillStage, (Ctl.verifyReady_iff_readIs hs).2 h]

section
variable (hl : (c.drive d).link.cond = .idle)
include hl

/-- A staged WRITE becomes current. -/
theorem Ctl.choose_staged {g : Staged} {start count : Nat} (hg : (c.drive d).staged = some g)
    (hw : c.writeTxn d g.slab g.block = some (start, count)) :
    (c.choose d).drive d = ({ c.drive d with staged := none } : DrivePort).begun g.slab g.block start count g.first
      ∧ (g.first = true → ((c.choose d).slab g.slab).inFlight[d] = true) := by
  have e : c.choose d = (c.modDrive d fun p => { p with staged := none }).startWrite d g.slab g.block g.first := by
    simp [Ctl.choose, hs, Link.isIdle_of_cond hl, hg]
  rw [e]
  refine ⟨?_, fun first => ?_⟩
  · rw [Ctl.startWrite_drive (c := c.modDrive d fun p => { p with staged := none }) hw, Ctl.modDrive_drive]
  · rw [first]
    exact Ctl.startWrite_inFlight (c := c.modDrive d fun p => { p with staged := none }) hw

variable (hg : (c.drive d).staged = none)
include hg

/-- With the stage empty, a ready verify read becomes current. -/
theorem Ctl.choose_readBack {k : Context} {f : FileRec} {sp : Span} {b : Nat} {e : FileDest} {start count : Nat}
    (hv : c.VerifyReadIs d k f sp b) (he : f.dest? d = some e)
    (ht : txnAt e.extents b (sp.offset / 512 + (sp.len + 511) / 512) = some (start, count)) :
    (c.choose d).drive d
        = ({ c.drive d with context := some { k with span := some sp, nextBlock := b } } : DrivePort).readingBack start count
      ∧ (k.span = none → (c.choose d).slab (verifySlab d) = spanSlab d k.file sp) := by
  have chosen : c.choose d = (c.takeSpan d).issueReadBack d := by
    simp [Ctl.choose, hs, Link.isIdle_of_cond hl, hg, (Ctl.verifyReady_iff_readIs hs).2 ⟨k, f, sp, b, hv⟩]
  have issue (u : Ctl) (hk : (u.drive d).context = some { k with span := some sp, nextBlock := b })
      (hf : u.file? k.file = some f) : u.issueReadBack d = u.modDrive d fun p => p.readingBack start count := by
    have ht' : txnAt e.extents b (endBlock sp.offset sp.len) = some (start, count) := ht
    simp only [Ctl.issueReadBack, Ctl.contextFile, hk, Option.bind_some, hf, he, ht', Ctl.driveIssue, Ctl.modDrive_modDrive]
    rfl
  rw [chosen]
  obtain ⟨hk, hf, ⟨hsp, rfl, -, -⟩ | ⟨hsp, -, -, rfl, rfl⟩⟩ := hv
  · have same : ({ k with span := some sp, nextBlock := k.nextBlock } : Context) = k := by rw [← hsp]
    rw [Ctl.takeSpan_some hk hsp, issue c (by rw [same]; exact hk) hf, Ctl.modDrive_drive, same]
    refine ⟨?_, fun h => by rw [hsp] at h; cases h⟩
    rw [← hk]
  · rw [Ctl.takeSpan_none hk hf hsp, issue _ ?_ ?_, Ctl.modDrive_drive]
    · refine ⟨?_, fun _ => ?_⟩
      · rw [Ctl.modSlab_drive, Ctl.modDrive_drive]
        rfl
      · rw [Ctl.modDrive_slab, Ctl.modSlab_slab]
        rfl
    · rw [Ctl.modSlab_drive, Ctl.modDrive_drive]
      rfl
    · exact hf

variable (hv : ¬∃ k f sp b, c.VerifyReadIs d k f sp b)
include hv

/-- With no verify read ready, the writing entry's next WRITE becomes current. -/
theorem Ctl.choose_next {x : SlabNo} {b start count : Nat} (hn : c.NextWriteIs d x b)
    (hw : c.writeTxn d x b = some (start, count)) :
    (c.choose d).drive d = (c.drive d).begun x b start count false := by
  have e : c.choose d = c.startWrite d x b false := by
    simp [Ctl.choose, hs, Link.isIdle_of_cond hl, hg, Ctl.verifyReady_eq_false hs hv, Ctl.nextWriteIs_iff.1 hn]
  rw [e, Ctl.startWrite_drive hw]

/-- With no writing entry that goes on, the first WRITE of the oldest eligible entry becomes current. -/
theorem Ctl.choose_oldest {pre post : List SlabNo} {x : SlabNo} {start count : Nat} (hn : ¬∃ x b, c.NextWriteIs d x b)
    (ho : c.OldestEntryIs d pre x post) (hw : c.writeTxn d x ((c.slab x).offset / 512) = some (start, count)) :
    (c.choose d).drive d
        = ({ c.drive d with writeQueue := pre ++ post } : DrivePort).begun x ((c.slab x).offset / 512) start count true
      ∧ ((c.choose d).slab x).inFlight[d] = true := by
  obtain ⟨found, left⟩ := Ctl.oldestEntryIs_found ho
  have e : c.choose d = (c.modDrive d fun p => { p with writeQueue := p.writeQueue.erase x }).startWrite d x
      ((c.slab x).offset / 512) true := by
    simp [Ctl.choose, hs, Link.isIdle_of_cond hl, hg, Ctl.verifyReady_eq_false hs hv, Ctl.nextOfWriting_none hn, found,
      firstBlock, Config.blockBytes]
  rw [e]
  refine ⟨?_, Ctl.startWrite_inFlight (c := c.modDrive d fun p => { p with writeQueue := p.writeQueue.erase x }) hw⟩
  rw [Ctl.startWrite_drive (c := c.modDrive d fun p => { p with writeQueue := p.writeQueue.erase x }) hw,
    Ctl.modDrive_drive, left]

end

/-! ### The pump over a link that carries a transaction -/

section
variable (hf : (c.drive d).link.flight ≠ none) (hg : (c.drive d).staged = none)
  (hv : ¬∃ k f sp b, c.VerifyReadIs d k f sp b)
include hf hg hv

theorem Ctl.fillStage_next {x : SlabNo} {b : Nat} (hn : c.NextWriteIs d x b) :
    c.fillStage d = c.modDrive d fun p => { p with staged := some { slab := x, block := b, first := false } } := by
  simp [Ctl.fillStage, hs, Option.isSome_iff_ne_none.2 hf, hg, Ctl.verifyReady_eq_false hs hv, Ctl.nextWriteIs_iff.1 hn]

theorem Ctl.fillStage_oldest {pre post : List SlabNo} {x : SlabNo} (hn : ¬∃ x b, c.NextWriteIs d x b)
    (ho : c.OldestEntryIs d pre x post) :
    c.fillStage d = c.modDrive d fun p =>
      { p with writeQueue := pre ++ post, staged := some { slab := x, block := (c.slab x).offset / 512, first := true } } := by
  obtain ⟨found, left⟩ := Ctl.oldestEntryIs_found ho
  simp [Ctl.fillStage, hs, Option.isSome_iff_ne_none.2 hf, hg, Ctl.verifyReady_eq_false hs hv, Ctl.nextOfWriting_none hn,
    found, firstBlock, Config.blockBytes, Ctl.modDrive, left]

end

end

end

end Sys2Proof.Machine

namespace Sys2Proof.Machine

/-! ## What settles of every job -/

section
variable {c : Ctl} {n : CardNo}

/-- Nothing that settles touches the drives: of a drained stop no write entry is left to end (R142). -/
theorem Ctl.settle_drives (c : Ctl) (n : CardNo) : (c.settle n).drives = c.drives := by
  cases hs : (c.job n).state with
  | running | held => exact (Ctl.settle_runningOrHeld (by simp [hs])).otherPorts.2.1
  | suspending => exact (Ctl.settle_suspends hs rfl).2.2.1
  | stopping =>
    have hs' : ((c.dropStaleWait n).job n).state = .stopping := by rw [Ctl.dropStaleWait_job]; exact hs
    rw [Ctl.settle_stopping hs]
    split
    · next hd =>
      have drives := (Ctl.drainedStop_drained (M := fun _ => True) hs' (Ctl.stopDrained_txnOf hd)).drives
      rw [Ctl.drainStop_eq]
      split
      · rw [Ctl.endJob_drives, drives, Ctl.dropStaleWait_drives]
      · rw [drives, Ctl.dropStaleWait_drives]
    · rw [Ctl.dropStaleWait_drives]
  | free | opened | suspended | faulted | ended => rw [Ctl.settle_still (by simp [hs]), Ctl.dropStaleWait_drives]

/-- A job that does not run and holds no source slab holds none after another job has settled. -/
theorem Ctl.settle_sourceCount {m : CardNo} (hne : m ≠ n) (hr : (c.job m).state ≠ .running) (h : c.sourceCount m = 0) :
    (c.settle n).sourceCount m = 0 := by
  obtain ⟨w, lead, -, slabs⟩ := Ctl.settle_ports (· = n) c n
  have kept := lead.keeps (P := fun a => (a.job m).state ≠ .running ∧ ∀ x, (a.slab x).isSourceOf m = false)
    ⟨hr, Ctl.sourceCount_eq_zero.1 h⟩ fun a b ha hs => ⟨by rw [hs.state]; exact ha.1, fun x => hs.notSource ha.1 (ha.2 x)⟩
  refine Ctl.sourceCount_eq_zero.2 fun x => ?_
  obtain e | ⟨-, e⟩ := slabs x
  · rw [e]; exact kept.2 x
  · simp [Slab.isSourceOf, e, Ne.symm hne]

/-- What a fold over distinct members makes of each, when it reaches a member as it found it and leaves the others be. -/
theorem foldl_each {ι : Type} {f : Ctl → ι → Ctl} {A B : Ctl → ι → Prop} (here : ∀ c i, A c i → B (f c i) i)
    (before : ∀ c i k, i ≠ k → A c i → A (f c k) i) (after : ∀ c i k, i ≠ k → B c i → B (f c k) i) (l : List ι) :
    ∀ c : Ctl, l.Nodup → (∀ i ∈ l, A c i) → ∀ i ∈ l, B (l.foldl f c) i := by
  have stays (l : List ι) : ∀ (c : Ctl) (i : ι), i ∉ l → B c i → B (l.foldl f c) i := by
    induction l with
    | nil => exact fun _ _ _ h => h
    | cons k l ih =>
      intro c i hi h
      obtain ⟨hk, hl⟩ := not_or.1 (mt List.mem_cons.2 hi)
      exact ih _ i hl (after c i k hk h)
  induction l with
  | nil => exact fun _ _ _ i hi => (List.not_mem_nil hi).elim
  | cons k l ih =>
    intro c hl h i hi
    obtain ⟨hk, hl⟩ := List.nodup_cons.1 hl
    by_cases e : i = k
    · subst e
      exact stays l _ i hk (here c i (h i hi))
    · refine ih _ hl (fun j hj => before c j k (fun e => hk (e ▸ hj)) (h j (by simp [hj]))) i ?_
      exact (List.mem_cons.1 hi).resolve_left e

theorem eachJob_eq_foldl (f : Ctl → CardNo → Ctl) (c : Ctl) : eachJob f c = (List.finRange 8).foldl f c := rfl

theorem eachJob_each {f : Ctl → CardNo → Ctl} {A B : Ctl → CardNo → Prop} {c : Ctl} (start : ∀ m, A c m)
    (here : ∀ c m, A c m → B (f c m) m) (before : ∀ c m k, m ≠ k → A c m → A (f c k) m)
    (after : ∀ c m k, m ≠ k → B c m → B (f c k) m) (m : CardNo) : B (eachJob f c) m := by
  rw [eachJob_eq_foldl]
  exact foldl_each here before after _ c (List.nodup_finRange 8) (fun i _ => start i) m (List.mem_finRange m)

theorem eachJob_keeps {P : Ctl → Prop} {f : Ctl → CardNo → Ctl} {c : Ctl} (h : P c) (step : ∀ c m, P c → P (f c m)) :
    P (eachJob f c) := step _ _ (step _ _ (step _ _ (step _ _ (step _ _ (step _ _ (step _ _ (step _ _ h)))))))

theorem Ctl.settleAll_drives (c : Ctl) : (eachJob Ctl.settle c).drives = c.drives :=
  eachJob_keeps (P := fun t => t.drives = c.drives) rfl fun t m h => (Ctl.settle_drives t m).trans h

/-- What becomes of each job when all settle. -/
theorem Ctl.settleAll_job (c : Ctl) (m : CardNo) :
    (c.job m).SettledFrom ((eachJob Ctl.settle c).job m)
      ∧ (((eachJob Ctl.settle c).job m).state = .ended → (c.job m).state = .running ∨ (c.job m).state = .held →
          (c.job m).closed = true ∧ (eachJob Ctl.settle c).sourceCount m = 0) := by
  refine eachJob_each (f := Ctl.settle) (A := fun t m => t.job m = c.job m)
    (B := fun t m => (c.job m).SettledFrom (t.job m)
      ∧ ((t.job m).state = .ended → (c.job m).state = .running ∨ (c.job m).state = .held →
          (c.job m).closed = true ∧ t.sourceCount m = 0))
    (fun _ => rfl) (fun t m e => ?_) (fun t m k hk e => ?_) (fun t m k hk h => ?_) m
  · rw [← e]
    refine ⟨(t.settle_job m).1, fun ended hs => ?_⟩
    have job := (Ctl.settle_runningOrHeld hs).job
    split at job
    · next h => exact ⟨h.1, h.2.2⟩
    · rw [job] at ended
      rw [ended] at hs
      simp at hs
  · exact ((t.settle_job k).2.1 m hk).1.trans e
  · obtain ⟨settled, count⟩ := h
    have same := ((t.settle_job k).2.1 m hk).1
    rw [same]
    refine ⟨settled, fun ended hs => ?_⟩
    obtain ⟨closed, none'⟩ := count ended hs
    exact ⟨closed, Ctl.settle_sourceCount hk (by rw [ended]; decide) none'⟩

end

/-! ## A drive becomes READY: its jobs (R15, R16) -/

/-- The job record after the drive of d has come back (R15, R16). -/
def Job.driveBack (j : Job) (d : DriveNo) : Job :=
  if j.driveRelease = .host then { j with holds := j.holds.setDest d (some .ready) }
  else if j.state = .held ∧ (j.holds.setDest d none).isEmpty = true then
    { j with holds := j.holds.setDest d none, state := .running, lastRelease := .destGone d }
  else { j with holds := j.holds.setDest d none }

/-- A release leaves the state, or a HELD job runs; whether the job is closed stays. -/
theorem Job.driveBack_fields (j : Job) (d : DriveNo) :
    ((j.driveBack d).state = j.state ∨ j.state = .held ∧ (j.driveBack d).state = .running)
      ∧ (j.driveBack d).closed = j.closed ∧ (j.driveBack d).verify = j.verify := by
  unfold Job.driveBack
  split
  · exact ⟨.inl rfl, rfl, rfl⟩
  · split
    · next h => exact ⟨.inr ⟨h.1, rfl⟩, rfl, rfl⟩
    · exact ⟨.inl rfl, rfl, rfl⟩

section
variable {c : Ctl} {d : DriveNo} {m n : CardNo}

theorem Ctl.driveMatches_iff :
    c.driveMatches d m = true ↔ (c.job m).state ≠ .free ∧ (c.job m).state ≠ .ended
      ∧ (c.job m).holds.destGone[d] ≠ none
      ∧ (((c.job m).dests.find? fun e => e.port == d).any fun e => e.serial == (c.drive d).serial) = true := by
  simp only [Ctl.driveMatches, Bool.and_eq_true, Job.isActive_iff, Option.isSome_iff_ne_none, Job.dest?, and_assoc]

/-- What becomes of one job as drive d returns. -/
def Ctl.jobBack (c : Ctl) (d : DriveNo) (m : CardNo) : Job :=
  if c.driveMatches d m = true then (c.job m).driveBack d else c.job m

/-- The job unit's act for one job touches that job alone. -/
theorem Ctl.driveReturnedFor_eq (c : Ctl) (d : DriveNo) (n : CardNo) :
    Ctl.driveReturnedFor d c n = c ∧ c.jobBack d n = c.job n
      ∨ ∃ g, Ctl.driveReturnedFor d c n = c.updJob n g ∧ g (c.job n) = c.jobBack d n := by
  by_cases h : c.driveMatches d n = true
  · refine .inr ?_
    rw [Ctl.jobBack, if_pos h]
    cases hr : (c.job n).driveRelease with
    | auto =>
      refine ⟨fun j => ({ j with holds := j.holds.setDest d none }).releaseIfEmpty (.destGone d), ?_, ?_⟩
      · simp [Ctl.driveReturnedFor, h, hr]
      · simp [Job.driveBack, hr, Job.releaseIfEmpty]
    | host =>
      refine ⟨fun j => { j with holds := j.holds.setDest d (some .ready) }, ?_, ?_⟩
      · simp [Ctl.driveReturnedFor, h, hr]
      · simp [Job.driveBack, hr]
  · exact .inl ⟨by simp [Ctl.driveReturnedFor, h], if_neg h⟩

/-- Files, slabs, drives and the fill counter are the same. -/
def Ctl.SameWork (c t : Ctl) : Prop :=
  t.files = c.files ∧ t.slabs = c.slabs ∧ t.drives = c.drives ∧ t.fillSeq = c.fillSeq

theorem Ctl.driveReturnedFor_job (c : Ctl) (d : DriveNo) (n : CardNo) :
    (Ctl.driveReturnedFor d c n).job n = c.jobBack d n
      ∧ (∀ m, m ≠ n → (Ctl.driveReturnedFor d c n).job m = c.job m) ∧ c.SameWork (Ctl.driveReturnedFor d c n) := by
  obtain ⟨e, h⟩ | ⟨g, e, h⟩ := c.driveReturnedFor_eq d n
  · rw [e]
    exact ⟨h.symm, fun _ _ => rfl, rfl, rfl, rfl, rfl⟩
  · rw [e, Ctl.updJob_job]
    exact ⟨h, fun m hm => Ctl.updJob_job_ne c g hm, by simp [Ctl.SameWork]⟩

theorem Ctl.jobBack_congr {t : Ctl} (hj : t.job m = c.job m) (hd : t.drives = c.drives) : t.jobBack d m = c.jobBack d m := by
  have same : t.driveMatches d m = c.driveMatches d m := by
    simp only [Ctl.driveMatches, hj, Ctl.drive_of_drives hd]
  rw [Ctl.jobBack, Ctl.jobBack, same, hj]

/-- The jobs as the return of drive d leaves them. -/
def Ctl.jobsBack (c : Ctl) (d : DriveNo) : Ctl := eachJob (Ctl.driveReturnedFor d) c

theorem Ctl.jobsBack_spec (c : Ctl) (d : DriveNo) :
    (∀ m, (c.jobsBack d).job m = c.jobBack d m) ∧ c.SameWork (c.jobsBack d) := by
  refine ⟨fun m => ?_, ?_⟩
  · refine (eachJob_each (f := Ctl.driveReturnedFor d) (A := fun t m => t.job m = c.job m ∧ t.drives = c.drives)
      (B := fun t m => t.job m = c.jobBack d m ∧ t.drives = c.drives) (fun _ => ⟨rfl, rfl⟩) (fun t m h => ?_)
      (fun t m k hk h => ?_) (fun t m k hk h => ?_) m).1
    · obtain ⟨job, -, -, -, drives, -⟩ := t.driveReturnedFor_job d m
      exact ⟨job.trans (Ctl.jobBack_congr h.1 h.2), drives.trans h.2⟩
    · obtain ⟨-, job, -, -, drives, -⟩ := t.driveReturnedFor_job d k
      exact ⟨(job m hk).trans h.1, drives.trans h.2⟩
    · obtain ⟨-, job, -, -, drives, -⟩ := t.driveReturnedFor_job d k
      exact ⟨(job m hk).trans h.1, drives.trans h.2⟩
  · refine eachJob_keeps (P := fun t => c.SameWork t) ⟨rfl, rfl, rfl, rfl⟩ fun t m ⟨h1, h2, h3, h4⟩ => ?_
    obtain ⟨-, -, g1, g2, g3, g4⟩ := t.driveReturnedFor_job d m
    exact ⟨g1.trans h1, g2.trans h2, g3.trans h3, g4.trans h4⟩

end

/-! ## Its entries in fill order (R64, R151) -/

section
variable {c t : Ctl}

theorem Ctl.mem_sortByAge {x : SlabNo} {l : List SlabNo} : x ∈ c.sortByAge l ↔ x ∈ l := by
  induction l with
  | nil => rfl
  | cons y l ih => rw [Ctl.sortByAge, Ctl.mem_insertByAge, ih, List.mem_cons]

theorem Ctl.insertByAge_pairwise {x : SlabNo} {l : List SlabNo} (h : l.Pairwise fun y z => c.age z ≤ c.age y) :
    (c.insertByAge x l).Pairwise fun y z => c.age z ≤ c.age y := by
  obtain ⟨pre, post, rfl, e, older, younger⟩ := c.insertByAge_place x l
  obtain ⟨hpre, hpost, across⟩ := List.pairwise_append.1 h
  have behind : ∀ y ∈ post, c.age y ≤ c.age x := by
    cases post with
    | nil => simp
    | cons z post =>
      have head := younger z rfl
      intro y hy
      obtain rfl | hy := List.mem_cons.1 hy
      · exact head.le
      · exact ((List.pairwise_cons.1 hpost).1 y hy).trans head.le
  rw [e]
  refine List.pairwise_append.2 ⟨hpre, List.pairwise_cons.2 ⟨behind, hpost⟩, fun y hy z hz => ?_⟩
  obtain rfl | hz := List.mem_cons.1 hz
  · exact older y hy
  · exact across y hy z hz

theorem Ctl.sortByAge_pairwise (c : Ctl) (l : List SlabNo) : (c.sortByAge l).Pairwise fun y z => c.age z ≤ c.age y := by
  induction l with
  | nil => exact .nil
  | cons x l ih => exact Ctl.insertByAge_pairwise ih

/-! ### The purge of slabs whose files have retired (R78) -/

theorem Ctl.testRelease_core (c : Ctl) (x : SlabNo) (m : CardNo) : ((c.testRelease x).job m).core = (c.job m).core := by
  obtain ⟨n, -, -, e⟩ | e := c.testRelease_cases x
  · obtain ⟨xs, k, w, l, q, e', -⟩ := c.releaseCounted_eq n x
    rw [e, e']
    show ((c.modJob n fun j => { j with released := (j.released + 1) % 2 ^ 32 }).job m).core = _
    rw [Ctl.modJob_job_ite]
    split
    · next h => rw [h]; rfl
    · rfl
  · rw [e]

theorem Ctl.testReleases_core (l : List SlabNo) (c : Ctl) (m : CardNo) :
    ((c.testReleases l).job m).core = (c.job m).core := by
  induction l generalizing c with
  | nil => rfl
  | cons x l ih => exact (ih _).trans (c.testRelease_core x m)

theorem Ctl.purgeDest_core (c : Ctl) (d : DriveNo) (l : List SlabNo) (m : CardNo) :
    ((c.purgeDest d l).job m).core = (c.job m).core := by
  rw [Ctl.purgeDest, Ctl.testReleases_core, Ctl.job_of_jobs (Ctl.leavePending_foldl_jobs ..)]

/-- The slabs outside a purge stay. -/
theorem Ctl.purgeDest_slab (c : Ctl) (d : DriveNo) (l : List SlabNo) {x : SlabNo} (hx : x ∉ l) :
    (c.purgeDest d l).slab x = c.slab x := by
  have left (l : List SlabNo) : ∀ c : Ctl, x ∉ l → (l.foldl (fun c x => c.leavePending d x) c).slab x = c.slab x := by
    induction l with
    | nil => exact fun _ _ => rfl
    | cons y l ih =>
      intro c hx
      obtain ⟨hy, hl⟩ := not_or.1 (mt List.mem_cons.2 hx)
      exact (ih _ hl).trans (by rw [Ctl.leavePending_slab, if_neg hy])
  have tested (l : List SlabNo) : ∀ c : Ctl, x ∉ l → (c.testReleases l).slab x = c.slab x := by
    induction l with
    | nil => exact fun _ _ => rfl
    | cons y l ih =>
      intro c hx
      obtain ⟨hy, hl⟩ := not_or.1 (mt List.mem_cons.2 hx)
      exact (ih _ hl).trans ((c.testRelease_slab y x).resolve_right fun h => hy h.1)
  exact (tested l _ hx).trans (left l c hx)

end

end Sys2Proof.Machine

namespace Sys2Proof.Machine

/-! ## Entries a port keeps while it takes work -/

section
variable {r c t : Ctl} {d : DriveNo} {x : SlabNo}

theorem Slab.KeptBut.trans {s s' s'' : Slab} (h : s.KeptBut s') (g : s'.KeptBut s'') : s.KeptBut s'' := by
  refine ⟨?_, fun e he => g.2 e (h.2 e he)⟩
  rw [g.1, h.1]

theorem Ctl.writeTxn_congr (hf : t.files = c.files) (hs : (c.slab x).KeptBut (t.slab x)) (b : Nat) :
    t.writeTxn d x b = c.writeTxn d x b := by
  obtain ⟨-, -, -, file, offset, len, -⟩ := hs.fields
  have files : t.file? = c.file? := funext (Ctl.file_of_files hf)
  simp only [Ctl.writeTxn, file, offset, len, files]

/-- Port d holds the write entry of slab x, as r has the slab: it waits, is staged, or is being written from its first
block. Over an IDLE link nothing is staged or being written. -/
structure Ctl.HasEntry (r : Ctl) (d : DriveNo) (x : SlabNo) (t : Ctl) : Prop where
  files : t.files = r.files
  slab : (r.slab x).KeptBut (t.slab x)
  held : x ∈ (t.drive d).writeQueue ∨ (∃ y, (t.drive d).staged = some y ∧ y.slab = x)
    ∨ ∃ w, (t.drive d).writing = some w ∧ w.slab = x ∧ w.next = (r.slab x).offset / 512
  idle : (t.drive d).link.isIdle = true → (t.drive d).writing = none ∧ (t.drive d).staged = none

theorem Ctl.HasEntry.portStep (h : r.HasEntry d x c) (filled : (r.slab x).state = .filled)
    (can : (r.writeTxn d x ((r.slab x).offset / 512)).isSome = true) (hs : c.PortStep d t) : r.HasEntry d x t := by
  have eff := hs.effect
  have slab : (c.slab x).KeptBut (t.slab x) := by
    refine (hs.slab x).resolve_right ?_
    rintro ⟨-, free, -⟩
    rw [h.slab.fields.2.1, filled] at free
    cases free
  refine ⟨hs.workOnly.same.2.1.trans h.files, h.slab.trans slab, ?_, fun idle => ?_⟩
  · have kept : ∀ w, (c.drive d).writing = some w → (t.drive d).writing = some w := fun w hw => by
      cases hl : (c.drive d).link.isIdle with
      | true => rw [(h.idle hl).1] at hw; cases hw
      | false => rw [(eff.busy hl).2.1]; exact hw
    have stays : ∀ g, (c.drive d).staged = some g → (t.drive d).staged = some g := fun g hg => by
      cases hl : (c.drive d).link.isIdle with
      | true => rw [(h.idle hl).2] at hg; cases hg
      | false => exact (eff.busy hl).2.2 g hg
    obtain waits | ⟨g, hg, e⟩ | ⟨w, hw, e⟩ := h.held
    · obtain same | ⟨y, -, -, left, taken⟩ := eff.entries
      · exact .inl (same ▸ waits)
      · by_cases hy : x = y
        · subst hy
          have offset : firstBlock (c.slab x).offset = (r.slab x).offset / 512 := by rw [h.slab.fields.2.2.2.2.1]; rfl
          have txn := Ctl.writeTxn_congr (d := d) h.files h.slab ((r.slab x).offset / 512)
          rw [offset, txn] at taken
          obtain staged | writing := taken can
          · exact .inr (.inl staged)
          · exact .inr (.inr ⟨_, writing, rfl, rfl⟩)
        · rw [left]
          exact .inl ((List.mem_erase_of_ne hy).2 waits)
    · exact .inr (.inl ⟨g, stays g hg, e⟩)
    · exact .inr (.inr ⟨w, kept w hw, e⟩)
  · have before : (c.drive d).link.isIdle = true := by
      by_contra hl
      rw [Bool.not_eq_true] at hl
      rw [(eff.busy hl).1, hl] at idle
      cases idle
    obtain ⟨writing, staged⟩ := eff.idle idle
    obtain ⟨none1, none2⟩ := h.idle before
    refine ⟨writing.trans none1, Option.eq_none_iff_forall_ne_some.2 fun g hg => ?_⟩
    have := staged g hg
    rw [none2] at this
    cases this

/-- Port d is to read file q back from its start: the file waits, or the context is at its offset 0. -/
def Ctl.HasVerify (q : FileRef) (d : DriveNo) (t : Ctl) : Prop :=
  q ∈ (t.drive d).verifyQueue ∨ (t.drive d).context.map Context.place = some (q, 0)

theorem Ctl.HasVerify.portStep {q : FileRef} (h : c.HasVerify q d) (hs : c.PortStep d t) : t.HasVerify q d := by
  obtain ⟨queue, place⟩ | ⟨p, -, none', -, left, taken⟩ := hs.effect.verifies
  · exact h.imp (fun h => queue ▸ h) fun h => place ▸ h
  · obtain waits | reads := h
    · by_cases hp : q = p
      · subst hp
        exact .inr (by rw [taken]; rfl)
      · rw [Ctl.HasVerify, left]
        exact .inl ((List.mem_erase_of_ne hp).2 waits)
    · rw [none'] at reads
      cases reads

/-- What a pump keeps of the queues: they only lose entries. -/
theorem Ctl.pump_queues (c : Ctl) (d : DriveNo) :
    ((c.pump d).drive d).writeQueue.Sublist (c.drive d).writeQueue
      ∧ ((c.pump d).drive d).verifyQueue.Sublist (c.drive d).verifyQueue :=
  Ctl.pump_induction (P := fun t => (t.drive d).writeQueue.Sublist (c.drive d).writeQueue
      ∧ (t.drive d).verifyQueue.Sublist (c.drive d).verifyQueue) ⟨.refl _, .refl _⟩ fun _ _ ha hs =>
    ⟨hs.effect.writeQueue_sublist.trans ha.1, hs.effect.verifyQueue_sublist.trans ha.2⟩

end

/-! ## A drive becomes READY: its work (R151, R138) -/

/-- A drive port that holds no work, over an IDLE link. -/
structure DrivePort.AtRest (p : DrivePort) : Prop where
  writeQueue : p.writeQueue = []
  verifyQueue : p.verifyQueue = []
  writing : p.writing = none
  staged : p.staged = none
  context : p.context = none
  idle : p.link.isIdle = true

section
variable {u : Ctl} {d : DriveNo} {m : CardNo} {x : SlabNo}

/-- The jobs to which the return of d speaks. -/
def Ctl.backJobs (u : Ctl) (d : DriveNo) : List CardNo := (List.finRange 8).filter fun n => u.driveMatches d n

/-- The write entries placed. -/
def Ctl.writesBack (u : Ctl) (d : DriveNo) : Ctl := (u.jobsBack d).requeueWrites d (u.backJobs d)

/-- The first write chosen. -/
def Ctl.writeChosen (u : Ctl) (d : DriveNo) : Ctl := (u.writesBack d).choose d

/-- The verify entries placed. -/
def Ctl.verifiesBack (u : Ctl) (d : DriveNo) : Ctl := (u.writeChosen d).requeueVerifies d (u.backJobs d)

/-- The job has its work at d back: the return speaks to it, and it is not STOPPING (R151). -/
def Ctl.AtWork (u : Ctl) (d : DriveNo) (m : CardNo) : Prop := u.driveMatches d m = true ∧ (u.job m).state ≠ .stopping

theorem Ctl.jobBack_fields (u : Ctl) (d : DriveNo) (m : CardNo) :
    ((u.jobBack d m).state = (u.job m).state ∨ (u.job m).state = .held ∧ (u.jobBack d m).state = .running)
      ∧ (u.jobBack d m).closed = (u.job m).closed ∧ (u.jobBack d m).verify = (u.job m).verify := by
  unfold Ctl.jobBack
  split
  · exact Job.driveBack_fields _ d
  · exact ⟨.inl rfl, rfl, rfl⟩

theorem Ctl.jobBack_stopping : (u.jobBack d m).state = .stopping ↔ (u.job m).state = .stopping := by
  obtain e | ⟨h, e⟩ := (u.jobBack_fields d m).1 <;> simp [*]

theorem Ctl.mem_backJobs : m ∈ u.backJobs d ↔ u.driveMatches d m = true := by simp [Ctl.backJobs]

/-! ### The write entries -/

/-- Slab x owes drive d a write for a job that has its work back, and its file has not retired. -/
def Ctl.OwesAtWork (u : Ctl) (d : DriveNo) (x : SlabNo) : Prop :=
  (∃ m, u.AtWork d m ∧ (u.slab x).isFilledOf m = true) ∧ (u.slab x).pendingWrites[d] = true ∧ u.fileGone x = false

/-- The slabs that owe d a write for such a job. -/
def Ctl.owedSlabs (u : Ctl) (d : DriveNo) : List SlabNo :=
  (u.jobsBack d).slabsWhere fun s =>
    ((u.backJobs d).filter fun n => ((u.jobsBack d).job n).state != .stopping).any (fun n => s.isFilledOf n)
      && s.pendingWrites[d]

/-- Those whose file has not retired, in fill order. -/
def Ctl.entriesBack (u : Ctl) (d : DriveNo) : List SlabNo :=
  (u.jobsBack d).sortByAge ((u.owedSlabs d).filter fun x => !(u.jobsBack d).fileGone x)

theorem Ctl.writesBack_eq (u : Ctl) (d : DriveNo) :
    u.writesBack d = ((u.jobsBack d).modDrive d fun p => { p with writeQueue := p.writeQueue ++ u.entriesBack d }).purgeDest
      d ((u.owedSlabs d).filter (u.jobsBack d).fileGone) := rfl

theorem Ctl.jobsBack_slab (u : Ctl) (d : DriveNo) (x : SlabNo) : (u.jobsBack d).slab x = u.slab x :=
  Ctl.slab_of_slabs (u.jobsBack_spec d).2.2.1 x

theorem Ctl.jobsBack_fileGone (u : Ctl) (d : DriveNo) (x : SlabNo) : (u.jobsBack d).fileGone x = u.fileGone x := by
  have file : (u.jobsBack d).file? = u.file? := funext (Ctl.file_of_files (u.jobsBack_spec d).2.1)
  simp only [Ctl.fileGone, Ctl.jobsBack_slab, file]

theorem Ctl.mem_owedSlabs :
    x ∈ u.owedSlabs d ↔ (∃ m, u.AtWork d m ∧ (u.slab x).isFilledOf m = true) ∧ (u.slab x).pendingWrites[d] = true := by
  have jobs (m : CardNo) : (u.jobsBack d).job m = u.jobBack d m := (u.jobsBack_spec d).1 m
  simp only [Ctl.owedSlabs, Ctl.mem_slabsWhere, Ctl.jobsBack_slab, Bool.and_eq_true, List.any_eq_true, List.mem_filter,
    Ctl.mem_backJobs, jobs, bne_iff_ne, ne_eq, Ctl.jobBack_stopping, Ctl.AtWork]

theorem Ctl.mem_entriesBack : x ∈ u.entriesBack d ↔ u.OwesAtWork d x := by
  rw [Ctl.entriesBack, Ctl.mem_sortByAge, List.mem_filter, Ctl.mem_owedSlabs, Ctl.jobsBack_fileGone, Bool.not_eq_true',
    Ctl.OwesAtWork, and_assoc]

theorem Ctl.entriesBack_pairwise (u : Ctl) (d : DriveNo) : (u.entriesBack d).Pairwise fun x y => u.age y ≤ u.age x := by
  have age (x : SlabNo) : (u.jobsBack d).age x = u.age x :=
    Ctl.age_congr (u.jobsBack_spec d).2.2.2.2 (u.jobsBack_slab d x)
  have sorted := (u.jobsBack d).sortByAge_pairwise ((u.owedSlabs d).filter fun x => !(u.jobsBack d).fileGone x)
  simp only [age] at sorted
  exact sorted

theorem Ctl.writesBack_drive (u : Ctl) (d : DriveNo) :
    (u.writesBack d).drive d = { u.drive d with writeQueue := (u.drive d).writeQueue ++ u.entriesBack d } := by
  rw [Ctl.writesBack_eq, Ctl.drive_of_drives (Ctl.purgeDest_drives ..), Ctl.modDrive_drive,
    Ctl.drive_of_drives (u.jobsBack_spec d).2.2.2.1]

/-- A slab whose entry is placed stays. -/
theorem Ctl.writesBack_slab (h : u.OwesAtWork d x) : (u.writesBack d).slab x = u.slab x := by
  rw [Ctl.writesBack_eq, Ctl.purgeDest_slab, Ctl.modDrive_slab, Ctl.jobsBack_slab]
  intro hx
  have := (List.mem_filter.1 hx).2
  rw [Ctl.jobsBack_fileGone, h.2.2] at this
  cases this

theorem Ctl.writesBack_same (u : Ctl) (d : DriveNo) :
    (∀ m, ((u.writesBack d).job m).core = (u.jobBack d m).core) ∧ (u.writesBack d).files = u.files := by
  obtain ⟨jobs, files, -⟩ := u.jobsBack_spec d
  refine ⟨fun m => ?_, ?_⟩
  · rw [Ctl.writesBack_eq, Ctl.purgeDest_core, Ctl.modDrive_job, jobs]
  · rw [Ctl.writesBack_eq, Ctl.purgeDest_files, Ctl.modDrive_files, files]

/-- The placing of the write entries leaves the rest of the port at rest. -/
theorem Ctl.writesBack_hasEntry (h : (u.drive d).AtRest) (hx : u.OwesAtWork d x) : u.HasEntry d x (u.writesBack d) := by
  refine ⟨(u.writesBack_same d).2, ?_, .inl ?_, fun _ => ?_⟩
  · rw [Ctl.writesBack_slab hx]
    exact .refl _
  · rw [Ctl.writesBack_drive]
    exact List.mem_append_right _ (Ctl.mem_entriesBack.2 hx)
  · rw [Ctl.writesBack_drive]
    exact ⟨h.writing, h.staged⟩

/-! ### The verify entries -/

/-- The choice of the first write leaves jobs and files, takes at most from the write queue, and no verify entry. -/
theorem Ctl.writeChosen_spec (h : (u.drive d).AtRest) :
    (∀ m, ((u.writeChosen d).job m).core = (u.jobBack d m).core) ∧ (u.writeChosen d).files = u.files
      ∧ ((u.writeChosen d).drive d).writeQueue.Sublist (u.entriesBack d)
      ∧ ((u.writeChosen d).drive d).verifyQueue = [] := by
  obtain ⟨core, files⟩ := u.writesBack_same d
  have queue : ((u.writesBack d).drive d).verifyQueue = [] := by rw [Ctl.writesBack_drive]; exact h.verifyQueue
  have entries : ((u.writesBack d).drive d).writeQueue = u.entriesBack d := by
    rw [Ctl.writesBack_drive, h.writeQueue, List.nil_append]
  unfold Ctl.writeChosen
  obtain e | step := (u.writesBack d).choose_step d
  · rw [e]
    exact ⟨core, files, by rw [entries], queue⟩
  · obtain ⟨jobs', files', -⟩ := step.workOnly.same
    refine ⟨fun m => ?_, files'.trans files, entries ▸ step.effect.writeQueue_sublist, ?_⟩
    · rw [Ctl.job_of_jobs jobs']
      exact core m
    · have sub := step.effect.verifyQueue_sublist
      rw [queue] at sub
      exact List.sublist_nil.1 sub

theorem Ctl.verifiesBack_eq (u : Ctl) (d : DriveNo) :
    ∃ q, u.verifiesBack d = (u.writeChosen d).modDrive d fun p => { p with verifyQueue := p.verifyQueue ++ q } := ⟨_, rfl⟩

/-- The jobs whose verify entries are placed, and the entries: in job and file order. -/
theorem Ctl.verifiesBack_spec (h : (u.drive d).AtRest) :
    ∃ ms : List CardNo, ms.Pairwise (· < ·) ∧ (∀ m, m ∈ ms ↔ u.AtWork d m ∧ (u.job m).verify = .readback)
      ∧ (u.verifiesBack d).drive d = { (u.writeChosen d).drive d with
          verifyQueue := ms.flatMap fun m => ((u.queue m).filter fun g => g.resultOn d == some .written).map (·.ref) } := by
  obtain ⟨core, files, -, queue⟩ := Ctl.writeChosen_spec h
  refine ⟨(u.backJobs d).filter fun n =>
    ((u.writeChosen d).job n).state != .stopping && ((u.writeChosen d).job n).verify == .readback, ?_, fun m => ?_, ?_⟩
  · exact ((List.pairwise_lt_finRange 8).filter _).filter _
  · obtain ⟨state, -, -, -, -, -, -, -, verify, -⟩ := Job.core_fields (core m)
    simp only [List.mem_filter, Ctl.mem_backJobs, Bool.and_eq_true, bne_iff_ne, ne_eq, beq_iff_eq, state, verify,
      Ctl.jobBack_stopping, (u.jobBack_fields d m).2.2, Ctl.AtWork, and_assoc]
  · simp only [Ctl.verifiesBack, Ctl.requeueVerifies, Ctl.modDrive_drive, queue, List.nil_append, Ctl.queue_of_files files]

theorem Ctl.verifiesBack_hasVerify (h : (u.drive d).AtRest) {g : FileRec} (ha : u.AtWork d m)
    (hv : (u.job m).verify = .readback) (hg : g ∈ u.queue m) (hw : g.resultOn d = some .written) :
    (u.verifiesBack d).HasVerify g.ref d := by
  obtain ⟨ms, -, mem, drive⟩ := Ctl.verifiesBack_spec h
  refine .inl ?_
  rw [drive]
  exact List.mem_flatMap.2 ⟨m, (mem m).2 ⟨ha, hv⟩, List.mem_map_of_mem (List.mem_filter.2 ⟨hg, by simp [hw]⟩)⟩

/-- A write entry that was placed is still there when the verify entries are. -/
theorem Ctl.verifiesBack_hasEntry (h : (u.drive d).AtRest) (hx : u.OwesAtWork d x) (filled : (u.slab x).state = .filled)
    (can : (u.writeTxn d x ((u.slab x).offset / 512)).isSome = true) : u.HasEntry d x (u.verifiesBack d) := by
  have chosen : u.HasEntry d x (u.writeChosen d) := by
    have placed := Ctl.writesBack_hasEntry h hx
    unfold Ctl.writeChosen
    obtain e | step := (u.writesBack d).choose_step d
    · rw [e]
      exact placed
    · exact placed.portStep filled can step
  obtain ⟨files, slab, held, idle⟩ := chosen
  obtain ⟨q, e⟩ := u.verifiesBack_eq d
  rw [e]
  refine ⟨?_, ?_, ?_, ?_⟩
  · rw [Ctl.modDrive_files]
    exact files
  · rw [Ctl.modDrive_slab]
    exact slab
  · simpa only [Ctl.modDrive_drive] using held
  · simpa only [Ctl.modDrive_drive] using idle

/-- Each write entry that was placed is there once the port has taken work. -/
theorem Ctl.workBack_hasEntry (h : (u.drive d).AtRest) (hx : u.OwesAtWork d x) (filled : (u.slab x).state = .filled)
    (can : (u.writeTxn d x ((u.slab x).offset / 512)).isSome = true) : u.HasEntry d x ((u.verifiesBack d).pump d) :=
  Ctl.pump_induction (P := fun t => u.HasEntry d x t) (Ctl.verifiesBack_hasEntry h hx filled can) fun _ _ held step =>
    held.portStep filled can step

/-- So is each verify entry. -/
theorem Ctl.workBack_hasVerify (h : (u.drive d).AtRest) {g : FileRec} (ha : u.AtWork d m)
    (hv : (u.job m).verify = .readback) (hg : g ∈ u.queue m) (hw : g.resultOn d = some .written) :
    ((u.verifiesBack d).pump d).HasVerify g.ref d :=
  Ctl.pump_induction (P := fun t => t.HasVerify g.ref d) (Ctl.verifiesBack_hasVerify h ha hv hg hw) fun _ _ held step =>
    held.portStep step

/-- The port's write entries, its verify entries, and the jobs once the port has taken work. -/
theorem Ctl.workBack_spec (h : (u.drive d).AtRest) :
    let t := (u.verifiesBack d).pump d
    (∀ m, (t.job m).core = (u.jobBack d m).core)
      ∧ (t.drive d).writeQueue.Sublist (u.entriesBack d)
      ∧ ∃ ms : List CardNo, ms.Pairwise (· < ·) ∧ (∀ m, m ∈ ms ↔ u.AtWork d m ∧ (u.job m).verify = .readback)
          ∧ (t.drive d).verifyQueue.Sublist
              (ms.flatMap fun m => ((u.queue m).filter fun g => g.resultOn d == some .written).map (·.ref)) := by
  intro t
  obtain ⟨core, -, chosen, -⟩ := Ctl.writeChosen_spec h
  obtain ⟨ms, ascending, jobs, placed⟩ := Ctl.verifiesBack_spec h
  obtain ⟨writes, verifies⟩ := (u.verifiesBack d).pump_queues d
  have pumped (m : CardNo) : t.job m = (u.verifiesBack d).job m :=
    Ctl.job_of_jobs ((u.verifiesBack d).pump_workOnly d).same.1 m
  obtain ⟨q, e⟩ := u.verifiesBack_eq d
  have queue : ((u.verifiesBack d).drive d).writeQueue = ((u.writeChosen d).drive d).writeQueue := by
    rw [e, Ctl.modDrive_drive]
  rw [queue] at writes
  rw [placed] at verifies
  refine ⟨fun m => ?_, writes.trans chosen, ms, ascending, jobs, verifies⟩
  rw [pumped, e, Ctl.modDrive_job]
  exact core m

end

/-! ## The end of the IDENTIFY (R137, R138) -/

/-- The port of an identified drive, over its link gone IDLE. -/
def Ctl.driveIdentifiedAs (c : Ctl) (d : DriveNo) (cap : Nat) (ser : Serial) : Ctl :=
  c.modDrive d fun p =>
    { p with
      link := (c.drive d).link.finish, state := .ready, attempts := 0, capacity := cap, serial := ser, loss := none }

theorem Ctl.driveIdentifiedAs_age (c : Ctl) (d : DriveNo) (cap : Nat) (ser : Serial) (x : SlabNo) :
    (c.driveIdentifiedAs d cap ser).age x = c.age x := rfl

theorem Ctl.endTxn_driveIdentify {c : Ctl} {d : DriveNo} {f : Flight} {cap : Nat} {ser : Serial} (hf : f.kind = .identify)
    (hc : 0 < cap) :
    c.endTxn (.drive d) f .good cap ser =
      eachJob Ctl.settle ((((c.driveIdentifiedAs d cap ser).verifiesBack d).pump d).notifyPort (.drive d)) := by
  have port : (c.setLink (.drive d) (c.link (.drive d)).finish).modDrive d (fun p =>
      { p with state := .ready, attempts := 0, capacity := cap, serial := ser, loss := none })
        = c.driveIdentifiedAs d cap ser := by
    simp only [Ctl.setLink, Ctl.modDrive_modDrive]
    rfl
  simp only [Ctl.endTxn, Ctl.driveTxnEnd, hf, Ctl.driveIdentified, hc, and_self, if_true, Ctl.driveReady, port]
  rfl

/-- The jobs once all have settled after the return of drive d. -/
theorem Ctl.settleAll_back {u a : Ctl} {d : DriveNo} (core : ∀ m, (a.job m).core = (u.jobBack d m).core) (m : CardNo) :
    let j := u.job m
    let t := eachJob Ctl.settle a
    let j' := t.job m
    let back := u.jobBack d m
    j'.lastRelease = back.lastRelease
      ∧ (j'.state = .ended ∨ j'.holds = back.holds
          ∧ (j'.state = back.state ∨ (j.state = .suspending ∧ j'.state = .suspended)))
      ∧ (j'.state = .ended → j.state = .ended ∨ j.state = .stopping
          ∨ ((j.state = .running ∨ j.state = .held) ∧ j.closed = true ∧ t.sourceCount m = 0)) := by
  intro j t j' back
  obtain ⟨settled, ends⟩ := a.settleAll_job m
  obtain ⟨last, -, now⟩ := settled.fields
  obtain ⟨state, -, holds, last', -, closed, -⟩ := Job.core_fields (core m)
  obtain ⟨moved, closed', -⟩ := u.jobBack_fields d m
  rw [state, holds] at now
  rw [state, closed, closed'] at ends
  have suspends (h : back.state = .suspending) : j.state = .suspending := by
    obtain e | ⟨-, e⟩ := moved
    · exact e.symm.trans h
    · rw [h] at e; cases e
  refine ⟨last.trans last', now.imp_right (And.imp_right (Or.imp_right (And.imp_left suspends))), fun ended => ?_⟩
  obtain ⟨r, -, ⟨run, -⟩ | ⟨stop, -⟩⟩ | ⟨-, core'⟩ | core' := settled
  · rw [state] at run
    refine .inr (.inr ⟨?_, ends ended run⟩)
    obtain e | ⟨e, -⟩ := moved
    · rwa [e] at run
    · exact .inr e
  · rw [state] at stop
    exact .inr (.inl (Ctl.jobBack_stopping.1 stop))
  · have := (Job.core_fields (j := { a.job m with state := .suspended }) core').1
    rw [ended] at this
    cases this
  · have := (Job.core_fields core').1
    rw [ended, state] at this
    obtain e | ⟨-, e⟩ := moved
    · exact .inl (e.symm.trans this.symm)
    · rw [e] at this; cases this

/-- Settles O52: the jobs and entries as the return places them, kept by what the port takes and by what settles; and the
pump, piece by piece. -/
theorem returnedDrivesTakeTheirWork : Obligations.ReturnedDrivesTakeTheirWork := by
  refine ⟨?_, fun c d h => Ctl.pump_not_ready h, ?_, ?_⟩
  · intro c d f cap ser hf hc hq hv hw hst hk t matching atWork
    have run : t = eachJob Ctl.settle
        ((((c.driveIdentifiedAs d cap ser).verifiesBack d).pump d).notifyPort (.drive d)) := Ctl.endTxn_driveIdentify hf hc
    have port : (c.driveIdentifiedAs d cap ser).drive d = { c.drive d with
        link := (c.drive d).link.finish, state := .ready, attempts := 0, capacity := cap, serial := ser, loss := none } :=
      Ctl.modDrive_drive ..
    have rest : ((c.driveIdentifiedAs d cap ser).drive d).AtRest := by
      rw [port]
      exact ⟨hq, hv, hw, hst, hk, rfl⟩
    have speaks (m : CardNo) : (c.driveIdentifiedAs d cap ser).driveMatches d m = true ↔ matching m := by
      rw [Ctl.driveMatches_iff, port]
      rfl
    have works (m : CardNo) : (c.driveIdentifiedAs d cap ser).AtWork d m ↔ atWork m := and_congr_left fun _ => speaks m
    obtain ⟨core, writes, ms, ascending, mem, verifies⟩ := Ctl.workBack_spec rest
    have drive : t.drive d = (((c.driveIdentifiedAs d cap ser).verifiesBack d).pump d).drive d := by
      rw [run, Ctl.drive_of_drives (Ctl.settleAll_drives _), Ctl.drive_of_drives (Ctl.notifyPort_drives ..)]
    rw [drive]
    refine ⟨fun m => ?_, fun m x g ha hx hp hg can => ?_, fun x hx => ?_, ?_, fun m g ha hr hg hres => ?_,
      ms, ascending, fun m hm => ?_, verifies⟩
    · intro j j' free released
      obtain ⟨last, now, ends⟩ := Ctl.settleAll_back (u := c.driveIdentifiedAs d cap ser) (d := d)
        (a := (((c.driveIdentifiedAs d cap ser).verifiesBack d).pump d).notifyPort (.drive d))
        (fun m => by rw [Ctl.job_of_jobs (Ctl.notifyPort_jobs ..)]; exact core m) m
      rw [← run] at last now ends
      refine ⟨fun h => ?_, fun h => ?_, ends⟩
      · rw [Ctl.jobBack, if_pos ((speaks m).2 h)] at last now
        exact ⟨last, now⟩
      · rw [Ctl.jobBack, if_neg (mt (speaks m).1 h)] at last now
        exact ⟨last, now.imp_right And.left⟩
    · have owes : (c.driveIdentifiedAs d cap ser).OwesAtWork d x := by
        refine ⟨⟨m, (works m).2 ha, hx⟩, hp, ?_⟩
        show ((c.slab x).file.bind c.file?).isNone = false
        rw [hg]
        rfl
      exact (Ctl.workBack_hasEntry rest owes (Slab.isFilledOf_iff.1 hx).2.2 can).held
    · obtain ⟨⟨m, ha, hx⟩, hp, -⟩ := Ctl.mem_entriesBack.1 (writes.subset hx)
      exact ⟨m, (works m).1 ha, hx, hp⟩
    · have sorted := (c.driveIdentifiedAs d cap ser).entriesBack_pairwise d
      simp only [Ctl.driveIdentifiedAs_age] at sorted
      exact sorted.sublist writes
    · refine (Ctl.workBack_hasVerify rest ((works m).2 ha) hr hg hres).imp_right fun h => ?_
      obtain ⟨k, hk', place⟩ := Option.map_eq_some_iff.1 h
      exact ⟨k, hk', congrArg Prod.fst place, congrArg Prod.snd place⟩
    · obtain ⟨ha, hr⟩ := (mem m).1 hm
      exact ⟨(works m).1 ha, hr⟩
  · intro c d pre post r hs hk hq hp hr taken
    exact Ctl.pump_takesVerify hs hk hq hp hr
  · intro c d p t q ready goesOn hs hk
    have run : t = (c.choose d).fillStage d := by rw [← Ctl.takeVerify_nothing hk]; rfl
    obtain ⟨link, failed, writing, context, queue, slabs⟩ := (c.choose d).fillStage_leaves d
    rw [← run] at link failed writing context queue slabs
    have slab := Ctl.slab_of_slabs slabs
    refine ⟨fun hl => ⟨fun g start count hg hw => ?_, fun hg => ⟨?_, fun hv => ⟨?_, ?_, ?_⟩⟩⟩, fun hf => ?_⟩
    · obtain ⟨e, flight⟩ := Ctl.choose_staged hs hl hg hw
      rw [e] at link failed writing
      exact ⟨link.trans (Link.issue_sent hl ..), failed, writing, fun h => by rw [slab]; exact flight h⟩
    · intro k f sp b e start count hv he ht
      obtain ⟨e, taken⟩ := Ctl.choose_readBack hs hl hg hv he ht
      rw [e] at link failed writing context
      exact ⟨link.trans (Link.issue_sent hl ..), failed, writing, context, fun h => by rw [slab]; exact taken h⟩
    · intro x b start count hn hw
      rw [Ctl.choose_next hs hl hg hv hn hw] at link failed writing
      exact ⟨link.trans (Link.issue_sent hl ..), failed, writing⟩
    · intro hn pre x post start count ho hw
      obtain ⟨e, flight⟩ := Ctl.choose_oldest hs hl hg hv hn ho hw
      rw [e] at link failed writing queue
      exact ⟨link.trans (Link.issue_sent hl ..), failed, writing, by rw [slab]; exact flight, queue⟩
    · exact fun hn ho => run.trans (Ctl.choose_nothing hs hg hv hn ho)
    · intro stages
      rw [Ctl.choose_current hf] at run
      refine ⟨fun h => run.trans (Ctl.fillStage_blocked hs h), fun hg hv => ⟨fun x b hn => ?_, fun hn pre x post ho => ?_,
        fun hn ho => run.trans (Ctl.fillStage_nothing hn ho)⟩⟩
      · exact run.trans (Ctl.fillStage_next hs hf hg hv hn)
      · exact run.trans (Ctl.fillStage_oldest hs hf hg hv hn ho)

end Sys2Proof.Machine

/-! # Proofs: files and the file queue (02)

What an event can make of the file table is said once, as runs of three changes: nothing that concerns files, records
changed under their names, the retirement of a COMPLETE head. Each operation of the part is such a run, and each command
starts one, after at most a change of its own. The statements on names, queues and FILE_DONE follow from the runs. -/

namespace Sys2Proof.Machine

/-! ## What an event makes of the file table -/

/-- What retirements change in a job record, with the verify mode that FILE_DONE is read under. -/
def Job.tally (j : Job) : Nat × Bool × VerifyMode := (j.retired, j.clean, j.verify)

/-- g is the file f later on: accepted with the same fields, and COMPLETE as f was if it was. -/
structure FileRec.Continues (f g : FileRec) : Prop where
  ref : g.ref = f.ref
  id : g.id = f.id
  len : g.len = f.len
  complete : ∀ o, f.state = .complete o → g.state = .complete o

theorem FileRec.Continues.refl (f : FileRec) : f.Continues f := ⟨rfl, rfl, rfl, fun _ h => h⟩

theorem FileRec.Continues.trans {f g h : FileRec} (hf : f.Continues g) (hg : g.Continues h) : f.Continues h :=
  ⟨hg.ref.trans hf.ref, hg.id.trans hf.id, hg.len.trans hf.len, fun o ho => hg.complete o (hf.complete o ho)⟩

/-- File f has retired with outcome o, and nothing has followed of it (R56, R57, R106). -/
def Ctl.retired (c : Ctl) (f : FileRec) (o : FileOutcome) : Ctl :=
  (({ c with files := c.files.filter (fun g => g.ref != f.ref), fileDoneTurn := f.ref.job } : Ctl).pushEntry
    { kind := .notice (.fileDone f.ref.job), tag := 0, payload := f.donePayload o (c.job f.ref.job).verify }).modJob
      f.ref.job fun j => { j with retired := (j.retired + 1) % 2 ^ 32, clean := j.clean && o == .good }

theorem Ctl.retire_eq (c : Ctl) (f : FileRec) (o : FileOutcome) :
    c.retire f o = eachDrive (Ctl.endEntries f.ref) (c.retired f o) := rfl

/-- One change, as far as files are concerned; `may` says whether the file table may change. -/
inductive Ctl.FileStep (may : Prop) (c : Ctl) : Ctl → Prop
  /-- Nothing that concerns files. -/
  | quiet {t : Ctl} (files : t.files = c.files) (next : t.nextFile = c.nextFile)
      (jobs : ∀ m, (t.job m).tally = (c.job m).tally) (turn : t.fileDoneTurn = c.fileDoneTurn)
      (outq : t.outq.filter OutEntry.isFileDone = c.outq.filter OutEntry.isFileDone) : c.FileStep may t
  /-- Records change, each a file's that goes on. -/
  | change (hm : may) (k : FileRec → FileRec) (ref : ∀ f, (k f).ref = f.ref)
      (same : (c.files.map (·.ref)).Nodup → ∀ f ∈ c.files, f.Continues (k f)) :
      c.FileStep may { c with files := c.files.map k }
  /-- A COMPLETE head retires. -/
  | retire (hm : may) {n : CardNo} {f : FileRec} {more : List FileRec} {o : FileOutcome} (hq : c.queue n = f :: more)
      (hs : f.state = .complete o) : c.FileStep may (c.retired f o)

/-- A run of such changes. -/
def Ctl.FileRun (may : Prop) : Ctl → Ctl → Prop := Relation.ReflTransGen (Ctl.FileStep may)

/-! ## Operations that leave the file table alone -/

namespace Ctl.FileRun

section
variable {may : Prop} {a c t : Ctl} {n : CardNo} {d : DriveNo} {x : SlabNo}

theorem refl (c : Ctl) : FileRun may c c := Relation.ReflTransGen.refl

theorem trans (h : FileRun may a c) (g : FileRun may c t) : FileRun may a t := Relation.ReflTransGen.trans h g

theorem step (h : FileRun may a c) (s : c.FileStep may t) : FileRun may a t := Relation.ReflTransGen.tail h s

theorem ite {p : Prop} [Decidable p] {u : Ctl} (ht : p → FileRun may a t) (hu : ¬p → FileRun may a u) :
    FileRun may a (if p then t else u) := by
  split
  · next h => exact ht h
  · next h => exact hu h

theorem foldl {α : Type} {f : Ctl → α → Ctl} (hf : ∀ c y, FileRun may a c → FileRun may a (f c y)) (l : List α)
    (h : FileRun may a c) : FileRun may a (l.foldl f c) := by
  induction l generalizing c with
  | nil => exact h
  | cons y l ih => exact ih (hf c y h)

theorem eachDrive {f : Ctl → DriveNo → Ctl} (hf : ∀ c d, FileRun may a c → FileRun may a (f c d))
    (h : FileRun may a c) : FileRun may a (Machine.eachDrive f c) := hf _ _ (hf _ _ (hf _ _ (hf _ _ h)))

theorem eachJob {f : Ctl → CardNo → Ctl} (hf : ∀ c n, FileRun may a c → FileRun may a (f c n))
    (h : FileRun may a c) : FileRun may a (Machine.eachJob f c) :=
  hf _ _ (hf _ _ (hf _ _ (hf _ _ (hf _ _ (hf _ _ (hf _ _ (hf _ _ h)))))))

/-! ### Single updates -/

/-- Only what files have nothing to do with differs. -/
theorem same (h : FileRun may a c) (files : t.files = c.files) (next : t.nextFile = c.nextFile) (jobs : t.jobs = c.jobs)
    (turn : t.fileDoneTurn = c.fileDoneTurn) (outq : t.outq = c.outq) : FileRun may a t :=
  h.step (.quiet files next (fun m => by rw [Ctl.job_of_jobs jobs]) turn (by rw [outq]))

theorem modCard {f : CardPort → CardPort} (h : FileRun may a c) : FileRun may a (c.modCard n f) :=
  h.same rfl rfl rfl rfl rfl

theorem modDrive {f : DrivePort → DrivePort} (h : FileRun may a c) : FileRun may a (c.modDrive d f) :=
  h.same rfl rfl rfl rfl rfl

theorem modSlab {f : Slab → Slab} (h : FileRun may a c) : FileRun may a (c.modSlab x f) := h.same rfl rfl rfl rfl rfl

theorem modDigest {f : Digest → Digest} (h : FileRun may a c) : FileRun may a (c.modDigest f) :=
  h.same rfl rfl rfl rfl rfl

theorem setWait {u : Option SlabUse} (h : FileRun may a c) : FileRun may a (c.setWait n u) := h.same rfl rfl rfl rfl rfl

theorem setFileDoneWaiting {w : Bool} (h : FileRun may a c) : FileRun may a (c.setFileDoneWaiting n w) :=
  h.same rfl rfl rfl rfl rfl

theorem setLink {p : PortId} {l : Link} (h : FileRun may a c) : FileRun may a (c.setLink p l) :=
  h.same (by simp) (by simp) (by simp) (by simp) (by simp)

/-- A change of a job record that leaves its tally. -/
theorem modJob {f : Job → Job} (h : FileRun may a c) (hf : ∀ j, (f j).tally = j.tally := by exact fun _ => rfl) :
    FileRun may a (c.modJob n f) := by
  refine h.step (.quiet rfl rfl (fun m => ?_) rfl rfl)
  rw [Ctl.modJob_job_ite]
  split
  · next e => rw [e, hf]
  · rfl

/-! ### Notices, lamps, marks, job records -/

/-- Coalescing a notice of another subject leaves every FILE_DONE. -/
theorem coalesce_fileDone (q : List OutEntry) {s : Subject} (p : List Byte) (hs : ∀ m, s ≠ .fileDone m) :
    (coalesce q s p).filter OutEntry.isFileDone = q.filter OutEntry.isFileDone := by
  have other (e : OutEntry) (he : e.kind = .notice s) : e.isFileDone = false := by
    unfold OutEntry.isFileDone
    split
    · next m hm => exact (hs m (EntryKind.notice.inj (he.symm.trans hm))).elim
    · rfl
  unfold coalesce
  split
  · rw [List.filter_map]
    have told : OutEntry.isFileDone ∘ (fun e => if e.kind = .notice s then { e with payload := p } else e) =
        OutEntry.isFileDone := by
      funext e
      simp only [Function.comp]
      split <;> rfl
    rw [told]
    conv_rhs => rw [← List.map_id (q.filter _)]
    refine List.map_congr_left fun e he => if_neg fun hk => ?_
    have done := (List.mem_filter.1 he).2
    rw [other e hk] at done
    cases done
  · rw [List.filter_append, List.filter_cons_of_neg (by rw [other _ rfl]; decide)]
    simp

theorem pushNotice {s : Subject} {p : List Byte} (h : FileRun may a c)
    (hs : ∀ m, s ≠ .fileDone m := by exact fun _ e => by cases e) : FileRun may a (c.pushNotice s p) :=
  h.step (.quiet rfl rfl (fun _ => rfl) rfl (coalesce_fileDone _ _ hs))

theorem pushEntry {e : OutEntry} (h : FileRun may a c) (he : e.isFileDone = false := by rfl) :
    FileRun may a (c.pushEntry e) :=
  h.step (.quiet rfl rfl (fun _ => rfl) rfl (by simp [he]))

theorem lampUpdate (h : FileRun may a c) : FileRun may a (c.lampUpdate n) := .ite (fun _ => h.modCard) fun _ => h

theorem notifyPort {p : PortId} (h : FileRun may a c) : FileRun may a (c.notifyPort p) :=
  .ite (fun _ => h.pushNotice) fun _ => h

theorem notifyJob (h : FileRun may a c) : FileRun may a (c.notifyJob n) := .ite (fun _ => h.pushNotice) fun _ => h

theorem notifyProgress (h : FileRun may a c) : FileRun may a (c.notifyProgress n) :=
  .ite (fun _ => h.pushNotice) fun _ => h

theorem lineFault {k : LineFault} (h : FileRun may a c) : FileRun may a (c.lineFault k) := by
  have counted : FileRun may a
      { c with linkFault := { kind := some k, count := min 65535 (c.linkFault.count + 1) } } :=
    h.same rfl rfl rfl rfl rfl
  exact .ite (fun _ => counted.pushNotice) fun _ => counted

theorem setMarks {p q u : Bool} (h : FileRun may a c) : FileRun may a (c.setMarks n p q u) :=
  .ite (fun _ => h) fun _ => h.modCard.lampUpdate.notifyPort

theorem evaluateClearance (h : FileRun may a c) : FileRun may a (c.evaluateClearance n) :=
  .ite (fun _ => h.setMarks) fun _ => h.setMarks

theorem dropWaitUnlessRunning (h : FileRun may a c) : FileRun may a (c.dropWaitUnlessRunning n) :=
  .ite (fun _ => h.setWait) fun _ => h

theorem updJob {f : Job → Job} (h : FileRun may a c) (hf : ∀ j, (f j).tally = j.tally := by exact fun _ => rfl) :
    FileRun may a (c.updJob n f) := by
  have changed := ((h.modJob (n := n) hf).dropWaitUnlessRunning (n := n)).lampUpdate (n := n)
  exact .ite (fun _ => changed) fun _ => changed.notifyJob

/-! ### Slabs (03) -/

theorem cardRead {i k : Nat} (h : FileRun may a c) : FileRun may a (c.cardRead n i k) := h.modCard

theorem cardIdentify (h : FileRun may a c) : FileRun may a (c.cardIdentify n) := h.modCard

theorem driveIssue {k : TxnKind} {i j : Nat} (h : FileRun may a c) : FileRun may a (c.driveIssue d k i j) := h.modDrive

theorem issueSpanRead (h : FileRun may a c) : FileRun may a (c.issueSpanRead n) := by
  obtain ⟨k, e⟩ := c.issueSpanRead_eq n
  rw [e]
  exact h.same rfl rfl rfl rfl rfl

theorem grant {u : SlabUse} (h : FileRun may a c) : FileRun may a (c.grant n u x) := by
  cases u with
  | source =>
    simp only [Ctl.grant]
    cases hf : c.readingFile n with
    | none =>
      simp only [Ctl.grantSource, hf]
      exact h.setWait
    | some f =>
      rw [Ctl.grantSource_eq hf]
      exact issueSpanRead (h.same rfl rfl rfl rfl rfl)
  | scan => exact cardRead (modCard (h.same rfl rfl rfl rfl rfl))

theorem raise {u : SlabUse} (h : FileRun may a c) : FileRun may a (c.raise n u) := by
  obtain ⟨-, e⟩ | ⟨-, x, -, e⟩ | ⟨-, -, e⟩ := c.raise_cases n u <;> rw [e]
  · exact h
  · exact h.grant
  · exact h.setWait

theorem raiseSource (h : FileRun may a c) : FileRun may a (c.raiseSource n) := .ite (fun _ => h.raise) fun _ => h

theorem offer (h : FileRun may a c) : FileRun may a (c.offer x) := by
  obtain ⟨w, ⟨n, u, -, -, -, e⟩ | e⟩ := Ctl.offerRun_cases 8 c x <;> rw [Ctl.offer, e]
  · exact grant (h.same rfl rfl rfl rfl rfl)
  · exact h.same rfl rfl rfl rfl rfl

theorem dropStaleWait (h : FileRun may a c) : FileRun may a (c.dropStaleWait n) := .ite (fun _ => h.setWait) fun _ => h

theorem freePoolSlab (h : FileRun may a c) : FileRun may a (c.freePoolSlab x) := h.modSlab.offer

theorem releaseCounted (h : FileRun may a c) : FileRun may a (c.releaseCounted n x) :=
  h.modSlab.modJob.notifyProgress.offer

theorem testRelease (h : FileRun may a c) : FileRun may a (c.testRelease x) := by
  obtain ⟨n, -, -, e⟩ | e := c.testRelease_cases x <;> rw [e]
  · exact h.releaseCounted
  · exact h

theorem testReleases {l : List SlabNo} (h : FileRun may a c) : FileRun may a (c.testReleases l) :=
  h.foldl (fun _ _ h => h.testRelease) l

theorem leaveInFlight (h : FileRun may a c) : FileRun may a (c.leaveInFlight d x) := h.modSlab

theorem leavePending (h : FileRun may a c) : FileRun may a (c.leavePending d x) := h.modSlab

theorem purgeDest {l : List SlabNo} (h : FileRun may a c) : FileRun may a (c.purgeDest d l) :=
  (h.foldl (fun _ _ h => h.leavePending) l).testReleases

theorem fifoPush (h : FileRun may a c) : FileRun may a (c.fifoPush x) := h.modDigest

theorem fifoRemove (h : FileRun may a c) : FileRun may a (c.fifoRemove x) := h.modDigest

theorem markDiscard (h : FileRun may a c) : FileRun may a (c.markDiscard x) := .ite (fun _ => h.modDigest) fun _ => h

theorem withdrawDigest (h : FileRun may a c) : FileRun may a (c.withdrawDigest x) :=
  .ite (fun _ => h.fifoRemove.modSlab) fun _ => h.markDiscard

theorem freeVerifySlab (h : FileRun may a c) : FileRun may a (c.freeVerifySlab d) := h.modSlab

/-! ### Drive ports (07) -/

theorem portStep (h : FileRun may a c) (s : c.PortStep d t) : FileRun may a t := by
  obtain ⟨⟨ds, xs, rfl⟩, -⟩ := s.workOnly
  exact h.same rfl rfl rfl rfl rfl

theorem pump (h : FileRun may a c) : FileRun may a (c.pump d) := Ctl.pump_induction h fun _ _ h s => h.portStep s

theorem pumpAll (h : FileRun may a c) : FileRun may a c.pumpAll := h.eachDrive fun _ _ h => h.pump

theorem choose (h : FileRun may a c) : FileRun may a (c.choose d) := by
  obtain e | s := c.choose_step d
  · rwa [e]
  · exact h.portStep s

theorem releaseVerifySlab (h : FileRun may a c) : FileRun may a (c.releaseVerifySlab d) := by
  simp only [Ctl.releaseVerifySlab]
  split
  · exact h
  · exact .ite (fun _ => h.modDrive) fun _ => h.freeVerifySlab
  · exact .ite (fun _ => h.fifoRemove.freeVerifySlab) fun _ => h.markDiscard

theorem abandonContext (h : FileRun may a c) : FileRun may a (c.abandonContext d) :=
  .ite (fun _ => h.releaseVerifySlab.modDrive) fun _ => h

theorem leaveWriting (h : FileRun may a c) : FileRun may a (c.leaveWriting d) := by
  unfold Ctl.leaveWriting
  split
  · exact h
  · exact h.modDrive.leaveInFlight

theorem closeWriting {p : Bool} (h : FileRun may a c) : FileRun may a (c.closeWriting d p) := by
  unfold Ctl.closeWriting
  split
  · exact h
  · exact .ite (fun _ => h.leaveWriting.leavePending) fun _ => h.leaveWriting

theorem endWriting {p : Bool} (h : FileRun may a c) : FileRun may a (c.endWriting d p) := by
  unfold Ctl.endWriting
  split
  · exact h
  · exact h.closeWriting.testRelease

theorem withdraw {s : Slab → Bool} {r : FileRef → Bool} {p : Bool} (h : FileRun may a c) :
    FileRun may a (c.withdraw d s r p) := by
  rw [Ctl.withdraw_eq]
  have abandoned : FileRun may a ((c.modDrive d fun q => q.filtered (fun x => s (c.slab x)) r).abandonOf d r) :=
    .ite (fun _ => h.modDrive.abandonContext) fun _ => h.modDrive
  exact .ite (fun _ => abandoned.closeWriting) fun _ => abandoned

theorem withdrawJob (h : FileRun may a c) : FileRun may a (c.withdrawJob d n) := h.withdraw

theorem withdrawFile {r : FileRef} (h : FileRun may a c) : FileRun may a (c.withdrawFile d r) := h.withdraw

theorem promptDrive (h : FileRun may a c) : FileRun may a (Ctl.promptDrive n c d) := by
  have unstaged : FileRun may a (Ctl.unstage n c d) := by
    unfold Ctl.unstage
    split
    · exact .ite (fun _ => h.modDrive) fun _ => h
    · exact h
  rw [Ctl.promptDrive_eq]
  unfold Ctl.putBackVerify
  split
  · exact .ite (fun _ => unstaged.abandonContext.modDrive) fun _ => unstaged
  · exact unstaged

theorem dropWork (h : FileRun may a c) : FileRun may a (c.dropWork d) := by
  have emptied : FileRun may a (((c.modDrive d fun p => { p with staged := none }).endWriting d false).modDrive d
      fun p => { p with writeQueue := [] }) := h.modDrive.endWriting.modDrive
  unfold Ctl.dropWork
  exact modDrive (ite (fun _ => emptied.freeVerifySlab) fun _ => emptied.abandonContext)

theorem requeueWrites {l : List CardNo} (h : FileRun may a c) : FileRun may a (c.requeueWrites d l) :=
  h.modDrive.purgeDest

theorem requeueVerifies {l : List CardNo} (h : FileRun may a c) : FileRun may a (c.requeueVerifies d l) := by
  unfold Ctl.requeueVerifies
  exact h.modDrive

theorem endEntries {r : FileRef} (h : FileRun may a c) : FileRun may a (Ctl.endEntries r c d) :=
  .ite (fun _ => h) fun _ => h.modDrive.purgeDest.pump

/-! ### The job unit (01) -/

theorem endJob {e : EndReason} (h : FileRun may a c) : FileRun may a (c.endJob n e) :=
  h.modJob.dropWaitUnlessRunning.evaluateClearance.lampUpdate.notifyJob

theorem drainSlab (h : FileRun may a c) : FileRun may a (Ctl.drainSlab n c x) :=
  .ite (fun _ => h.releaseCounted) fun _ => h.freePoolSlab

/-- A job settles without a change of files unless it is STOPPING. -/
theorem settle_of_ne (h : FileRun may a c) (e : (c.job n).state ≠ .stopping) : FileRun may a (c.settle n) := by
  have kept := h.dropStaleWait (n := n)
  simp only [Ctl.settle]
  split
  · exact .ite (fun _ => kept.endJob) fun _ => kept.raiseSource
  · exact .ite (fun _ => kept.endJob) fun _ => kept
  · exact .ite (fun _ => kept.updJob) fun _ => kept
  · next hs =>
    rw [Ctl.dropStaleWait_job] at hs
    exact (e hs).elim
  · exact kept

end

end Ctl.FileRun

end Sys2Proof.Machine

namespace Sys2Proof.Machine

/-! ## Operations that change files -/

theorem FileRec.compare_continues (f : FileRec) : f.Continues f.compare := by
  unfold FileRec.compare
  split <;> exact ⟨rfl, rfl, rfl, fun _ h => h⟩

theorem FileRec.not_complete {f : FileRec} (h : f.isComplete = false) (o : FileOutcome) : f.state ≠ .complete o := by
  intro e
  simp [FileRec.isComplete, e] at h

theorem FileRec.not_complete_of_queued {f : FileRec} (h : f.state = .queued) : ¬f.isComplete = true := by
  simp [FileRec.isComplete, h]

theorem Ctl.file_some {c : Ctl} {r : FileRef} {f : FileRec} (h : c.file? r = some f) : f ∈ c.files ∧ f.ref = r :=
  ⟨List.mem_of_find?_eq_some h, by simpa using List.find?_some h⟩

theorem Job.holdIfRunning_tally (j : Job) : j.holdIfRunning.tally = j.tally := by
  unfold Job.holdIfRunning
  split <;> rfl

theorem Job.releaseIfEmpty_tally (j : Job) (e : ReleaseCause) : (j.releaseIfEmpty e).tally = j.tally := by
  unfold Job.releaseIfEmpty
  split <;> rfl

theorem Job.dropped_tally (j : Job) (d : DriveNo) : (j.dropped d).tally = j.tally := by
  unfold Job.dropped
  simp only
  split
  · exact Job.releaseIfEmpty_tally _ _
  · rfl

namespace Ctl.FileRun

section
variable {a c : Ctl} {n : CardNo} {d : DriveNo} {x : SlabNo} {r : FileRef} {f : FileRec}

/-! ### Records and retirement (R53, R56) -/

theorem modFile {g : FileRec → FileRec} (h : FileRun True a c) (ref : ∀ f, (g f).ref = f.ref)
    (goes : (c.files.map (·.ref)).Nodup → ∀ f ∈ c.files, f.ref = r → f.Continues (g f)) :
    FileRun True a (c.modFile r g) := by
  refine h.step (.change trivial _ (fun f => ?_) fun nodup f hf => ?_)
  · split
    · exact ref f
    · rfl
  · split
    · next e => exact goes nodup f hf e
    · exact .refl f

/-- A change that every file survives. -/
theorem modFile_same {g : FileRec → FileRec} (h : FileRun True a c)
    (hg : ∀ f : FileRec, f.Continues (g f) := by exact fun _ => ⟨rfl, rfl, rfl, fun _ h => h⟩) :
    FileRun True a (c.modFile r g) :=
  h.modFile (fun f => (hg f).ref) fun _ f _ _ => hg f

/-- A change of the state of a file that is not COMPLETE. -/
theorem modFile_open {g : FileRec → FileRec} (h : FileRun True a c) (hf : f ∈ c.files) (ho : f.isComplete = false)
    (hg : ∀ f, (g f).ref = f.ref ∧ (g f).id = f.id ∧ (g f).len = f.len := by exact fun _ => ⟨rfl, rfl, rfl⟩) :
    FileRun True a (c.modFile f.ref g) := by
  refine h.modFile (fun f => (hg f).1) fun nodup k hk e => ?_
  have same : some k = some f := by
    rw [← Ctl.file_of_mem nodup hk, e, Ctl.file_of_mem nodup hf]
  obtain rfl := Option.some.inj same
  exact ⟨(hg k).1, (hg k).2.1, (hg k).2.2, fun o hs => (FileRec.not_complete ho o hs).elim⟩

theorem retire {more : List FileRec} {o : FileOutcome} (h : FileRun True a c) (hq : c.queue n = f :: more)
    (hs : f.state = .complete o) : FileRun True a (c.retire f o) := by
  rw [Ctl.retire_eq]
  exact (h.step (.retire trivial hq hs)).eachDrive fun _ _ h => h.endEntries

theorem retireRun (k : Nat) (h : FileRun True a c) : FileRun True a (c.retireRun k n) := by
  induction k generalizing c with
  | zero => exact h
  | succ k ih =>
    simp only [Ctl.retireRun]
    split
    · exact h.setFileDoneWaiting
    · next f hf =>
      obtain ⟨more, hq⟩ := List.head?_eq_some_iff.1 hf
      split
      · next o hs => exact .ite (fun _ => ih (h.retire hq hs)) fun _ => h.setFileDoneWaiting
      · exact h.setFileDoneWaiting

theorem testRetire (h : FileRun True a c) : FileRun True a (c.testRetire n) := h.retireRun _

theorem testComplete (h : FileRun True a c) : FileRun True a (c.testComplete r) := by
  unfold Ctl.testComplete
  split
  · exact h
  · next f hf =>
    obtain ⟨mem, rfl⟩ := Ctl.file_some hf
    refine .ite (fun hc => ?_) fun _ => h
    rw [Bool.and_eq_true, Bool.not_eq_true'] at hc
    exact (h.modFile_open mem hc.1).testRetire

theorem testCompletes {l : List FileRef} (h : FileRun True a c) : FileRun True a (c.testCompletes l) :=
  h.foldl (fun _ _ h => h.testComplete) l

theorem sourceGood (h : FileRun True a c) : FileRun True a (c.sourceGood r) := by
  have compared := h.modFile_same (r := r) (g := fun f => FileRec.compare { f with result := .good })
    fun f => FileRec.Continues.trans (g := { f with result := .good }) ⟨rfl, rfl, rfl, fun _ h => h⟩
      (FileRec.compare_continues _)
  exact compared.modJob.testComplete

theorem promoteRun (k : Nat) (h : FileRun True a c) : FileRun True a (c.promoteRun k n) := by
  induction k generalizing c with
  | zero => exact h
  | succ k ih =>
    simp only [Ctl.promoteRun]
    refine .ite (fun _ => ?_) fun _ => h
    split
    · exact h
    · next f hf =>
      have mem : f ∈ c.files := (List.mem_filter.1 (List.mem_of_find?_eq_some hf)).1
      have queued : f.state = .queued := by simpa using List.find?_some hf
      have waits := Bool.eq_false_iff.2 (FileRec.not_complete_of_queued queued)
      exact .ite (fun _ => ih (h.modFile_open mem waits).modJob.testComplete) fun _ => h.modFile_open mem waits

theorem promote (h : FileRun True a c) : FileRun True a (c.promote n) := h.promoteRun _

/-- Records of the table change, each a file's that goes on. -/
theorem mapFiles {k : FileRec → FileRec} (h : FileRun True a c) (hk : ∀ f : FileRec, f.Continues (k f)) :
    FileRun True a { c with files := c.files.map k } :=
  h.step (.change trivial k (fun f => (hk f).ref) fun _ f _ => hk f)

/-! ### The job unit (01) -/

theorem abandonFiles (h : FileRun True a c) : FileRun True a (c.abandonFiles n) := by
  refine h.mapFiles fun f => ?_
  split
  · next e => exact ⟨rfl, rfl, rfl, fun o hs => (FileRec.not_complete e.2 o hs).elim⟩
  · exact .refl f

theorem drainStop (h : FileRun True a c) : FileRun True a (c.drainStop n) := by
  have drained : FileRun True a (c.drainedStop n) := (h.foldl (fun _ _ h => h.drainSlab) _).abandonFiles.testRetire
  rw [Ctl.drainStop_eq]
  exact .ite (fun _ => drained.endJob) fun _ => drained

theorem settle (h : FileRun True a c) : FileRun True a (c.settle n) := by
  by_cases e : (c.job n).state = .stopping
  · rw [Ctl.settle_stopping e]
    exact .ite (fun _ => h.dropStaleWait.drainStop) fun _ => h.dropStaleWait
  · exact h.settle_of_ne e

theorem settleAll (h : FileRun True a c) : FileRun True a (Machine.eachJob Ctl.settle c) :=
  h.eachJob fun _ _ h => h.settle

theorem enterStopping {e : EndReason} (h : FileRun True a c) : FileRun True a (c.enterStopping n e) :=
  ((h.updJob.eachDrive fun _ _ h => h.withdrawJob).foldl (fun _ _ h => h.withdrawDigest) _).testReleases.pumpAll

theorem fault {e : FaultCause} (h : FileRun True a c) : FileRun True a (c.fault n e) := h.updJob.pumpAll

theorem cardGone (h : FileRun True a c) : FileRun True a (c.cardGone n) :=
  .ite (fun _ => h.updJob fun _ => Job.holdIfRunning_tally _) fun _ => h

theorem cardReturned (h : FileRun True a c) : FileRun True a (c.cardReturned n) := by
  refine .ite (fun _ => .ite (fun _ => ?_) fun _ => .ite (fun _ => h) fun _ => h.fault) fun _ => h
  split
  · exact h.updJob fun _ => Job.releaseIfEmpty_tally _ _
  · exact h.updJob

theorem dropDest (h : FileRun True a c) : FileRun True a (c.dropDest n d) := by
  have dropped : FileRun True a (c.destDropped n d) := (h.updJob fun j => j.dropped_tally d).withdrawJob.purgeDest
  have closed : FileRun True a ((c.destDropped n d).resultsDropped n d) := dropped.mapFiles fun f => by
    split
    · exact ⟨rfl, rfl, rfl, fun _ h => h⟩
    · exact .refl f
  rw [Ctl.dropDest_eq]
  exact pump (ite (fun _ => closed.testCompletes.enterStopping) fun _ => closed.testCompletes)

theorem holdDest (h : FileRun True a c) : FileRun True a (c.holdDest n d) := by
  refine mapFiles (h.updJob fun _ => Job.holdIfRunning_tally _) fun f => ?_
  split
  · exact ⟨rfl, rfl, rfl, fun _ h => h⟩
  · exact .refl f

theorem driveGoneFor (h : FileRun True a c) : FileRun True a (Ctl.driveGoneFor d c n) := by
  refine .ite (fun _ => ?_) fun _ => h
  split
  · exact h.dropDest
  · exact h.holdDest

theorem driveGone (h : FileRun True a c) : FileRun True a (c.driveGone d) :=
  (h.eachJob fun _ _ h => h.driveGoneFor).settleAll

theorem driveReturnedFor (h : FileRun True a c) : FileRun True a (Ctl.driveReturnedFor d c n) := by
  refine .ite (fun _ => ?_) fun _ => h
  split
  · exact h.updJob fun _ => Job.releaseIfEmpty_tally _ _
  · exact h.updJob

theorem countFailure (h : FileRun True a c) : FileRun True a (c.countFailure n) :=
  .ite (fun _ => h.modJob.fault) fun _ => h.modJob

theorem sourceFail {e : SourceResult} (h : FileRun True a c) : FileRun True a (c.sourceFail r e) := by
  have failed : FileRun True a (c.modFile r fun f =>
      { f with result := e, state := if f.state = .reading then .draining else f.state }) :=
    h.modFile_same fun f => ⟨rfl, rfl, rfl, fun o hs => by simp [hs]⟩
  refine .ite (fun _ => ?_) fun _ => h
  have counted := FileRun.ite (p := e = .failed) (fun _ => failed.countFailure (n := r.job)) fun _ => failed
  have withdrawn := ((counted.promote (n := r.job)).dropStaleWait (n := r.job)).foldl
    (f := fun c x => c.modSlab x Slab.keepInFlight) (fun _ _ h => h.modSlab)
  exact (((withdrawn _).eachDrive fun _ _ h => h.withdrawFile).foldl (fun _ _ h => h.withdrawDigest)
    _).modFile_same.testReleases.testComplete.pumpAll

/-! ### Card ports (06) and residue scans (09) -/

theorem ladderStep {f : Flight} (h : FileRun True a c) : FileRun True a (c.ladderStep n f) :=
  cardRead (ite (fun _ => h.modCard) fun _ => h.modCard.notifyPort)

theorem closeAttempts {k : Attempt} (h : FileRun True a c) : FileRun True a (c.closeAttempts n k) := h.modCard

theorem dropReader (h : FileRun True a c) : FileRun True a (c.dropReader n) := by
  unfold Ctl.dropReader
  split
  · exact h
  · exact h.modCard.freePoolSlab

theorem readFails (h : FileRun True a c) : FileRun True a (c.readFails n x) := by
  unfold Ctl.readFails
  split
  · exact h.dropReader
  · exact h.dropReader.sourceFail

theorem scanEnd {o : ScanOutcome} {i k : Nat} (h : FileRun True a c) : FileRun True a (c.scanEnd n o i k) := by
  have marked := FileRun.ite (p := o = .found) (fun _ => h.setMarks (n := n) (p := false) (q := true)
    (u := (c.card n).unclean)) fun _ => h
  simp only [Ctl.scanEnd]
  exact modCard (ite (fun _ => marked.pushNotice) fun _ => marked)

theorem dropScanSlab (h : FileRun True a c) : FileRun True a (c.dropScanSlab n) := by
  unfold Ctl.dropScanSlab
  split
  · exact h
  · exact h.modCard.freePoolSlab

theorem scanBreak {o : ScanOutcome} (h : FileRun True a c) : FileRun True a (c.scanBreak n o) := h.dropScanSlab.scanEnd

theorem nextChunk (h : FileRun True a c) : FileRun True a (c.nextChunk n) := h.modCard.raise

theorem scanReadEnd {f : Flight} {o : TxnOutcome} (h : FileRun True a c) : FileRun True a (c.scanReadEnd n f o) := by
  refine .ite (fun _ => h.closeAttempts.scanBreak) fun _ => ?_
  split
  · exact h.closeAttempts.modSlab.modCard
  · exact .ite (fun _ => h.ladderStep) fun _ => h.closeAttempts.dropScanSlab.scanEnd
  · exact h.closeAttempts.dropScanSlab.scanEnd

theorem examinationEnd {i : Option Nat} (h : FileRun True a c) : FileRun True a (c.examinationEnd n i) := by
  unfold Ctl.examinationEnd
  split
  · exact h.modCard.dropScanSlab.scanEnd
  · exact .ite (fun _ => h.modCard.dropScanSlab.nextChunk) fun _ => h.modCard.dropScanSlab.scanEnd

theorem examinePart {m : List Host.Cell} (h : FileRun True a c) : FileRun True a (Ctl.examinePart m c n) := by
  simp only [Ctl.examinePart]
  split
  · exact modCard (h.same rfl rfl rfl rfl rfl)
  · exact h

theorem cardIdentifying (h : FileRun True a c) : FileRun True a (c.cardIdentifying n) :=
  h.modCard.cardIdentify.notifyPort.lampUpdate

theorem cardIdentified {o : TxnOutcome} {k : Nat} {i : Serial} (h : FileRun True a c) :
    FileRun True a (c.cardIdentified n o k i) :=
  .ite (fun _ => h.modCard.cardReturned.notifyPort.lampUpdate.settle) fun _ =>
    .ite (fun _ => h.modCard.cardIdentify) fun _ => h.modCard.notifyPort.lampUpdate

theorem cardRemoved (h : FileRun True a c) : FileRun True a (c.cardRemoved n) := by
  have waited := h.setWait (n := n) (u := none)
  have reset := FileRun.ite (p := (c.card n).link.flight.isSome = true)
    (fun _ => waited.modCard (n := n) (f := fun p => { p with link := p.link.assertReset })) fun _ => waited
  simp only [Ctl.cardRemoved]
  refine settle (ite (fun _ => ?_) fun _ => scanBreak ?_)
  all_goals exact reset.modCard.dropReader.dropScanSlab.setMarks.notifyPort.lampUpdate.cardGone

theorem cardSample {b : Bool} (h : FileRun True a c) : FileRun True a (c.cardSample n b) := by
  simp only [Ctl.cardSample]
  split
  · exact .ite (fun _ => h.modCard.modCard.notifyPort.lampUpdate) fun _ => h.modCard
  · exact .ite (fun _ => .ite (fun _ => h.modCard.cardIdentifying) fun _ => h.modCard) fun _ =>
      .ite (fun _ => h.modCard.cardRemoved) fun _ => h.modCard
  all_goals exact .ite (fun _ => h.modCard.cardRemoved) fun _ => h.modCard

theorem cardLow {m : List Host.Cell} (h : FileRun True a c) : FileRun True a (Ctl.cardLow m c n) :=
  cardSample (ite (fun _ => h.examinePart) fun _ => h)

end

end Ctl.FileRun

end Sys2Proof.Machine

namespace Sys2Proof.Machine

theorem Ctl.FileStep.files_eq {c t : Ctl} (h : c.FileStep False t) : t.files = c.files := by
  cases h with
  | quiet files => exact files
  | change hm => exact hm.elim
  | retire hm => exact hm.elim

/-- A run of what does not change files leaves them. -/
theorem Ctl.FileRun.files_eq {c t : Ctl} (h : FileRun False c t) : t.files = c.files := by
  induction h with
  | refl => rfl
  | tail _ s ih => exact s.files_eq.trans ih

namespace Ctl.FileRun

section
variable {a c : Ctl} {n : CardNo} {d : DriveNo} {x : SlabNo} {r : FileRef} {f : FileRec}

/-! ### The reader (6.5) -/

theorem placeEntry {may : Prop} (h : FileRun may a c) : FileRun may a (Ctl.placeEntry n x c d) :=
  .ite (fun _ => h.modDrive) fun _ => h

theorem fillSlab {may : Prop} (h : FileRun may a c) : FileRun may a (c.fillSlab n x f) := by
  have stamped : FileRun may a ({ c.modSlab x (fun s => { s with
      state := .filled, fillSeq := c.fillSeq, pendingWrites := pendingSet (c.job n) f }) with
        fillSeq := (c.fillSeq + 1) % 2 ^ 32 } : Ctl) := h.same rfl rfl rfl rfl rfl
  simp only [Ctl.fillSlab]
  exact eachDrive (f := Ctl.placeEntry n x) (fun _ _ h => h.placeEntry) stamped.fifoPush

/-- A span read ends its file's reading at most: the file is one that is read, not a COMPLETE one (R126). -/
theorem spanComplete (h : FileRun True a c)
    (hf : ∀ f, (c.slab x).file.bind c.file? = some f → f.isComplete = false) : FileRun True a (c.spanComplete n x) := by
  simp only [Ctl.spanComplete]
  split
  · exact h
  · next f e =>
    obtain ⟨r, -, hr⟩ := Option.bind_eq_some_iff.1 e
    have filled := h.fillSlab (n := n) (x := x) (f := f)
    have files : (c.fillSlab n x f).files = c.files := (FileRun.refl c).fillSlab.files_eq
    have mem := (Ctl.file_some hr).1
    rw [← files] at mem
    generalize c.fillSlab n x f = u at *
    have read := (filled.modCard (n := n) (f := fun p => { p with reader := none })).modFile_open mem (hf f e)
      (g := fun g => { g with
        readOffset := g.readOffset + (c.slab x).len
        state := if f.readOffset + (c.slab x).len == f.len then .draining else g.state })
    exact pumpAll (ite (fun _ => read.modJob.testComplete.promote) fun _ => read.modJob)

theorem readerEnd {q : Reader} {g : Flight} {o : TxnOutcome} (h : FileRun True a c) :
    FileRun True a (c.readerEnd n q g o) := by
  refine settle (ite (fun may => ?_) fun _ => h.closeAttempts.dropReader)
  have reading (f : FileRec) (e : (c.slab q.slab).file.bind c.file? = some f) : f.isComplete = false := by
    simp only [Ctl.readerMayGoOn, e, Option.any_some, Bool.and_eq_true, beq_iff_eq] at may
    simp [FileRec.isComplete, may.2]
  split
  · exact .ite (fun _ => h.closeAttempts.modCard.issueSpanRead) fun _ => h.closeAttempts.modCard.spanComplete reading
  · exact .ite (fun _ => h.ladderStep) fun _ => h.closeAttempts.readFails
  · exact h.closeAttempts.readFails

theorem cardTxnEnd {g : Flight} {o : TxnOutcome} {k : Nat} {i : Serial} (h : FileRun True a c) :
    FileRun True a (c.cardTxnEnd n g o k i) := by
  unfold Ctl.cardTxnEnd
  split
  · exact h.cardIdentified
  · split
    · exact h.readerEnd
    · exact .ite (fun _ => h) fun _ => h.scanReadEnd
  · exact h

/-! ### Events at a drive port (07) -/

theorem modDest {k : FileDest → FileDest} (h : FileRun True a c) :
    FileRun True a (c.modFile r fun f => f.modDest d k) := h.modFile_same

theorem driveLost {k : TxnKind} {o : TxnOutcome} (h : FileRun True a c) : FileRun True a (c.driveLost d k o) :=
  h.modDrive.dropWork.modDrive.notifyPort.driveGone

theorem driveAbsent (h : FileRun True a c) : FileRun True a (c.driveAbsent d) := by
  have gone := h.modDrive (d := d) (f := fun p => { p with
    state := .absent, highRun := 0, lowRun := 0, link := if p.link.flight.isSome then p.link.assertReset else p.link })
  have dropped := FileRun.ite (p := ((c.drive d).state == .ready) = true) (fun _ => gone.dropWork (d := d))
    fun _ => gone
  have told := (dropped.modDrive (d := d) (f := fun p => { p with capacity := 0, serial := zeroSerial, attempts := 0 })
    ).notifyPort (p := .drive d)
  exact .ite (fun _ => told.driveGone) fun _ => told

theorem driveReady {k : Nat} {i : Serial} (h : FileRun True a c) : FileRun True a (c.driveReady d k i) :=
  (h.modDrive.eachJob fun _ _ h => h.driveReturnedFor).requeueWrites.choose.requeueVerifies.pump.notifyPort.settleAll

theorem driveIdentifying (h : FileRun True a c) : FileRun True a (c.driveIdentifying d) :=
  h.modDrive.driveIssue.notifyPort

theorem driveIdentified {o : TxnOutcome} {k : Nat} {i : Serial} (h : FileRun True a c) :
    FileRun True a (c.driveIdentified d o k i) :=
  .ite (fun _ => h.driveReady) fun _ => .ite (fun _ => h.modDrive.driveIssue) fun _ => h.modDrive.notifyPort

theorem settleOwner {s : Slab} (h : FileRun True a c) : FileRun True a (c.settleOwner s) := by
  unfold Ctl.settleOwner
  split
  · exact h.settle
  · exact h

theorem writeDone {k : Nat} (h : FileRun True a c) : FileRun True a (c.writeDone d n r k) := by
  have written := (h.modFile_same (r := r) (g := fun f => f.modDest d fun e => { e with
    bytesWritten := e.bytesWritten + k
    result := if e.bytesWritten + k = f.len then .written else e.result })).endWriting (d := d) (p := true)
  refine .ite (fun _ => ?_) fun _ => written
  split
  · exact written.modDrive
  · exact written.testComplete

theorem writeFails (h : FileRun True a c) : FileRun True a (c.writeFails d r) := by
  simp only [Ctl.writeFails]
  exact h.modDest.leaveWriting.withdrawFile.purgeDest.testComplete

theorem writeClose {w : Writing} {g : Flight} {b : Bool} (h : FileRun True a c) :
    FileRun True a (c.writeClose d w g b) := by
  simp only [Ctl.writeClose]
  split
  · exact .ite (fun _ => h.endWriting) fun _ => .ite (fun _ => .ite (fun _ => h.endWriting) fun _ =>
      .ite (fun _ => h.modDrive) fun _ => h.writeDone) fun _ => h.writeFails
  · exact h.endWriting

theorem retry {g : Flight} (h : FileRun True a c) : FileRun True a (c.retry d g) := h.modDrive.driveIssue

theorem writeEnd {g : Flight} {o : TxnOutcome} (h : FileRun True a c) : FileRun True a (c.writeEnd d g o) := by
  unfold Ctl.writeEnd
  split
  · exact h.pump
  · split
    · exact .ite (fun _ => h.retry) fun _ => h.driveLost
    · exact h.modDrive.writeClose.pump.settleOwner

theorem readBackFails (h : FileRun True a c) : FileRun True a (c.readBackFails d r) :=
  h.freeVerifySlab.modDest.modDrive.testComplete

theorem readBackGood {k : Context} {sp : Span} {g : Flight} (h : FileRun True a c) :
    FileRun True a (c.readBackGood d k sp g) := .ite (fun _ => h.modDrive) fun _ => h.modSlab.fifoPush.modDrive

theorem readBackEnd {g : Flight} {o : TxnOutcome} (h : FileRun True a c) : FileRun True a (c.readBackEnd d g o) := by
  refine .ite (fun _ => ?_) fun _ => ?_
  · split
    · exact h.freeVerifySlab.modDrive.pump.settle
    · exact h.freeVerifySlab.modDrive.pump
  · split
    · exact h.pump
    · split
      · exact .ite (fun _ => h.retry) fun _ => h.driveLost
      · exact h.modDrive.readBackGood.pump.settle
      · exact h.modDrive.readBackFails.pump.settle
      · exact h.pump

theorem driveTxnEnd {g : Flight} {o : TxnOutcome} {k : Nat} {i : Serial} (h : FileRun True a c) :
    FileRun True a (c.driveTxnEnd d g o k i) := by
  unfold Ctl.driveTxnEnd
  split
  · exact h.driveIdentified
  · exact h.writeEnd
  · exact h.readBackEnd

theorem driveSample {b : Bool} (h : FileRun True a c) : FileRun True a (c.driveSample d b) := by
  simp only [Ctl.driveSample]
  split
  · exact .ite (fun _ => h.modDrive.modDrive.notifyPort) fun _ => h.modDrive
  · exact .ite (fun _ => .ite (fun _ => h.modDrive.driveIdentifying) fun _ => h.modDrive) fun _ =>
      .ite (fun _ => h.modDrive.driveAbsent) fun _ => h.modDrive
  all_goals exact .ite (fun _ => h.modDrive.driveAbsent) fun _ => h.modDrive

theorem endTxn {p : PortId} {g : Flight} {o : TxnOutcome} {k : Nat} {i : Serial} (h : FileRun True a c) :
    FileRun True a (c.endTxn p g o k i) := by
  cases p with
  | card n => exact h.setLink.cardTxnEnd
  | drive d => exact h.setLink.driveTxnEnd

theorem statusRecord {p : PortId} {i j : Byte} {k : Option (BitVec 48 × Serial)} {b : BitVec 16}
    (h : FileRun True a c) : FileRun True a (c.statusRecord p i j k b) := by
  unfold Ctl.statusRecord
  split
  · exact h
  · exact .ite (fun _ => h) fun _ => h.endTxn

theorem linkTimeout {p : PortId} (h : FileRun True a c) : FileRun True a (c.linkTimeout p) := by
  unfold Ctl.linkTimeout
  split
  · exact h
  · exact h.endTxn

theorem linkResetEnds {p : PortId} (h : FileRun True a c) : FileRun True a (c.linkResetEnds p) := by
  refine .ite (fun _ => ?_) fun _ => h
  cases p with
  | card n => exact .ite (fun _ => h.setLink.cardIdentify) fun _ => h.setLink
  | drive d => exact .ite (fun _ => h.setLink.driveIssue) fun _ => h.setLink

/-! ### The digest unit (04) -/

theorem digestBegin (h : FileRun True a c) : FileRun True a c.digestBegin := by
  unfold Ctl.digestBegin
  split
  · exact h.modDigest
  · exact h

theorem foldSource {m w i j : Nat} (h : FileRun True a c) : FileRun True a (c.foldSource r m w i j) := by
  unfold Ctl.foldSource
  split
  · exact h
  · exact .ite (fun _ => h) fun _ => .ite (fun _ => .ite (fun _ => h.sourceFail) fun _ => h) fun _ =>
      .ite (fun _ => h.modFile_same.sourceGood) fun _ => h.modFile_same

theorem foldVerify {m w i j : Nat} (h : FileRun True a c) : FileRun True a (c.foldVerify d m w i j) := by
  unfold Ctl.foldVerify
  split
  · next k f _ _ =>
    refine .ite (fun _ => h.modDest.modDrive.testComplete) fun _ => .ite (fun _ => ?_) fun _ => h.modDrive
    have compared := h.modFile_same (r := k.file) (g := fun g => FileRec.compare (g.modDest d fun e =>
        { e with verA := (k.acc.fold m w i j).a, verB := (k.acc.fold m w i j).b, stored := true }))
      fun g => FileRec.Continues.trans (g := g.modDest d _) ⟨rfl, rfl, rfl, fun _ h => h⟩ (FileRec.compare_continues _)
    exact compared.modDrive.testComplete
  · exact h

theorem digestFinish {i j : Nat} (h : FileRun True a c) : FileRun True a (c.digestFinish x i j) := by
  simp only [Ctl.digestFinish]
  split
  · exact settle (testRelease (modSlab (ite (fun _ => h.modDigest) fun _ => h.modDigest.foldSource)))
  · have folded : ∀ {d : DriveNo} {u : Digest → Digest} {b : Bool} {m w : Nat}, FileRun True a
        (((if b = true then c.modDigest u else (c.modDigest u).foldVerify d m w i j).freeVerifySlab d).pump d) :=
      pump (freeVerifySlab (ite (fun _ => h.modDigest) fun _ => h.modDigest.foldVerify))
    split
    · exact folded.settle
    · exact folded
  · exact h.modDigest

end

end Ctl.FileRun

end Sys2Proof.Machine

namespace Sys2Proof.Machine

/-! ## What a run makes of a job's queue -/

/-- The entry that announces a file of job n that retired with an outcome, under a verify mode (R58). -/
def doneEntry (n : CardNo) (v : VerifyMode) (p : FileRec × FileOutcome) : OutEntry :=
  { kind := .notice (.fileDone n), tag := 0, payload := p.1.donePayload p.2 v }

/-- The entry is a FILE_DONE of job n. -/
def OutEntry.isDoneOf (n : CardNo) (e : OutEntry) : Bool := e.kind == .notice (.fileDone n)

theorem OutEntry.isFileDone_of_isDoneOf {n : CardNo} {e : OutEntry} (h : e.isDoneOf n = true) :
    e.isFileDone = true := by
  have kind : e.kind = .notice (.fileDone n) := by simpa [OutEntry.isDoneOf] using h
  simp [OutEntry.isFileDone, kind]

/-- A job's FILE_DONE are among all FILE_DONE. -/
theorem filter_isDoneOf (n : CardNo) (l : List OutEntry) :
    l.filter (OutEntry.isDoneOf n) = (l.filter OutEntry.isFileDone).filter (OutEntry.isDoneOf n) := by
  rw [List.filter_filter]
  refine List.filter_congr fun e _ => ?_
  cases h : e.isDoneOf n
  · simp
  · simp [OutEntry.isFileDone_of_isDoneOf h]

/-- From c to t these files retire from job n's queue, in order, and the rest of the queue goes on (R53, R56, R106). -/
structure Ctl.RetiresTo (c t : Ctl) (n : CardNo) (files : List (FileRec × FileOutcome)) : Prop where
  names : (c.queue n).map (·.ref) = files.map (·.1.ref) ++ (t.queue n).map (·.ref)
  gone : ∀ p ∈ files, p.1.state = .complete p.2 ∧ ∀ g ∈ c.queue n, g.ref = p.1.ref → g.Continues p.1
  stay : ∀ g ∈ t.queue n, ∀ g0 ∈ c.queue n, g0.ref = g.ref → g0.Continues g
  done : t.outq.filter (OutEntry.isDoneOf n) =
    c.outq.filter (OutEntry.isDoneOf n) ++ files.map (doneEntry n (c.job n).verify)
  retired : (t.job n).retired % 2 ^ 32 = ((c.job n).retired + files.length) % 2 ^ 32
  clean : (t.job n).clean = ((c.job n).clean && files.all fun p => p.2 == .good)
  verify : (t.job n).verify = (c.job n).verify

theorem Ctl.RetiresTo.trans {a c t : Ctl} {n : CardNo} {l m : List (FileRec × FileOutcome)}
    (h : a.RetiresTo c n l) (g : c.RetiresTo t n m) : a.RetiresTo t n (l ++ m) where
  names := by rw [h.names, g.names, List.map_append, List.append_assoc]
  gone p hp := by
    obtain hp | hp := List.mem_append.1 hp
    · exact h.gone p hp
    · refine ⟨(g.gone p hp).1, fun k hk e => ?_⟩
      have named : p.1.ref ∈ (c.queue n).map (·.ref) := by
        rw [g.names]
        exact List.mem_append_left _ (List.mem_map_of_mem (f := fun p => p.1.ref) hp)
      obtain ⟨k', hk', e'⟩ := List.mem_map.1 named
      exact (h.stay k' hk' k hk (e.trans e'.symm)).trans ((g.gone p hp).2 k' hk' e')
  stay k hk k0 hk0 e := by
    have named : k.ref ∈ (c.queue n).map (·.ref) := by
      rw [g.names]
      exact List.mem_append_right _ (List.mem_map_of_mem hk)
    obtain ⟨k', hk', e'⟩ := List.mem_map.1 named
    exact (h.stay k' hk' k0 hk0 (e.trans e'.symm)).trans (g.stay k hk k' hk' e')
  done := by rw [g.done, h.done, h.verify, List.map_append, List.append_assoc]
  retired := by
    rw [g.retired, Nat.add_mod, h.retired, List.length_append]
    omega
  clean := by rw [g.clean, h.clean, List.all_append, Bool.and_assoc]
  verify := g.verify.trans h.verify

/-- Where the names and lengths of the queue, the job's tally and its FILE_DONE stand, nothing retires. -/
theorem Ctl.RetiresTo.nothing {c t : Ctl} {n : CardNo} (k : FileRec → FileRec) (queue : t.queue n = (c.queue n).map k)
    (same : (c.files.map (·.ref)).Nodup → ∀ f ∈ c.files, f.Continues (k f))
    (nodup : (c.files.map (·.ref)).Nodup) (tally : (t.job n).tally = (c.job n).tally)
    (outq : t.outq.filter OutEntry.isFileDone = c.outq.filter OutEntry.isFileDone) : c.RetiresTo t n [] := by
  have goes := same nodup
  have mem {f : FileRec} (h : f ∈ c.queue n) : f ∈ c.files := (List.mem_filter.1 h).1
  simp only [Job.tally, Prod.mk.injEq] at tally
  obtain ⟨retired, clean, verify⟩ := tally
  refine ⟨?_, by simp, fun g hg g0 hg0 e => ?_, ?_, by simp [retired], by simp [clean], verify⟩
  · rw [queue, List.map_map]
    exact List.map_congr_left fun f hf => (goes f (mem hf)).ref.symm
  · rw [queue] at hg
    obtain ⟨f, hf, rfl⟩ := List.mem_map.1 hg
    have named : g0.ref = f.ref := e.trans (goes f (mem hf)).ref
    have one : some g0 = some f := by
      rw [← Ctl.file_of_mem nodup (mem hg0), named, Ctl.file_of_mem nodup (mem hf)]
    obtain rfl := Option.some.inj one
    exact goes g0 (mem hf)
  · rw [filter_isDoneOf, outq, ← filter_isDoneOf]
    simp

/-! ### Retirement -/

section
variable {c : Ctl} {n m : CardNo} {f : FileRec} {more : List FileRec} {o : FileOutcome}

theorem Ctl.retired_job (c : Ctl) (f : FileRec) (o : FileOutcome) :
    (c.retired f o).job f.ref.job = { c.job f.ref.job with
      retired := ((c.job f.ref.job).retired + 1) % 2 ^ 32, clean := (c.job f.ref.job).clean && o == .good } := by
  rw [Ctl.retired, Ctl.modJob_job]
  rfl

theorem Ctl.retired_job_ne (o : FileOutcome) (h : m ≠ f.ref.job) : (c.retired f o).job m = c.job m := by
  rw [Ctl.retired, Ctl.modJob_job_ne _ _ h]
  rfl

theorem Ctl.retired_outq (c : Ctl) (f : FileRec) (o : FileOutcome) :
    (c.retired f o).outq = c.outq ++ [doneEntry f.ref.job (c.job f.ref.job).verify (f, o)] := rfl

theorem Ctl.retired_files (c : Ctl) (f : FileRec) (o : FileOutcome) :
    (c.retired f o).files = c.files.filter fun g => g.ref != f.ref := rfl

/-- A head that retires leaves its own queue alone. -/
theorem Ctl.retired_queue (nodup : (c.files.map (·.ref)).Nodup) (hq : c.queue n = f :: more) :
    (c.retired f o).queue n = more := by
  have named : ((c.queue n).map (·.ref)).Nodup := nodup.sublist (List.filter_sublist.map _)
  rw [hq, List.map_cons, List.nodup_cons] at named
  have swap : (c.retired f o).queue n = (c.queue n).filter fun g => g.ref != f.ref := by
    simp only [Ctl.queue, Ctl.retired_files, List.filter_filter, Bool.and_comm]
  rw [swap, hq, List.filter_cons_of_neg (by simp), List.filter_eq_self]
  intro g hg
  have other : g.ref ≠ f.ref := fun e => named.1 (e ▸ List.mem_map_of_mem hg)
  simpa using other

theorem Ctl.retired_queue_ne (h : m ≠ f.ref.job) : (c.retired f o).queue m = c.queue m := by
  simp only [Ctl.queue, Ctl.retired_files, List.filter_filter]
  refine List.filter_congr fun g _ => ?_
  by_cases e : g.ref.job = m
  · have other : g.ref ≠ f.ref := fun e' => h (e.symm.trans (congrArg FileRef.job e'))
    simp [e, other]
  · simp [e]

/-- What retires is the head alone. -/
theorem Ctl.retired_retiresTo (nodup : (c.files.map (·.ref)).Nodup) (hq : c.queue n = f :: more)
    (hs : f.state = .complete o) : c.RetiresTo (c.retired f o) n [(f, o)] := by
  have hf : f ∈ c.files := (List.mem_filter.1 (hq ▸ List.mem_cons_self : f ∈ c.queue n)).1
  obtain rfl : f.ref.job = n := Ctl.mem_queue_job (hq ▸ List.mem_cons_self)
  have one {g k : FileRec} (hg : g ∈ c.files) (hk : k ∈ c.files) (e : g.ref = k.ref) : g = k := by
    have same : some g = some k := by rw [← Ctl.file_of_mem nodup hg, e, Ctl.file_of_mem nodup hk]
    exact Option.some.inj same
  have mem {g : FileRec} (h : g ∈ c.queue f.ref.job) : g ∈ c.files := (List.mem_filter.1 h).1
  refine ⟨?_, ?_, fun g hg g0 hg0 e => ?_, ?_, ?_, ?_, ?_⟩
  · rw [hq, Ctl.retired_queue nodup hq]
    rfl
  · rintro _ (_ | ⟨_, ⟨⟩⟩)
    exact ⟨hs, fun g hg e => one (mem hg) hf e ▸ .refl _⟩
  · rw [Ctl.retired_queue nodup hq] at hg
    exact one (mem hg0) (mem (hq ▸ List.mem_cons_of_mem _ hg)) e ▸ .refl _
  · rw [Ctl.retired_outq, List.filter_append, List.filter_cons_of_pos (by simp [OutEntry.isDoneOf, doneEntry])]
    rfl
  · rw [Ctl.retired_job]
    exact Nat.mod_mod _ _
  · simp [Ctl.retired_job]
  · rw [Ctl.retired_job]

/-- Of every other job nothing retires. -/
theorem Ctl.retired_retiresTo_ne (nodup : (c.files.map (·.ref)).Nodup) (h : m ≠ f.ref.job) :
    c.RetiresTo (c.retired f o) m [] := by
  have kept : (c.retired f o).queue m = c.queue m := Ctl.retired_queue_ne h
  have one {g k : FileRec} (hg : g ∈ c.queue m) (hk : k ∈ c.queue m) (e : g.ref = k.ref) : g = k := by
    have same : some g = some k := by
      rw [← Ctl.file_of_mem nodup (List.mem_filter.1 hg).1, e, Ctl.file_of_mem nodup (List.mem_filter.1 hk).1]
    exact Option.some.inj same
  refine ⟨by rw [kept]; rfl, by simp, fun g hg g0 hg0 e => ?_, ?_, ?_, ?_, ?_⟩
  · rw [kept] at hg
    exact one hg0 hg e ▸ .refl _
  · rw [Ctl.retired_outq, List.filter_append, List.filter_cons_of_neg (by simp [OutEntry.isDoneOf, doneEntry, h.symm])]
    rfl
  all_goals simp [Ctl.retired_job_ne o h]

end

/-! ### Steps and runs -/

theorem Ctl.FileStep.nextFile {may : Prop} {c t : Ctl} (h : c.FileStep may t) : t.nextFile = c.nextFile := by
  cases h with
  | quiet _ next => exact next
  | change => rfl
  | retire => rfl

/-- Names go only, and none is new. -/
theorem Ctl.FileStep.names {may : Prop} {c t : Ctl} (h : c.FileStep may t) :
    (t.files.map (·.ref)).Sublist (c.files.map (·.ref)) := by
  cases h with
  | quiet files => rw [files]
  | change _ k ref =>
    have same : (·.ref) ∘ k = (·.ref : FileRec → FileRef) := funext ref
    rw [List.map_map, same]
  | retire => exact List.filter_sublist.map _

theorem Ctl.FileStep.retiresTo {may : Prop} {c t : Ctl} (h : c.FileStep may t) (nodup : (c.files.map (·.ref)).Nodup)
    (n : CardNo) : ∃ files, c.RetiresTo t n files := by
  cases h with
  | quiet files _ jobs _ outq =>
    exact ⟨[], .nothing id (by rw [List.map_id, Ctl.queue_of_files files]) (fun _ f _ => .refl f) nodup (jobs n) outq⟩
  | change _ k ref same =>
    refine ⟨[], .nothing k ?_ same nodup rfl rfl⟩
    have job : (fun f : FileRec => f.ref.job == n) ∘ k = fun f => f.ref.job == n := funext fun f => by
      simp only [Function.comp, ref]
    rw [Ctl.queue, List.filter_map, job]
    rfl
  | @retire _ m f more o hq hs =>
    by_cases h : n = f.ref.job
    · have here : f.ref.job = m := Ctl.mem_queue_job (hq ▸ List.mem_cons_self)
      obtain rfl := h.trans here
      exact ⟨_, c.retired_retiresTo nodup hq hs⟩
    · exact ⟨[], c.retired_retiresTo_ne nodup h⟩

/-- A run keeps names distinct, and takes files from the heads of queues as they retire. -/
theorem Ctl.FileRun.retiresTo {may : Prop} {c t : Ctl} (h : Ctl.FileRun may c t) (nodup : (c.files.map (·.ref)).Nodup) :
    t.nextFile = c.nextFile ∧ (t.files.map (·.ref)).Sublist (c.files.map (·.ref))
      ∧ ∀ n, ∃ files, c.RetiresTo t n files := by
  induction h with
  | refl => exact ⟨rfl, .refl _, fun n => ⟨[], .nothing id (by simp) (fun _ f _ => .refl f) nodup rfl rfl⟩⟩
  | tail _ s ih =>
    obtain ⟨next, names, queues⟩ := ih
    refine ⟨s.nextFile.trans next, s.names.trans names, fun n => ?_⟩
    obtain ⟨l, hl⟩ := queues n
    obtain ⟨m, hm⟩ := s.retiresTo (nodup.sublist names) n
    exact ⟨l ++ m, hl.trans hm⟩

theorem Ctl.fresh_of_names {c t : Ctl} (names : (t.files.map (·.ref)).Sublist (c.files.map (·.ref)))
    (next : c.nextFile ≤ t.nextFile) (h : c.FileNamesFresh) : t.FileNamesFresh := by
  obtain ⟨nodup, older⟩ := h
  refine ⟨nodup.sublist names, fun f hf => ?_⟩
  obtain ⟨g, hg, e⟩ := List.mem_map.1 (names.subset (List.mem_map_of_mem (f := (·.ref)) hf))
  rw [← show g.ref = f.ref from e]
  exact (older g hg).trans_le next

theorem Ctl.FileRun.fresh {may : Prop} {c t : Ctl} (h : Ctl.FileRun may c t) (fresh : c.FileNamesFresh) :
    t.FileNamesFresh := by
  obtain ⟨next, names, -⟩ := h.retiresTo fresh.1
  exact Ctl.fresh_of_names names next.ge fresh

end Sys2Proof.Machine

namespace Sys2Proof.Machine

/-! ## What a command makes of files -/

/-- What one command makes of the file table: one change of its own at most, and then a run. -/
inductive Ctl.FileEvent (c t : Ctl) : Prop
  | run (h : Ctl.FileRun True c t)
  /-- An entry has left the output queue (R180). -/
  | sent {e : OutEntry} {rest : List OutEntry} (left : c.outq = e :: rest) (h : Ctl.FileRun True (c.setOutq rest) t)
  /-- A file has joined a queue (R39). -/
  | joined {n : CardNo} {q : FileAddReq} (h : Ctl.FileRun True (c.joinFile n q) t)
  /-- A FREE record has been filled (R5). -/
  | opened {n : CardNo} {j : Job} (free : (c.job n).state = .free) (h : Ctl.FileRun True (c.modJob n fun _ => j) t)
  /-- A record has been freed, its files with it (R31). -/
  | freed {n : CardNo} (free : (t.job n).state = .free) (h : Ctl.FileRun True (c.recordFreed n) t)
  /-- All blocks are at their reset values (R188). -/
  | reset (none : t.files = []) (free : ∀ m, (t.job m).state = .free)

theorem Ctl.FileEvent.pushEntry {c t : Ctl} {e : OutEntry} (h : c.FileEvent t) (he : e.isFileDone = false := by rfl) :
    c.FileEvent (t.pushEntry e) := by
  cases h with
  | run h => exact .run (h.pushEntry he)
  | sent left h => exact .sent left (h.pushEntry he)
  | joined h => exact .joined (h.pushEntry he)
  | opened free h => exact .opened free (h.pushEntry he)
  | freed free h => exact .freed free (h.pushEntry he)
  | reset none free => exact .reset none free

/-! ### The operations of requests -/

namespace Ctl.FileRun

section
variable {a c : Ctl} {n : CardNo}

theorem startJob (h : FileRun True a c) : FileRun True a (c.startJob n) := h.updJob.promote.settle

theorem closeJob (h : FileRun True a c) : FileRun True a (c.closeJob n) :=
  .ite (fun _ => h) fun _ => .ite (fun _ => h.modJob.endJob) fun _ => h.modJob

theorem suspendJob {m : SuspendMode} (h : FileRun True a c) : FileRun True a (c.suspendJob n m) := by
  simp only [Ctl.suspendJob]
  refine ite (fun _ => h) fun _ => settle (ite (fun _ => ?_) fun _ => ?_)
  · refine pumpAll (eachDrive (fun _ _ h => h.promptDrive) ?_)
    exact h.updJob
  · exact h.updJob

theorem resumeHeld (h : FileRun True a c) : FileRun True a (c.resumeHeld n) := by
  unfold Ctl.resumeHeld
  exact settle (h.updJob fun j => (Job.releaseIfEmpty_tally _ _).trans rfl)

theorem resumeSuspended (h : FileRun True a c) : FileRun True a (c.resumeSuspended n) :=
  h.updJob.pumpAll.promote.settle

theorem stopJob (h : FileRun True a c) : FileRun True a (c.stopJob n) :=
  .ite (fun _ => h) fun _ => h.enterStopping.settle

theorem clearJob (h : FileRun True a c) : FileRun True a (c.clearJob n) := by
  simp only [Ctl.clearJob]
  refine settle (pumpAll (promote (h.updJob fun j => ?_)))
  split <;> rfl

theorem setLamp {m : Release} {b : Byte} (h : FileRun True a c) : FileRun True a (c.setLamp n m b) := by
  unfold Ctl.setLamp
  split
  · exact h.modCard.lampUpdate
  · exact h.modCard

theorem stopScan {m : List Host.Cell} (h : FileRun True a c) : FileRun True a (Ctl.stopScan m c n) := by
  unfold Ctl.stopScan
  split
  · exact h
  · exact h
  · exact h.setWait.scanBreak
  · exact h.modCard
  · exact h.examinePart.scanBreak

end

end Ctl.FileRun

/-- A request that is answered with DONE makes one event of the files. -/
def Ctl.Answers (c : Ctl) (a : Answer) : Prop := ∀ t fields, a = .ok (t, fields) → c.FileEvent t

namespace Ctl.Answers

section
variable {c t : Ctl} {fields : List Byte}

theorem error {r : Reason} : c.Answers (.error r) := fun _ _ h => nomatch h

theorem ok (h : c.FileEvent t) : c.Answers (.ok (t, fields)) := fun _ _ e => by
  cases e
  exact h

theorem run (h : Ctl.FileRun True c t) : c.Answers (.ok (t, fields)) := ok (.run h)

theorem forJob {k : MsgKind} {b : Byte} {act : CardNo → Answer} (h : ∀ n, c.Answers (act n)) :
    c.Answers (c.forJob k b act) := by
  obtain ⟨-, e⟩ | ⟨n, -, ⟨-, e⟩ | ⟨-, e⟩⟩ := c.forJob_cases k b act <;> rw [e]
  · exact error
  · exact h n
  · exact error

theorem jobRequest {k : MsgKind} {act : Ctl → CardNo → Answer} {l : List Byte} (h : ∀ n, c.Answers (act c n)) :
    c.Answers (Machine.jobRequest k act l c) := by
  unfold Machine.jobRequest
  split
  · exact forJob h
  · exact error

end

end Ctl.Answers

section
variable (l : List Byte) (c : Ctl)
open Ctl.FileRun

/-- A JOB_OPEN passes its checks on a FREE record alone (R4). -/
theorem Ctl.free_of_checkOpen {c : Ctl} {job count clr ver quota cr da dr : Byte} {ports : List Byte} {n : CardNo}
    {o : OpenReq} (h : c.checkOpen job count ports clr ver quota cr da dr = .ok (n, o)) : (c.job n).state = .free := by
  unfold Ctl.checkOpen at h
  repeat' split at h
  all_goals cases h
  exact Classical.not_not.1 ‹¬(c.job n).state ≠ .free›

theorem reqJobOpen_answers : c.Answers (reqJobOpen l c) := by
  unfold reqJobOpen
  split
  · split
    · exact .error
    · next n o h =>
      exact .ok (.opened (Ctl.free_of_checkOpen h) ((Ctl.FileRun.refl _).setMarks.lampUpdate.notifyPort.notifyJob))
  · exact .error

theorem reqFileAdd_answers : c.Answers (reqFileAdd l c) := by
  unfold reqFileAdd
  split
  · exact .error
  · refine .forJob fun n => ?_
    unfold Ctl.answerFile
    split
    · exact .error
    · exact .ok (.joined (Ctl.FileRun.refl _).promote.settle)

theorem reqJobStart_answers : c.Answers (reqJobStart l c) := .jobRequest fun n => by
  unfold Ctl.answerStart
  split
  · exact .run (Ctl.FileRun.refl c).startJob
  · exact .error

theorem reqJobClose_answers : c.Answers (reqJobClose l c) := .jobRequest fun _ => .run (Ctl.FileRun.refl c).closeJob

theorem reqJobSuspend_answers : c.Answers (reqJobSuspend l c) := by
  unfold reqJobSuspend
  split
  · refine .forJob fun n => ?_
    split
    · exact .error
    · exact .run (Ctl.FileRun.refl c).suspendJob
  · exact .error

theorem reqJobResume_answers : c.Answers (reqJobResume l c) := .jobRequest fun n => by
  unfold Ctl.answerResume
  simp only
  split
  · split
    · exact .run (Ctl.FileRun.refl c).resumeHeld
    · exact .error
  · exact .run (Ctl.FileRun.refl c).resumeSuspended

theorem reqJobDrop_answers : c.Answers (reqJobDrop l c) := by
  unfold reqJobDrop
  split
  · refine .forJob fun n => ?_
    unfold Ctl.answerDrop
    split
    · exact .error
    · exact .run (.ite (fun _ => (Ctl.FileRun.refl c).dropDest.settle) fun _ => .refl c)
  · exact .error

theorem reqJobStop_answers : c.Answers (reqJobStop l c) := .jobRequest fun _ => .run (Ctl.FileRun.refl c).stopJob

theorem reqJobClear_answers : c.Answers (reqJobClear l c) := .jobRequest fun n => by
  unfold Ctl.answerClear
  split
  · exact .error
  · exact .run (Ctl.FileRun.refl c).clearJob

theorem reqJobFree_answers : c.Answers (reqJobFree l c) := .jobRequest fun n => by
  refine .ok (.freed (n := n) ?_ ?_) <;> rw [Ctl.freeJob_eq]
  · have jobs : ((((c.recordFreed n).lampUpdate n).notifyPort (.card n)).notifyJob n).jobs =
        (c.recordFreed n).jobs := by simp
    rw [Ctl.job_of_jobs jobs, Ctl.recordFreed, Ctl.modJob_job]
    rfl
  · exact (Ctl.FileRun.refl _).lampUpdate.notifyPort.notifyJob

theorem reqJobQuery_answers : c.Answers (reqJobQuery l c) := .jobRequest fun _ => .run (.refl c)

theorem reqIdent_answers : c.Answers (reqIdent l c) := by
  unfold reqIdent
  split
  · exact .run (.refl c)
  · exact .error

theorem reqPartReset_answers : c.Answers (reqPartReset l c) := by
  unfold reqPartReset
  split
  · exact .run (.refl c)
  · exact .error

theorem reqNoticeSet_answers : c.Answers (reqNoticeSet l c) := by
  unfold reqNoticeSet
  split
  · exact .error
  · split
    · exact .error
    · exact .run ((Ctl.FileRun.refl c).same rfl rfl rfl rfl rfl)

theorem reqPortQuery_answers : c.Answers (reqPortQuery l c) := by
  unfold reqPortQuery
  split
  · split
    · exact .error
    · exact .run (.refl c)
  · exact .error

theorem reqLampSet_answers : c.Answers (reqLampSet l c) := by
  unfold reqLampSet
  split
  · split
    · exact .run (Ctl.FileRun.refl c).setLamp
    · exact .error
  · exact .error

theorem reqScanStart_answers : c.Answers (reqScanStart l c) := by
  unfold reqScanStart
  split
  · unfold Ctl.answerScan
    split
    · split
      · exact .error
      · split
        · exact .error
        · exact .run (Ctl.FileRun.refl c).modCard.nextChunk
    · exact .error
  · exact .error

theorem reqScanStop_answers (m : List Host.Cell) : c.Answers (reqScanStop m l c) := by
  unfold reqScanStop
  split
  · split
    · exact .error
    · exact .run (Ctl.FileRun.refl c).stopScan
  · exact .error

end

/-! ### Commands -/

section
variable (s : State)

theorem State.answer_fileEvent {f : RxFrame} {a : Answer} (h : s.ctl.Answers a) :
    s.ctl.FileEvent (s.answer f a).ctl := by
  match a with
  | .ok (t, fields) => exact (h t fields rfl).pushEntry
  | .error _ => exact .run (Ctl.FileRun.refl s.ctl).pushEntry

theorem State.request_fileEvent {k : MsgKind} {act : List Byte → Ctl → Answer} (h : ∀ l, s.ctl.Answers (act l s.ctl)) :
    s.ctl.FileEvent (s.request k act).ctl := by
  obtain ⟨f, -, e⟩ | e := s.request_cases k act <;> rw [e]
  · exact s.answer_fileEvent (h f.payload)
  · exact .run (.refl _)

theorem State.run_fileEvent {f : State → State} (h : s.ctl.FileEvent (f s).ctl) : s.ctl.FileEvent (s.run f).ctl := by
  unfold State.run
  split
  · exact .run (.refl _)
  · exact h

theorem State.runCtl_fileEvent {f : Ctl → Ctl} (h : Ctl.FileRun True s.ctl (f s.ctl)) :
    s.ctl.FileEvent (s.runCtl f).ctl := s.run_fileEvent (.run h)

/-- A line fault is recorded at most (R176). -/
def Ctl.FaultAtMost (c t : Ctl) : Prop := t = c ∨ ∃ k, t = c.lineFault k

theorem Ctl.FaultAtMost.fault (c : Ctl) (k : LineFault) : c.FaultAtMost (c.lineFault k) := .inr ⟨k, rfl⟩

theorem State.checkFrame_ctl (len : Nat) (got : List Byte) : s.ctl.FaultAtMost (s.checkFrame len got).ctl := by
  unfold State.checkFrame State.offerFrame
  simp only
  split
  · split
    · exact .inl rfl
    · exact .fault s.ctl .overrun
  · exact .fault s.ctl .check

theorem State.rxData_ctl (b : Byte) : s.ctl.FaultAtMost (s.rxData b).ctl := by
  unfold State.rxData
  split
  · split <;> exact .inl rfl
  · simp only
    split
    · exact .inl rfl
    · split
      · exact .fault s.ctl .length
      · exact .inl rfl
  · simp only
    split
    · exact .inl rfl
    · split <;> exact .inl rfl
  · simp only
    split <;> exact .inl rfl
  · simp only
    split
    · exact .inl rfl
    · exact s.checkFrame_ctl _ _

/-- A byte received changes the shared state by a line fault at most (R175). -/
theorem State.rxByte_ctl (b : RxByte) : s.ctl.FaultAtMost (s.rxByte b).ctl := by
  unfold State.rxByte
  split
  · split
    · exact .inl rfl
    · exact .fault s.ctl .framing
  · exact s.rxData_ctl b.data

theorem State.rxBytes_fileRun {a : Ctl} (bytes : List RxByte) (h : Ctl.FileRun True a s.ctl) :
    Ctl.FileRun True a (bytes.foldl State.rxByte s).ctl := by
  induction bytes generalizing s with
  | nil => exact h
  | cons b bytes ih =>
    refine ih _ ?_
    obtain e | ⟨k, e⟩ := s.rxByte_ctl b <;> rw [e]
    · exact h
    · exact h.lineFault

theorem Ctl.FileRun.afterLeaving {a c : Ctl} {e : OutEntry} (h : FileRun True a c) :
    FileRun True a (c.afterLeaving e) := by
  unfold Ctl.afterLeaving
  split
  · exact h.same rfl rfl rfl rfl rfl
  · split
    · exact h
    · exact h.testRetire.settle
  · exact h

theorem State.transmit_fileEvent : s.ctl.FileEvent s.transmit.ctl := by
  unfold State.transmit
  split
  · next left => exact .sent left (Ctl.FileRun.refl _).afterLeaving
  · exact .run (.refl _)

theorem State.dataBlock_fileRun {p : PortId} {q : Byte} {l : List Byte} {k : BitVec 16} :
    Ctl.FileRun True s.ctl (s.dataBlock p q l k).ctl := by
  have placed (f : Flight) (l : List Byte) : (s.placeBlock p f l).ctl = s.ctl := by
    unfold State.placeBlock
    split
    · rfl
    · split <;> rfl
  unfold State.dataBlock
  split
  · exact .refl _
  · simp only
    split
    · exact .refl _
    · split
      · simp only [placed]
        exact (Ctl.FileRun.refl _).setLink
      · exact (Ctl.FileRun.refl _).setLink

theorem State.beginReset_fileEvent {c : Ctl} (r : ResetCtl) : c.FileEvent (s.beginReset r).ctl :=
  .reset rfl fun m => by
    rw [show (s.beginReset r).ctl.job m = _ from Ctl.resetValues_job s.ctl.rateCode s.ctl.debounce m]
    rfl

theorem State.release_fileEvent (r : ResetCtl) (p : StrapPins) : s.ctl.FileEvent (s.release r p).ctl := by
  unfold State.release
  simp only
  split
  · exact .run (.refl _)
  · refine .reset rfl fun m => ?_
    rw [show (State.endReset _ p).ctl.job m = _ from Ctl.resetValues_job (strapRate p) (strapDebounce p) m]
    rfl

theorem State.sent_fileEvent : s.ctl.FileEvent s.sent.ctl := by
  unfold State.sent
  split
  · exact .run (.refl _)
  · split
    · exact s.beginReset_fileEvent _
    · exact .run (.refl _)

theorem State.ite_fileEvent {p : Prop} [Decidable p] {t : State} (h : s.ctl.FileEvent t.ctl) :
    s.ctl.FileEvent (if p then t else s).ctl := by
  split
  · exact h
  · exact .run (.refl _)

theorem State.stays_fileEvent {p : Prop} [Decidable p] {t : State} (h : s.ctl.FileEvent t.ctl) :
    s.ctl.FileEvent (if p then s else t).ctl := by
  split
  · exact .run (.refl _)
  · exact h

end

theorem Ctl.FileEvent.of_next {c : Ctl} {u t : State}
    (h : (Host.Outcome.next u : Host.Outcome State Fault Refusal) = .next t) (e : c.FileEvent u.ctl) :
    c.FileEvent t.ctl := by
  cases h
  exact e

section
open Ctl.FileRun

/-- Every command makes one event of the files. -/
theorem exec_fileEvent {i : Instr} {s t : State} (h : exec i s = .next t) : s.ctl.FileEvent t.ctl := by
  have start : Ctl.FileRun True s.ctl s.ctl := .refl _
  cases i <;> refine .of_next h ?_
  -- the line
  case frameReceived bytes => exact s.run_fileEvent (.run (s.rxBytes_fileRun bytes start))
  case receiveGapTimeout =>
    refine s.run_fileEvent (s.stays_fileEvent ?_)
    exact .run start.lineFault
  case transmitStart => exact s.run_fileEvent s.transmit_fileEvent
  case frameSent => exact s.run_fileEvent s.sent_fileEvent
  -- requests
  case badKindRequest =>
    split
    · exact s.stays_fileEvent (s.answer_fileEvent .error)
    · exact .run start
  case partReset =>
    split
    · exact s.ite_fileEvent (s.answer_fileEvent (reqPartReset_answers _ _))
    · exact .run start
  case ident => exact s.request_fileEvent fun l => reqIdent_answers l _
  case noticeSet => exact s.request_fileEvent fun l => reqNoticeSet_answers l _
  case portQuery => exact s.request_fileEvent fun l => reqPortQuery_answers l _
  case lampSet => exact s.request_fileEvent fun l => reqLampSet_answers l _
  case jobOpen => exact s.request_fileEvent fun l => reqJobOpen_answers l _
  case jobStart => exact s.request_fileEvent fun l => reqJobStart_answers l _
  case fileAdd => exact s.request_fileEvent fun l => reqFileAdd_answers l _
  case jobClose => exact s.request_fileEvent fun l => reqJobClose_answers l _
  case jobSuspend => exact s.request_fileEvent fun l => reqJobSuspend_answers l _
  case jobResume => exact s.request_fileEvent fun l => reqJobResume_answers l _
  case jobDrop => exact s.request_fileEvent fun l => reqJobDrop_answers l _
  case jobStop => exact s.request_fileEvent fun l => reqJobStop_answers l _
  case jobClear => exact s.request_fileEvent fun l => reqJobClear_answers l _
  case jobFree => exact s.request_fileEvent fun l => reqJobFree_answers l _
  case jobQuery => exact s.request_fileEvent fun l => reqJobQuery_answers l _
  case scanStart => exact s.request_fileEvent fun l => reqScanStart_answers l _
  case scanStop => exact s.request_fileEvent fun l => reqScanStop_answers l _ _
  -- resets
  case partResetTimerExpiry straps => exact s.ite_fileEvent (s.release_fileEvent _ _)
  case resetPinAssert => exact s.stays_fileEvent (s.beginReset_fileEvent _)
  case resetPinRelease straps => exact s.ite_fileEvent (s.release_fileEvent _ _)
  case supplyFail => exact s.stays_fileEvent (s.beginReset_fileEvent _)
  case supplyValid straps => exact s.ite_fileEvent (s.release_fileEvent _ _)
  -- links
  case linkResetExpiry port => exact s.runCtl_fileEvent start.linkResetEnds
  case dataBlockReceived port seq data check => exact s.run_fileEvent (.run s.dataBlock_fileRun)
  case statusRecordReceived port seq code identity check => exact s.runCtl_fileEvent start.statusRecord
  case linkTimeout port => exact s.runCtl_fileEvent start.linkTimeout
  -- samples of PRESENT
  case cardInsertionBegin n => exact s.runCtl_fileEvent (.ite (fun _ => start.cardSample) fun _ => start)
  case cardSettled n => exact s.runCtl_fileEvent (.ite (fun _ => start.cardSample) fun _ => start)
  case cardRemoval n => exact s.runCtl_fileEvent (.ite (fun _ => start.cardLow) fun _ => start)
  case driveAttachBegin d => exact s.runCtl_fileEvent (.ite (fun _ => start.driveSample) fun _ => start)
  case driveSettled d => exact s.runCtl_fileEvent (.ite (fun _ => start.driveSample) fun _ => start)
  case driveAbsence d => exact s.runCtl_fileEvent (.ite (fun _ => start.driveSample) fun _ => start)
  case presentSample port high =>
    refine s.runCtl_fileEvent ?_
    cases port with
    | card n => exact .ite (fun _ => start.cardSample) fun _ => start.cardLow
    | drive d => exact start.driveSample
  -- the units
  case digestStart => exact s.runCtl_fileEvent start.digestBegin
  case digestComputationEnd =>
    refine s.runCtl_fileEvent ?_
    split
    · exact start
    · exact start.digestFinish
  case blankCheckEnd n =>
    refine s.runCtl_fileEvent ?_
    split
    · exact start.examinationEnd
    · exact start
  case lampBlinkToggle n => exact s.runCtl_fileEvent start.modCard

end

end Sys2Proof.Machine

namespace Sys2Proof.Machine

/-! ## Names and queues over a step -/

theorem Ctl.joinFile_files (c : Ctl) (n : CardNo) (q : FileAddReq) :
    (c.joinFile n q).files = c.files ++ [c.newFile n q] := rfl

theorem Ctl.joinFile_fresh {c : Ctl} (n : CardNo) (q : FileAddReq) (h : c.FileNamesFresh) :
    (c.joinFile n q).FileNamesFresh := by
  obtain ⟨nodup, older⟩ := h
  refine ⟨?_, fun f hf => ?_⟩
  · rw [Ctl.joinFile_files, List.map_append, List.nodup_append]
    refine ⟨nodup, List.nodup_singleton _, fun r hr r' hr' e => ?_⟩
    obtain ⟨f, hf, rfl⟩ := List.mem_map.1 hr
    have named : f.ref = (c.newFile n q).ref := e.trans (List.mem_singleton.1 hr')
    exact (older f hf).ne (congrArg FileRef.num named)
  · rw [Ctl.joinFile_files, List.mem_append, List.mem_singleton] at hf
    obtain hf | rfl := hf
    · exact (older f hf).trans (Nat.lt_succ_self _)
    · exact Nat.lt_succ_self _

/-- An event keeps names distinct and older than the next one. -/
theorem Ctl.FileEvent.fresh {c t : Ctl} (h : c.FileEvent t) (fresh : c.FileNamesFresh) : t.FileNamesFresh := by
  cases h with
  | run h => exact h.fresh fresh
  | sent _ h => exact h.fresh fresh
  | @joined n q h => exact h.fresh (Ctl.joinFile_fresh n q fresh)
  | opened _ h => exact h.fresh fresh
  | freed _ h => exact h.fresh (Ctl.fresh_of_names (List.filter_sublist.map _) le_rfl fresh)
  | reset none _ => exact ⟨by simp [none], by simp [none]⟩

/-- A step is an event of the files, or idles. -/
theorem step_fileEvent {s t : State} (h : step s = .next t) : s.ctl.FileEvent t.ctl := by
  unfold step at h
  split at h
  · cases h
    exact .run (.refl _)
  · have event := exec_fileEvent h
    exact event

/-- Settles O5: the names are kept by what an event of the files can be. -/
theorem fileNamesStayDistinct : Obligations.FileNamesStayDistinct := by
  intro s t fresh h
  exact (step_fileEvent h).fresh fresh

/-- What job n's queue holds in t is what it held in c with files added behind, less some in front; those retire. -/
def Ctl.LeavesFromTheHead (c t : Ctl) (n : CardNo) : Prop :=
  ∃ added k,
    (t.queue n).map (·.ref) = ((c.queue n).map (·.ref) ++ added).drop k ∧ (∀ r ∈ added, c.nextFile ≤ r.num)
      ∧ ((c.job n).state ≠ .free → (t.job n).state ≠ .free →
          c.Retires t n (((c.queue n).map (·.ref) ++ added).take k))

section
variable {c u t : Ctl} {n : CardNo}

/-- A run after files have joined job n's queue and an entry has left the output queue takes files from the head. -/
theorem Ctl.FileRun.leavesFromTheHead (h : Ctl.FileRun True u t) (nodup : (u.files.map (·.ref)).Nodup)
    (more : List FileRec) (queue : u.queue n = c.queue n ++ more) (new : ∀ f ∈ more, c.nextFile ≤ f.ref.num)
    (left : Nat) (one : left ≤ 1)
    (outq : u.outq.filter (OutEntry.isDoneOf n) = (c.outq.filter (OutEntry.isDoneOf n)).drop left)
    (tally : (c.job n).state ≠ .free → (u.job n).tally = (c.job n).tally) : c.LeavesFromTheHead t n := by
  obtain ⟨-, -, queues⟩ := h.retiresTo nodup
  obtain ⟨files, hr⟩ := queues n
  have names : (c.queue n).map (·.ref) ++ more.map (·.ref) = files.map (·.1.ref) ++ (t.queue n).map (·.ref) := by
    rw [← hr.names, queue, List.map_append]
  have count : (files.map (·.1.ref)).length = files.length := List.length_map _
  refine ⟨more.map (·.ref), files.length, ?_, ?_, fun hc _ => ⟨files, ?_, fun p hp => ?_, ⟨left, one, ?_⟩, ?_, ?_⟩⟩
  · rw [names, List.drop_left' count]
  · intro r hr
    obtain ⟨f, hf, rfl⟩ := List.mem_map.1 hr
    exact new f hf
  · rw [names, List.take_left' count]
  · obtain ⟨complete, goes⟩ := hr.gone p hp
    refine ⟨complete, fun g hg e => ?_⟩
    have on := goes g (by rw [queue]; exact List.mem_append_left _ hg) e
    refine ⟨on.id, on.len, fun o ho => ?_⟩
    have same := complete.symm.trans (on.complete o ho)
    exact FileState.complete.inj same
  all_goals
    have tally := tally hc
    simp only [Job.tally, Prod.mk.injEq] at tally
    obtain ⟨retired, clean, verify⟩ := tally
  · exact hr.done.trans (by rw [outq, verify]; rfl)
  · rw [hr.retired, retired]
  · rw [hr.clean, clean]

/-- Of a queue that ends empty, of a record that ends FREE, all files have left. -/
theorem Ctl.leavesFromTheHead_of_empty (queue : t.queue n = []) (free : (t.job n).state = .free) :
    c.LeavesFromTheHead t n :=
  ⟨[], (c.queue n).length, by simp [queue], by simp, fun _ ht => (ht free).elim⟩

/-- The leaving of an entry takes at most one FILE_DONE, from the front. -/
theorem filter_tail {α : Type} (p : α → Bool) (e : α) (rest : List α) :
    ∃ left, left ≤ 1 ∧ rest.filter p = ((e :: rest).filter p).drop left := by
  cases h : p e
  · exact ⟨0, by omega, by rw [List.filter_cons_of_neg (by simp [h]), List.drop_zero]⟩
  · exact ⟨1, le_rfl, by rw [List.filter_cons_of_pos h, List.drop_one, List.tail_cons]⟩

theorem Ctl.FileEvent.leavesFromTheHead (h : c.FileEvent t) (fresh : c.FileNamesFresh) (n : CardNo) :
    c.LeavesFromTheHead t n := by
  have kept : c.queue n = c.queue n ++ [] := (List.append_nil _).symm
  have none : ∀ f ∈ ([] : List FileRec), c.nextFile ≤ f.ref.num := by simp
  cases h with
  | run h => exact h.leavesFromTheHead fresh.1 [] kept none 0 (by omega) rfl fun _ => rfl
  | @sent e rest left h =>
    obtain ⟨k, one, outq⟩ := filter_tail (OutEntry.isDoneOf n) e rest
    exact h.leavesFromTheHead fresh.1 [] kept none k one (by rw [left]; exact outq) fun _ => rfl
  | @joined m q h =>
    have queue : (c.joinFile m q).queue n = _ := c.queue_append n (c.newFile m q)
    refine h.leavesFromTheHead (Ctl.joinFile_fresh m q fresh).1 _ queue (fun f hf => ?_) 0 (by omega) rfl fun _ => ?_
    · split at hf
      · exact (congrArg (·.ref.num) (List.mem_singleton.1 hf)).ge
      · cases hf
    · rw [Ctl.joinFile, Ctl.modJob_job_ite]
      split
      · next e => rw [e]; rfl
      · rfl
  | @opened m j free h =>
    refine h.leavesFromTheHead fresh.1 [] kept none 0 (by omega) rfl fun hn => ?_
    rw [Ctl.modJob_job_ne c _ fun e : n = m => hn (e ▸ free)]
  | @freed m free h =>
    have nodup : ((c.recordFreed m).files.map (·.ref)).Nodup := fresh.1.sublist (List.filter_sublist.map _)
    by_cases e : n = m
    · rw [e]
      obtain ⟨-, -, queues⟩ := h.retiresTo nodup
      obtain ⟨files, hr⟩ := queues m
      have names := hr.names
      rw [Ctl.recordFreed_queue] at names
      exact Ctl.leavesFromTheHead_of_empty (List.map_eq_nil_iff.1 (List.append_eq_nil_iff.1 names.symm).2) free
    · have others := (c.recordFreed_otherJobs m).1 n e
      exact h.leavesFromTheHead nodup [] (others.2.trans kept) none 0 (by omega) rfl fun _ => by rw [others.1]
  | reset none free => exact Ctl.leavesFromTheHead_of_empty (by simp [Ctl.queue, none]) (free n)

end

/-! ## The test of a head (R56, R57) -/

section
variable {c : Ctl} {n : CardNo} {f : FileRec} {more : List FileRec} {o : FileOutcome}

/-- Without a COMPLETE head the job does not wait for room. -/
theorem Ctl.testRetire_none (h : ∀ f more, c.queue n = f :: more → f.isComplete = false) :
    c.testRetire n = c.setFileDoneWaiting n false := by
  unfold Ctl.testRetire Ctl.retireRun
  split
  · rfl
  · next f hf =>
    obtain ⟨more, hq⟩ := List.head?_eq_some_iff.1 hf
    split
    · next o hs => exact (FileRec.not_complete (h f more hq) o hs).elim
    · rfl

/-- A COMPLETE head waits where 16 FILE_DONE are queued. -/
theorem Ctl.testRetire_waits (hq : c.queue n = f :: more) (hs : f.state = .complete o) (full : 16 ≤ c.fileDoneCount) :
    c.testRetire n = c.setFileDoneWaiting n true := by
  unfold Ctl.testRetire Ctl.retireRun
  simp only [hq, List.head?_cons, hs]
  exact if_neg (Nat.not_lt.2 full)

theorem Ctl.retire_files_length (nodup : (c.files.map (·.ref)).Nodup) (hf : f ∈ c.files) :
    (c.retire f o).files.length + 1 = c.files.length := by
  have one : (c.files.filter fun g => g.ref == f.ref).length = 1 := by
    have count := List.count_eq_one_of_mem nodup (List.mem_map_of_mem (f := (·.ref)) hf)
    rwa [List.count, List.countP_map, List.countP_eq_length_filter] at count
  have split := List.length_eq_length_filter_add (l := c.files) fun g => g.ref == f.ref
  rw [Ctl.retire_files, split, one, Nat.add_comm]
  rfl

/-- With room the head retires, and the next head is tested. -/
theorem Ctl.testRetire_retires (nodup : (c.files.map (·.ref)).Nodup) (hq : c.queue n = f :: more)
    (hs : f.state = .complete o) (room : c.fileDoneCount < 16) : c.testRetire n = (c.retire f o).testRetire n := by
  have hf : f ∈ c.files := (List.mem_filter.1 (hq ▸ List.mem_cons_self : f ∈ c.queue n)).1
  have run : c.retireRun (c.files.length + 1) n = (c.retire f o).retireRun c.files.length n := by
    rw [Ctl.retireRun]
    simp only [hq, List.head?_cons, hs]
    exact if_pos room
  rw [Ctl.testRetire, run, Ctl.testRetire, Ctl.retire_files_length nodup hf]

/-- A run of changes that leaves the file table alone leaves tallies, the turn and every FILE_DONE. -/
theorem Ctl.FileRun.kept {c t : Ctl} (h : Ctl.FileRun False c t) :
    (∀ m, (t.job m).tally = (c.job m).tally) ∧ t.fileDoneTurn = c.fileDoneTurn
      ∧ t.outq.filter OutEntry.isFileDone = c.outq.filter OutEntry.isFileDone := by
  induction h with
  | refl => exact ⟨fun _ => rfl, rfl, rfl⟩
  | tail _ s ih =>
    obtain ⟨tally, turn, outq⟩ := ih
    cases s with
    | quiet _ _ jobs turn' outq' =>
      exact ⟨fun m => (jobs m).trans (tally m), turn'.trans turn, outq'.trans outq⟩
    | change hm => exact hm.elim
    | retire hm => exact hm.elim

theorem Ctl.retired_fileRun (c : Ctl) (f : FileRec) (o : FileOutcome) :
    Ctl.FileRun False (c.retired f o) (c.retire f o) := by
  rw [Ctl.retire_eq]
  exact (Ctl.FileRun.refl _).eachDrive fun _ _ h => h.endEntries

/-- What a retirement leaves of its job and of the queues (R56 to R58, R106). -/
theorem Ctl.retire_head (nodup : (c.files.map (·.ref)).Nodup) (hq : c.queue n = f :: more) (o : FileOutcome) :
    let t := c.retire f o
    let j := c.job n
    t.queue n = more ∧ t.fileDoneTurn = n
      ∧ t.outq.filter OutEntry.isFileDone = c.outq.filter OutEntry.isFileDone
          ++ [{ kind := .notice (.fileDone n), tag := 0, payload := f.donePayload o j.verify }]
      ∧ (t.job n).retired = (j.retired + 1) % 2 ^ 32 ∧ (t.job n).clean = (j.clean && o == .good)
      ∧ ∀ m, m ≠ n → t.queue m = c.queue m ∧ t.job m = c.job m := by
  obtain rfl : f.ref.job = n := Ctl.mem_queue_job (hq ▸ List.mem_cons_self)
  have run := c.retired_fileRun f o
  obtain ⟨tally, -, outq⟩ := run.kept
  have tally := tally f.ref.job
  simp only [Ctl.retired_job, Job.tally, Prod.mk.injEq] at tally
  obtain ⟨retired, clean, -⟩ := tally
  refine ⟨?_, Ctl.retire_fileDoneTurn c f o, ?_, retired, clean, fun m hm => ?_⟩
  · rw [Ctl.queue_of_files run.files_eq, Ctl.retired_queue nodup hq]
  · rw [outq, Ctl.retired_outq, List.filter_append]
    rfl
  · have others := (Ctl.retire_leads (N := (· = f.ref.job)) (M := (· = f.ref.job)) (c := c) rfl rfl o).otherJobs.1 m hm
    exact ⟨others.2, others.1⟩

end

/-- Settles O12: the queues by what an event of the files can be, the test of a head by its branches. -/
theorem filesLeaveFromTheHead : Obligations.FilesLeaveFromTheHead := by
  refine ⟨fun s t n fresh h => (step_fileEvent h).leavesFromTheHead fresh n, fun c n fresh => ⟨Ctl.testRetire_none, ?_⟩⟩
  intro f more o hq hs
  exact ⟨Ctl.testRetire_waits hq hs, fun room =>
    ⟨Ctl.testRetire_retires fresh.1 hq hs room, Ctl.retire_head fresh.1 hq o⟩⟩

end Sys2Proof.Machine

namespace Sys2Proof.Machine

/-! ## The room of a sent FILE_DONE (R57) -/

/-- The contents of FILE_DONE as R58 lists them. -/
theorem FileRec.donePayload_eq (f : FileRec) (o : FileOutcome) (v : VerifyMode) :
    f.donePayload o v =
      [BitVec.ofNat 8 f.ref.job.val] ++ leBytes 4 f.id ++ leBytes 5 f.len ++ [o.code]
        ++ leBytes 2 (if f.result = .good then f.acc.a else 0) ++ leBytes 2 (if f.result = .good then f.acc.b else 0)
        ++ [BitVec.ofNat 8 (if f.result = .good then
              f.dests.countP fun e => e.result == .verified || (e.result == .written && v == .off) else 0),
            BitVec.ofNat 8 f.dests.length]
        ++ f.dests.flatMap fun e =>
          [BitVec.ofNat 8 e.port.val,
              (if e.result = .pending ∨ (e.result = .written ∧ v = .readback) then DestResult.skipped
                else e.result).code]
            ++ (if e.result = .mismatch then leBytes 2 e.verA ++ leBytes 2 e.verB else [0, 0, 0, 0]) := by
  have copies : f.goodCopies v = f.dests.countP fun e => e.result == .verified || (e.result == .written && v == .off) :=
    List.countP_congr fun e _ => by cases e.result <;> cases v <;> decide
  have entry (e : FileDest) : e.doneBytes v = [BitVec.ofNat 8 e.port.val,
      (if e.result = .pending ∨ (e.result = .written ∧ v = .readback) then DestResult.skipped else e.result).code]
        ++ (if e.result = .mismatch then leBytes 2 e.verA ++ leBytes 2 e.verB else [0, 0, 0, 0]) := by
    unfold FileDest.doneBytes
    cases e.result <;> cases v <;> rfl
  simp only [FileRec.donePayload, copies, List.flatMap_def, funext entry, beq_iff_eq]

/-- Without room the test of a head says only whether the job waits. -/
theorem Ctl.testRetire_full {c : Ctl} (n : CardNo) (full : 16 ≤ c.fileDoneCount) :
    ∃ b, c.testRetire n = c.setFileDoneWaiting n b := by
  unfold Ctl.testRetire Ctl.retireRun
  split
  · exact ⟨_, rfl⟩
  · split
    · exact ⟨true, if_neg (Nat.not_lt.2 full)⟩
    · exact ⟨_, rfl⟩

/-- The room goes to the first waiting job after the turn. -/
theorem Ctl.grantRoom_eq {c : Ctl} {n : CardNo} (waits : c.fileDoneWaiting[n] = true)
    (first : ∀ j : CardNo, (j - c.fileDoneTurn - 1).val < (n - c.fileDoneTurn - 1).val → c.fileDoneWaiting[j] = false) :
    c.grantRoom = some n := by
  have place (i : CardNo) : c.fileDoneTurn + 1 + i - c.fileDoneTurn - 1 = i := by abel
  have here : c.fileDoneTurn + 1 + (n - c.fileDoneTurn - 1) = n := by abel
  rw [Ctl.grantRoom, List.find?_eq_some_iff_getElem]
  refine ⟨waits, (n - c.fileDoneTurn - 1).val, by simp, by simp [here], fun k hk => ?_⟩
  have before := first (c.fileDoneTurn + 1 + ⟨k, by omega⟩) (by rw [place]; exact hk)
  simpa using before

/-- c and t agree on the names in the queues, on what retirements change, and on FILE_DONE. -/
structure Ctl.SameRetirements (c t : Ctl) : Prop where
  names : ∀ m, (t.queue m).map (·.ref) = (c.queue m).map (·.ref)
  tally : ∀ m, (t.job m).tally = (c.job m).tally
  turn : t.fileDoneTurn = c.fileDoneTurn
  outq : t.outq.filter OutEntry.isFileDone = c.outq.filter OutEntry.isFileDone

section
variable {a c t : Ctl} {n : CardNo}

theorem Ctl.SameRetirements.trans (h : a.SameRetirements c) (g : c.SameRetirements t) : a.SameRetirements t :=
  ⟨fun m => (g.names m).trans (h.names m), fun m => (g.tally m).trans (h.tally m), g.turn.trans h.turn,
    g.outq.trans h.outq⟩

theorem Ctl.FileRun.sameRetirements (h : Ctl.FileRun False c t) : c.SameRetirements t := by
  obtain ⟨tally, turn, outq⟩ := h.kept
  exact ⟨fun m => by rw [Ctl.queue_of_files h.files_eq], tally, turn, outq⟩

theorem Ctl.SameRetirements.fileDoneCount (h : c.SameRetirements t) : t.fileDoneCount = c.fileDoneCount := by
  simp only [Ctl.fileDoneCount, List.countP_eq_length_filter, h.outq]

theorem Ctl.abandonFiles_sameRetirements : c.SameRetirements (c.abandonFiles n) := by
  refine ⟨fun m => ?_, fun _ => rfl, rfl, rfl⟩
  have ref (f : FileRec) : (if f.ref.job = n ∧ f.isComplete = false then
      { f with state := .complete .abandoned } else f : FileRec).ref = f.ref := by split <;> rfl
  simp only [Ctl.queue, Ctl.abandonFiles, List.filter_map, List.map_map, Function.comp_def, ref]

/-- A stop drains without a retirement while there is no room. -/
theorem Ctl.drainedStop_full (full : 16 ≤ c.fileDoneCount) : c.SameRetirements (c.drainedStop n) := by
  have drained : Ctl.FileRun False c ((c.slabsWhere fun s => s.isSourceOf n).foldl (Ctl.drainSlab n) c) :=
    .foldl (fun _ _ h => h.drainSlab) _ (.refl c)
  have abandoned := drained.sameRetirements.trans (Ctl.abandonFiles_sameRetirements (n := n))
  obtain ⟨b, e⟩ := Ctl.testRetire_full n (abandoned.fileDoneCount.symm ▸ full)
  rw [Ctl.drainedStop, e]
  exact abandoned.trans (Ctl.FileRun.refl _).setFileDoneWaiting.sameRetirements

/-- A job settles without a retirement while there is no room. -/
theorem Ctl.settle_full (full : 16 ≤ c.fileDoneCount) : c.SameRetirements (c.settle n) := by
  have start : Ctl.FileRun False c c := .refl c
  by_cases e : (c.job n).state = .stopping
  · have kept := start.dropStaleWait (n := n)
    rw [Ctl.settle_stopping e]
    split
    · have drained := kept.sameRetirements.trans
        (Ctl.drainedStop_full (n := n) (kept.sameRetirements.fileDoneCount.symm ▸ full))
      rw [Ctl.drainStop_eq]
      split
      · exact drained.trans (Ctl.FileRun.refl _).endJob.sameRetirements
      · exact drained
    · exact kept.sameRetirements
  · exact (start.settle_of_ne e).sameRetirements

theorem Ctl.stopDrained_congr (drives : t.drives = c.drives) (slabs : t.slabs = c.slabs) (cards : t.cards = c.cards)
    (digest : t.digest = c.digest) (first : (t.job n).firstFile = (c.job n).firstFile) :
    t.stopDrained n = c.stopDrained n := by
  have files : t.isFileOf n = c.isFileOf n := funext fun r => by simp only [Ctl.isFileOf, first]
  simp only [Ctl.stopDrained, Ctl.txnOf, Ctl.digestOf, Ctl.driveBusyFor, Ctl.writingOf, Ctl.verifySlabOf, files, digest,
    Ctl.drive_of_drives drives, Ctl.slab_of_slabs slabs, Ctl.card_of_cards cards]

/-- A STOPPING job with nothing under way and no file left ends (R26). -/
theorem Ctl.settle_stopEnds (hs : (c.job n).state = .stopping) (hd : c.stopDrained n = true)
    (full : 16 ≤ c.fileDoneCount) (hq : c.queue n = []) :
    ((c.settle n).job n).state = .ended ∧ ((c.settle n).job n).endReason = (c.job n).endReason := by
  have kept := (Ctl.FileRun.refl (may := False) c).dropStaleWait (n := n) |>.sameRetirements
  have drains : (c.dropStaleWait n).stopDrained n = true :=
    (Ctl.stopDrained_congr (c := c) (by simp) (by simp) (by simp) (by simp) (by rw [Ctl.dropStaleWait_job])).trans hd
  have drained := kept.trans (Ctl.drainedStop_full (n := n) (kept.fileDoneCount.symm ▸ full))
  have empty : ((c.dropStaleWait n).drainedStop n).queue n = [] := by
    have names := drained.names n
    rwa [hq, List.map_nil, List.map_eq_nil_iff] at names
  have core := (Ctl.drainedStop_leads (N := (· = n)) (M := (· = n)) (c := c.dropStaleWait n) rfl rfl
    (Ctl.stopDrained_txnOf drains)).jobsKept.core n
  obtain ⟨-, -, -, -, -, -, -, reason, -⟩ := Job.core_fields core
  rw [Ctl.settle_stopping hs, if_pos drains, Ctl.drainStop_eq, if_pos (by rw [empty]; rfl), Ctl.endJob_job]
  rw [Ctl.dropStaleWait_job] at reason
  simp only [Job.endedBy, reason, and_self]

end

/-- A sent FILE_DONE is followed by the test and the settling of the job its room is granted to. -/
theorem Ctl.afterLeaving_fileDone {c : Ctl} {e : OutEntry} {m n : CardNo} (he : e.kind = .notice (.fileDone m))
    (granted : c.grantRoom = some n) : c.afterLeaving e = (c.testRetire n).settle n := by
  simp only [Ctl.afterLeaving, he, granted]

theorem exec_transmitStart {s : State} {e : OutEntry} {rest : List OutEntry} (running : s.inReset = false)
    (line : s.tx = none) (left : s.ctl.outq = e :: rest) :
    exec .transmitStart s = .next { s with
      ctl := (s.ctl.setOutq rest).afterLeaving e, tx := some { bytes := e.frame, resetAfter := e.isResetDone } } := by
  have run : exec .transmitStart s = .next (s.run State.transmit) := rfl
  rw [run, State.run_of_running _ _ running, State.transmit, line, left]

/-! ### The last room, and what settles -/

/-- From c to t file f alone retires from the head of job n's queue, and FILE_DONE has no room left. -/
structure Ctl.HeadRetires (c t : Ctl) (n : CardNo) (f : FileRec) (more : List FileRec) (o : FileOutcome) : Prop where
  queue : t.queue n = more
  turn : t.fileDoneTurn = n
  outq : t.outq.filter OutEntry.isFileDone = c.outq.filter OutEntry.isFileDone
    ++ [{ kind := .notice (.fileDone n), tag := 0, payload := f.donePayload o (c.job n).verify }]
  retired : (t.job n).retired = ((c.job n).retired + 1) % 2 ^ 32
  clean : (t.job n).clean = ((c.job n).clean && o == .good)
  others : ∀ m, m ≠ n → t.queue m = c.queue m ∧ t.job m = c.job m
  core : (t.job n).core = (c.job n).core
  full : 16 ≤ t.fileDoneCount
  beyond : c.NoWritesOf n → c.SameBeyondFiles t

section
variable {c t : Ctl} {n : CardNo} {f : FileRec} {more : List FileRec} {o : FileOutcome}

theorem Ctl.HeadRetires.setFileDoneWaiting (h : c.HeadRetires t n f more o) (b : Bool) :
    c.HeadRetires (t.setFileDoneWaiting n b) n f more o :=
  ⟨h.queue, h.turn, h.outq, h.retired, h.clean, h.others, h.core, h.full,
    fun e => (h.beyond e).trans ⟨rfl, rfl, rfl, rfl, rfl, rfl, rfl⟩⟩

/-- With room for one the head alone retires. -/
theorem Ctl.testRetire_lastRoom (nodup : (c.files.map (·.ref)).Nodup) (hq : c.queue n = f :: more)
    (hs : f.state = .complete o) (room : c.fileDoneCount = 15) : c.HeadRetires (c.testRetire n) n f more o := by
  obtain rfl : f.ref.job = n := Ctl.mem_queue_job (hq ▸ List.mem_cons_self)
  obtain ⟨queue, turn, outq, retired, clean, others⟩ := Ctl.retire_head nodup hq o
  have full : 16 ≤ (c.retire f o).fileDoneCount := by
    rw [Ctl.fileDoneCount, List.countP_eq_length_filter, outq, List.length_append, ← List.countP_eq_length_filter]
    exact Nat.succ_le_succ room.ge
  have lead := Ctl.retire_leads (N := (· = f.ref.job)) (M := (· = f.ref.job)) (c := c) rfl rfl o
  have head : c.HeadRetires (c.retire f o) f.ref.job f more o :=
    ⟨queue, turn, outq, retired, clean, others, lead.jobsKept.core f.ref.job, full,
      fun h => Ctl.retire_sameBeyondFiles h o⟩
  rw [Ctl.testRetire_retires nodup hq hs (by omega)]
  obtain ⟨b, e⟩ := Ctl.testRetire_full f.ref.job full
  rw [e]
  exact head.setFileDoneWaiting b

namespace Ctl.HeadRetires

/-- The settling retires no more. -/
theorem settle (h : c.HeadRetires t n f more o) :
    ((t.settle n).queue n).map (·.ref) = more.map (·.ref) ∧ (t.settle n).fileDoneTurn = n
      ∧ ((t.settle n).job n).retired = ((c.job n).retired + 1) % 2 ^ 32
      ∧ ((t.settle n).job n).clean = ((c.job n).clean && o == .good)
      ∧ (t.settle n).outq.filter OutEntry.isFileDone = c.outq.filter OutEntry.isFileDone
          ++ [{ kind := .notice (.fileDone n), tag := 0, payload := f.donePayload o (c.job n).verify }] := by
  have settled := Ctl.settle_full (n := n) h.full
  have tally := settled.tally n
  simp only [Job.tally, Prod.mk.injEq] at tally
  obtain ⟨retired, clean, -⟩ := tally
  exact ⟨by rw [settled.names, h.queue], settled.turn.trans h.turn, retired.trans h.retired, clean.trans h.clean,
    settled.outq.trans h.outq⟩

theorem settle_others (h : c.HeadRetires t n f more o) (i : CardNo) (hi : i ≠ n) :
    (t.settle n).queue i = c.queue i ∧ (t.settle n).job i = c.job i := by
  obtain ⟨queue, job⟩ := h.others i hi
  obtain ⟨job', queue'⟩ := (t.settle_job n).2.1 i hi
  exact ⟨queue'.trans queue, job'.trans job⟩

/-- The records behind the head stand unless the job is STOPPING. -/
theorem settle_queue (h : c.HeadRetires t n f more o) (hj : (c.job n).state ≠ .stopping) :
    (t.settle n).queue n = more := by
  obtain ⟨state, -⟩ := Job.core_fields h.core
  have run := (Ctl.FileRun.refl (may := False) t).settle_of_ne (n := n) (by rwa [state])
  rw [Ctl.queue_of_files run.files_eq, h.queue]

/-- A STOPPING job with nothing under way ends with its last file (R26). -/
theorem settle_stopEnds (h : c.HeadRetires t n f more o) (hj : (c.job n).state = .stopping) (last : more = [])
    (entries : c.NoWritesOf n) (drained : c.stopDrained n = true) :
    ((t.settle n).job n).state = .ended ∧ ((t.settle n).job n).endReason = (c.job n).endReason := by
  obtain ⟨state, -, -, -, -, -, -, reason, -, first, -⟩ := Job.core_fields h.core
  have same := h.beyond entries
  have still : t.stopDrained n = c.stopDrained n :=
    Ctl.stopDrained_congr same.drives same.slabs same.cards same.digest first
  rw [← reason]
  exact Ctl.settle_stopEnds (state.trans hj) (still.trans drained) h.full (h.queue.trans last)

/-- A closed job that is RUNNING or HELD and holds no slab ends with its last file (R8). -/
theorem settle_closedEnds (h : c.HeadRetires t n f more o) (hj : (c.job n).state = .running ∨ (c.job n).state = .held)
    (hc : (c.job n).closed = true) (last : more = []) (slabs : c.sourceCount n = 0) :
    ((t.settle n).job n).state = .ended ∧ ((t.settle n).job n).endReason = .complete := by
  obtain ⟨state, -, -, -, -, closed, -⟩ := Job.core_fields h.core
  have same := h.beyond (Ctl.noWritesOf_of_sourceCount slabs)
  have empty : t.queue n = [] := h.queue.trans last
  have settled := Ctl.settle_runningOrHeld (c := t) (n := n) (by rwa [state])
  have count : (t.settle n).sourceCount n = 0 := by
    rw [Ctl.sourceCount_of_slabs (settled.slabs empty), Ctl.sourceCount_of_slabs same.slabs, slabs]
  rw [settled.job, if_pos ⟨closed.trans hc, (Ctl.queue_of_files settled.files n).trans empty, count⟩]
  exact ⟨rfl, rfl⟩

end Ctl.HeadRetires

end

/-- Settles O22: the room goes to the job, whose head retires; the queue is then full again, and the job settles. -/
theorem fileDoneRoomGoesRoundTheJobs : Obligations.FileDoneRoomGoesRoundTheJobs := by
  intro s e rest m n f more o fresh running line left he count waits first hq hs
  have room : (s.ctl.setOutq rest).fileDoneCount = 15 := by
    have done : e.isFileDone = true := by simp [OutEntry.isFileDone, he]
    rw [Ctl.fileDoneCount, left, List.countP_cons_of_pos done] at count
    exact Nat.succ.inj count
  have head : (s.ctl.setOutq rest).HeadRetires ((s.ctl.setOutq rest).testRetire n) n f more o :=
    Ctl.testRetire_lastRoom fresh.1 hq hs room
  have granted : (s.ctl.setOutq rest).grantRoom = some n := Ctl.grantRoom_eq waits first
  have run := exec_transmitStart running line left
  rw [Ctl.afterLeaving_fileDone he granted] at run
  obtain ⟨names, turn, retired, clean, outq⟩ := head.settle
  refine ⟨_, run, names, head.settle_queue, turn, retired, clean, ?_, fun hj last entries ht hd => ?_,
    head.settle_closedEnds, head.settle_others⟩
  · rw [FileRec.donePayload_eq, Ctl.mem_queue_job (hq ▸ List.mem_cons_self)] at outq
    exact outq
  · have drained : s.ctl.stopDrained n = true := by rw [Ctl.stopDrained, ht, hd]; rfl
    exact head.settle_stopEnds hj last entries.noWritesOf drained

end Sys2Proof.Machine

namespace Sys2Proof.Machine

/-! ## The layout of FILE_ADD (R191) -/

theorem takeBytes_iff {k : Nat} {bytes got rest : List Byte} :
    takeBytes k bytes = some (got, rest) ↔ got.length = k ∧ bytes = got ++ rest := by
  induction k generalizing bytes got with
  | zero =>
    simp only [takeBytes, Option.some.injEq, Prod.mk.injEq, List.length_eq_zero_iff]
    constructor
    · rintro ⟨rfl, rfl⟩
      exact ⟨rfl, rfl⟩
    · rintro ⟨rfl, rfl⟩
      exact ⟨rfl, rfl⟩
  | succ k ih =>
    cases bytes with
    | nil =>
      refine ⟨fun h => (by cases h), fun ⟨length, e⟩ => ?_⟩
      obtain ⟨rfl, -⟩ := List.append_eq_nil_iff.1 e.symm
      cases length
    | cons b bytes =>
      simp only [takeBytes, Option.map_eq_some_iff, Prod.exists, Prod.mk.injEq]
      constructor
      · rintro ⟨more, left, h, rfl, rfl⟩
        obtain ⟨length, e⟩ := ih.1 h
        exact ⟨congrArg (· + 1) length, congrArg (b :: ·) e⟩
      · rintro ⟨length, e⟩
        obtain ⟨b', more, rfl⟩ := List.exists_cons_of_length_eq_add_one length
        obtain ⟨rfl, split⟩ := List.cons.inj e
        exact ⟨more, rest, ih.2 ⟨Nat.succ.inj length, split⟩, rfl, rfl⟩

theorem leBytes_ofLe (l : List Byte) : leBytes l.length (ofLe l) = l := by
  induction l with
  | nil => rfl
  | cons b l ih =>
    have low : BitVec.ofNat 8 (b.toNat + 256 * ofLe l) = b := BitVec.eq_of_toNat_eq (by
      rw [BitVec.toNat_ofNat]
      omega)
    have high : (b.toNat + 256 * ofLe l) / 256 = ofLe l := by omega
    rw [List.length_cons, ofLe, leBytes, low, high, ih]

theorem ofLe_lt (l : List Byte) : ofLe l < 256 ^ l.length := by
  induction l with
  | nil => exact Nat.one_pos
  | cons b l ih =>
    rw [List.length_cons, Nat.pow_succ, ofLe]
    omega

/-- A number field that has been taken. -/
theorem takeBytes_field {k : Nat} {bytes got rest : List Byte} (h : takeBytes k bytes = some (got, rest)) :
    ofLe got < 256 ^ k ∧ bytes = leBytes k (ofLe got) ++ rest := by
  obtain ⟨rfl, rfl⟩ := takeBytes_iff.1 h
  exact ⟨ofLe_lt got, by rw [leBytes_ofLe]⟩

theorem takeBytes_leBytes (k v : Nat) (rest : List Byte) :
    takeBytes k (leBytes k v ++ rest) = some (leBytes k v, rest) :=
  takeBytes_iff.2 ⟨leBytes_length k v, rfl⟩

theorem ofLe_leBytes_of_lt {k v : Nat} (h : v < 256 ^ k) : ofLe (leBytes k v) = v := by
  rw [ofLe_leBytes, Nat.mod_eq_of_lt h]

/-! ### Extent lists -/

/-- The bytes of one extent (R190). -/
def extentBytes (e : Extent) : List Byte := leBytes 6 e.start ++ leBytes 4 e.count

/-- The values of an extent fit its fields. -/
def Extent.Fits (e : Extent) : Prop := e.start < 2 ^ 48 ∧ e.count < 2 ^ 32

/-- The values of an extent list fit its fields. -/
def listFits (l : Nat × List Extent) : Prop := l.1 = l.2.length ∧ l.1 < 256 ∧ ∀ e ∈ l.2, e.Fits

theorem parseExtents_layout {l : List Extent} (h : ∀ e ∈ l, e.Fits) (rest : List Byte) :
    parseExtents l.length (l.flatMap extentBytes ++ rest) = some (l, rest) := by
  induction l with
  | nil => rfl
  | cons e l ih =>
    obtain ⟨⟨start, count⟩, fits⟩ := List.forall_mem_cons.1 h
    simp only [List.length_cons, parseExtents, List.flatMap_cons, extentBytes, List.append_assoc, takeBytes_leBytes,
      Option.bind_eq_bind, Option.bind_some, ofLe_leBytes_of_lt (k := 6) start, ofLe_leBytes_of_lt (k := 4) count]
    rw [ih fits]
    rfl

theorem layout_of_parseExtents {k : Nat} {bytes rest : List Byte} {l : List Extent}
    (h : parseExtents k bytes = some (l, rest)) :
    l.length = k ∧ (∀ e ∈ l, e.Fits) ∧ bytes = l.flatMap extentBytes ++ rest := by
  induction k generalizing bytes l with
  | zero =>
    cases h
    exact ⟨rfl, by simp, rfl⟩
  | succ k ih =>
    simp only [parseExtents, Option.bind_eq_bind, Option.bind_eq_some_iff, Prod.exists, Option.pure_def,
      Option.some.injEq, Prod.mk.injEq] at h
    obtain ⟨start, r1, h1, count, r2, h2, more, r3, h3, rfl, rfl⟩ := h
    obtain ⟨lt1, rfl⟩ := takeBytes_field h1
    obtain ⟨lt2, rfl⟩ := takeBytes_field h2
    obtain ⟨rfl, fits, rfl⟩ := ih h3
    refine ⟨rfl, List.forall_mem_cons.2 ⟨⟨lt1, lt2⟩, fits⟩, ?_⟩
    rw [List.flatMap_cons, extentBytes, List.append_assoc, List.append_assoc]

theorem listBytes_eq (l : Nat × List Extent) : listBytes l = BitVec.ofNat 8 l.1 :: l.2.flatMap extentBytes := rfl

theorem parseList_layout {l : Nat × List Extent} (h : listFits l) (rest : List Byte) :
    parseList (listBytes l ++ rest) = some (l, rest) := by
  obtain ⟨count, lt, fits⟩ := h
  have byte : (BitVec.ofNat 8 l.1).toNat = l.1 := by rw [BitVec.toNat_ofNat]; omega
  simp only [listBytes_eq, List.cons_append, parseList, byte]
  rw [count, parseExtents_layout fits, ← count]
  rfl

theorem layout_of_parseList {bytes rest : List Byte} {l : Nat × List Extent} (h : parseList bytes = some (l, rest)) :
    listFits l ∧ bytes = listBytes l ++ rest := by
  cases bytes with
  | nil => cases h
  | cons b bytes =>
    simp only [parseList, Option.map_eq_some_iff, Prod.exists, Prod.mk.injEq] at h
    obtain ⟨es, left, h, rfl, rfl⟩ := h
    obtain ⟨count, fits, rfl⟩ := layout_of_parseExtents h
    refine ⟨⟨count.symm, b.isLt, fits⟩, ?_⟩
    simp only [listBytes_eq, BitVec.ofNat_toNat, BitVec.setWidth_eq, List.cons_append]

theorem length_le_listsBytes (ls : List (Nat × List Extent)) : ls.length ≤ (ls.flatMap listBytes).length := by
  induction ls with
  | nil => exact Nat.zero_le _
  | cons l ls ih =>
    simp only [List.flatMap_cons, listBytes_eq, List.length_append, List.length_cons]
    omega

theorem parseLists_layout {fuel : Nat} {ls : List (Nat × List Extent)} (h : ∀ l ∈ ls, listFits l)
    (enough : ls.length ≤ fuel) : parseLists fuel (ls.flatMap listBytes) = some ls := by
  induction ls generalizing fuel with
  | nil => cases fuel <;> rfl
  | cons l ls ih =>
    obtain ⟨fits, more⟩ := List.forall_mem_cons.1 h
    obtain _ | fuel := fuel
    · cases enough
    · have parsed := parseList_layout fits (ls.flatMap listBytes)
      rw [listBytes_eq, List.cons_append] at parsed
      rw [List.flatMap_cons, listBytes_eq, List.cons_append]
      simp only [parseLists, parsed, Option.bind_eq_bind, Option.bind_some, ih more (Nat.le_of_succ_le_succ enough)]
      rfl

theorem layout_of_parseLists {fuel : Nat} {bytes : List Byte} {ls : List (Nat × List Extent)}
    (h : parseLists fuel bytes = some ls) : (∀ l ∈ ls, listFits l) ∧ bytes = ls.flatMap listBytes := by
  induction fuel generalizing bytes ls with
  | zero =>
    cases bytes with
    | nil =>
      cases h
      exact ⟨by simp, rfl⟩
    | cons => cases h
  | succ fuel ih =>
    cases bytes with
    | nil =>
      cases h
      exact ⟨by simp, rfl⟩
    | cons b bytes =>
      simp only [parseLists, Option.bind_eq_bind, Option.bind_eq_some_iff, Prod.exists, Option.pure_def,
        Option.some.injEq] at h
      obtain ⟨n, es, rest, h1, more, h2, rfl⟩ := h
      obtain ⟨fits, e⟩ := layout_of_parseList h1
      obtain ⟨fits', rfl⟩ := ih h2
      exact ⟨List.forall_mem_cons.2 ⟨fits, fits'⟩, by rw [e, List.flatMap_cons]⟩

theorem FileAddReq.fits_iff (q : FileAddReq) :
    q.Fits ↔ q.id < 2 ^ 32 ∧ q.len < 2 ^ 40 ∧ listFits q.source ∧ ∀ l ∈ q.dests, listFits l := by
  simp only [FileAddReq.Fits, List.forall_mem_cons, listFits, Extent.Fits]

/-- A payload parses exactly when it is the layout of fields that fit it. -/
theorem parseFileAdd_iff (bytes : List Byte) (q : FileAddReq) :
    parseFileAdd bytes = some q ↔ q.Fits ∧ bytes = q.payload := by
  rw [q.fits_iff]
  constructor
  · intro h
    simp only [parseFileAdd, Option.bind_eq_bind, Option.bind_eq_some_iff, Prod.exists, Option.pure_def,
      Option.some.injEq] at h
    obtain ⟨job, r0, h0, id, r1, h1, len, r2, h2, n, es, r3, h3, dests, h4, rfl⟩ := h
    obtain ⟨one, rfl⟩ := takeBytes_iff.1 h0
    obtain ⟨b, rfl⟩ := List.length_eq_one_iff.1 one
    obtain ⟨idLt, rfl⟩ := takeBytes_field h1
    obtain ⟨lenLt, rfl⟩ := takeBytes_field h2
    obtain ⟨source, rfl⟩ := layout_of_parseList h3
    obtain ⟨lists, rfl⟩ := layout_of_parseLists h4
    refine ⟨⟨idLt, lenLt, source, lists⟩, ?_⟩
    simp [FileAddReq.payload]
  · rintro ⟨⟨idLt, lenLt, source, lists⟩, rfl⟩
    have layout : q.payload = [q.job] ++ (leBytes 4 q.id ++ (leBytes 5 q.len ++ (listBytes q.source
        ++ q.dests.flatMap listBytes))) := by simp [FileAddReq.payload]
    have job : takeBytes 1 q.payload = some ([q.job], _) := takeBytes_iff.2 ⟨rfl, layout⟩
    simp only [parseFileAdd, job, takeBytes_leBytes, parseList_layout source,
      parseLists_layout lists (length_le_listsBytes _), Option.bind_eq_bind, Option.bind_some, Option.pure_def,
      ofLe_leBytes_of_lt (k := 4) idLt, ofLe_leBytes_of_lt (k := 5) lenLt, List.headD_cons]

/-! ## The checks of FILE_ADD in order (R36 to R38) -/

/-- The reason of the first check that fails. -/
def firstFailing : List (Bool × Reason) → Option Reason
  | [] => none
  | (fails, r) :: more => if fails then some r else firstFailing more

/-- A check as the model runs it says when the check fails, and gives its reason. -/
def Decides (b : Bool × Reason) (p : Prop × Reason) : Prop := (b.1 = true ↔ p.1) ∧ b.2 = p.2

/-- Of checks decided one by one, the first that fails gives the reason. -/
theorem firstFailing_eq {bs : List (Bool × Reason)} {ps : List (Prop × Reason)} (h : List.Forall₂ Decides bs ps)
    (i : Nat) (hi : i < ps.length) (fails : ps[i].1) (before : ∀ k (hk : k < i), ¬ps[k].1) :
    firstFailing bs = some ps[i].2 := by
  induction h generalizing i with
  | nil => cases hi
  | @cons b p bs ps decided _ ih =>
    obtain ⟨decides, reason⟩ := decided
    obtain ⟨fail, r⟩ := b
    cases i with
    | zero =>
      have fail' : fail = true := decides.2 fails
      rw [firstFailing, if_pos fail', List.getElem_cons_zero, ← reason]
    | succ i =>
      have passes : fail = false := by
        rw [Bool.eq_false_iff]
        exact fun e => before 0 (Nat.succ_pos i) (decides.1 e)
      simp only [firstFailing, passes, Bool.false_eq_true, if_false, List.getElem_cons_succ]
      exact ih i (Nat.lt_of_succ_lt_succ hi) fails fun k hk => before (k + 1) (Nat.succ_lt_succ hk)

/-- FILE_ADD's own checks as a list (R37). -/
def Ctl.fileChecks (c : Ctl) (n : CardNo) (q : FileAddReq) : List (Bool × Reason) :=
  [(!q.structureOk (c.job n), .badField), ((c.job n).closed, .closed),
    ((c.queue n).any (fun f => f.id == q.id), .duplicateId),
    (!(listMatches q.len q.source.2 && (q.liveLists (c.job n)).all fun l => listMatches q.len l.2), .extentMismatch),
    (!(listInRange (c.job n).cardCapacity q.source.2 && (q.liveLists (c.job n)).all fun l => listInRange l.1 l.2),
      .outOfRange),
    (decide (Config.queueLimit ≤ (c.queue n).length), .queueFull),
    (decide (Config.tableLimit ≤ c.files.length), .tableFull)]

theorem Ctl.checkFile_eq (c : Ctl) (n : CardNo) (q : FileAddReq) :
    c.checkFile n q = firstFailing (c.fileChecks n q) := by
  simp only [Ctl.checkFile, Ctl.fileChecks, firstFailing, decide_eq_true_eq]

theorem listBlocks_eq (l : List Extent) : listBlocks l = (l.map (·.count)).sum := by
  rw [listBlocks, ← List.foldl_map, List.sum_eq_foldl]

/-- An extent list covers a file of len bytes: empty for none, and its blocks those of the file (R37). -/
theorem listMatches_iff (len : Nat) (l : List Extent) :
    listMatches len l = true ↔
      (len = 0 → l = []) ∧ (0 < len → l ≠ []) ∧ (l.map (·.count)).sum = (len + 511) / 512 := by
  rw [listMatches, Bool.and_eq_true, beq_iff_eq, beq_iff_eq, listBlocks_eq, blocksFor, ← and_assoc]
  refine and_congr_left fun _ => ?_
  cases l <;> cases len <;> simp

theorem listInRange_iff (cap : Nat) (l : List Extent) :
    listInRange cap l = true ↔ ∀ e ∈ l, e.start + e.count ≤ cap := by
  simp [listInRange]

theorem FileAddReq.all_liveLists (q : FileAddReq) (j : Job) (p : Nat × List Extent → Bool) :
    (q.liveLists j).all p = true ↔
      ∀ x ∈ (j.dests.zip q.dests).filter (fun x => x.1.live), p (x.1.capacity, x.2.2) = true := by
  rw [FileAddReq.liveLists, List.all_map, List.all_eq_true]
  rfl

theorem FileAddReq.structureOk_iff (q : FileAddReq) (j : Job) :
    (!q.structureOk j) = true ↔
      8 < q.source.1 ∨ (∃ e ∈ q.source.2, e.count = 0)
        ∨ (∃ l ∈ q.dests, 8 < l.1 ∨ ∃ e ∈ l.2, e.count = 0) ∨ q.dests.length ≠ j.dests.length := by
  have list (l : Nat × List Extent) : (decide (l.1 ≤ 8) && l.2.all fun e => decide (0 < e.count)) = false ↔
      8 < l.1 ∨ ∃ e ∈ l.2, e.count = 0 := by
    rw [Bool.and_eq_false_iff, decide_eq_false_iff_not, Nat.not_le, List.all_eq_false]
    simp only [decide_eq_true_eq, Nat.pos_iff_ne_zero, ne_eq, not_not]
  simp only [FileAddReq.structureOk, Bool.not_eq_true', Bool.and_eq_false_iff, list, List.all_eq_false,
    beq_eq_false_iff_ne, Bool.not_eq_true, or_assoc]

/-- The checks as the model runs them decide those of R3's and R37's table. -/
theorem Ctl.fileChecks_decide (c : Ctl) (n : CardNo) (q : FileAddReq) :
    let j := c.job n
    let live := (j.dests.zip q.dests).filter fun p => p.1.live
    let covers := fun (l : List Extent) =>
      (q.len = 0 → l = []) ∧ (0 < q.len → l ≠ []) ∧ (l.map (·.count)).sum = (q.len + 511) / 512
    let fits := fun (cap : Nat) (l : List Extent) => ∀ e ∈ l, e.start + e.count ≤ cap
    List.Forall₂ Decides (c.fileChecks n q)
      [(8 < q.source.1 ∨ (∃ e ∈ q.source.2, e.count = 0)
          ∨ (∃ l ∈ q.dests, 8 < l.1 ∨ ∃ e ∈ l.2, e.count = 0) ∨ q.dests.length ≠ j.dests.length, .badField),
        (j.closed = true, .closed), (∃ g ∈ c.queue n, g.id = q.id, .duplicateId),
        (¬(covers q.source.2 ∧ ∀ p ∈ live, covers p.2.2), .extentMismatch),
        (¬(fits j.cardCapacity q.source.2 ∧ ∀ p ∈ live, fits p.1.capacity p.2.2), .outOfRange),
        (128 ≤ (c.queue n).length, .queueFull), (512 ≤ c.files.length, .tableFull)] := by
  refine .cons ⟨q.structureOk_iff _, rfl⟩ (.cons ⟨.rfl, rfl⟩ (.cons ⟨?_, rfl⟩ (.cons ⟨?_, rfl⟩ (.cons ⟨?_, rfl⟩
    (.cons ⟨?_, rfl⟩ (.cons ⟨?_, rfl⟩ .nil))))))
  · simp
  · rw [Bool.not_eq_true', Bool.eq_false_iff, Ne, Bool.and_eq_true, listMatches_iff, FileAddReq.all_liveLists]
    simp only [listMatches_iff]
  · rw [Bool.not_eq_true', Bool.eq_false_iff, Ne, Bool.and_eq_true, listInRange_iff, FileAddReq.all_liveLists]
    simp only [listInRange_iff]
  · exact decide_eq_true_iff
  · exact decide_eq_true_iff

/-- What a FILE_ADD that is taken answers. -/
theorem exec_fileAdd {s : State} {f : RxFrame} (ht : s.Takes .fileAdd f) :
    exec .fileAdd s = .next (s.answer f (reqFileAdd f.payload s.ctl)) := exec_of_takes rfl ht

theorem reqFileAdd_parsed {l : List Byte} {q : FileAddReq} {c : Ctl} (h : parseFileAdd l = some q) :
    reqFileAdd l c = c.forJob .fileAdd q.job fun n => c.answerFile n q := by
  simp only [reqFileAdd, h]

/-- Settles O36: the layout by its parts, the checks as a list decided one by one. -/
theorem fileAddChecksInOrder : Obligations.FileAddChecksInOrder := by
  refine ⟨parseFileAdd_iff, fun s f ht => ⟨fun h => ?_, fun q h => ?_⟩⟩
  · rw [exec_fileAdd ht, reqFileAdd, h]
    rfl
  · have table := s.ctl.forJob_refused .fileAdd q.job (fun n => s.ctl.answerFile n q) (.inl rfl)
    rw [exec_fileAdd ht, reqFileAdd_parsed h]
    refine ⟨fun hj => by rw [table.1 hj]; rfl, fun n hn => ⟨fun r hr => by rw [table.2 n r hn hr]; rfl, fun ha => ?_⟩⟩
    intro j live badStructure covers fits checks i hi fails before
    have refused := firstFailing_eq (s.ctl.fileChecks_decide n q) i hi fails before
    rw [Ctl.forJob_taken _ (cardNo_of_toNat hn) (takes_of_availability (.inl rfl) ha), Ctl.answerFile, Ctl.checkFile_eq,
      refused]
    rfl

end Sys2Proof.Machine

namespace Sys2Proof.Machine

/-! ## Taking up files, on the queue (R42, R59) -/

section
variable {c t : Ctl} {n : CardNo} {f x : FileRec} {as bs more : List FileRec} {k : FileRec → FileRec}

theorem Ctl.queue_nodup (nodup : (c.files.map (·.ref)).Nodup) (n : CardNo) : ((c.queue n).map (·.ref)).Nodup :=
  nodup.sublist (List.filter_sublist.map _)

/-- A change of one record, on its queue. -/
theorem Ctl.queue_modFile_at (nodup : (c.files.map (·.ref)).Nodup) (ref : ∀ g, (k g).ref = g.ref)
    (hq : c.queue n = as ++ f :: bs) : (c.modFile f.ref k).queue n = as ++ k f :: bs := by
  have names := Ctl.queue_nodup nodup n
  rw [hq, List.map_append, List.map_cons, List.nodup_middle, List.nodup_cons, List.mem_append] at names
  have other (l : List FileRec) (away : f.ref ∉ l.map (·.ref)) :
      l.map (fun g => if g.ref = f.ref then k g else g) = l := by
    conv_rhs => rw [← List.map_id l]
    exact List.map_congr_left fun g hg => if_neg fun e : g.ref = f.ref => away (e ▸ List.mem_map_of_mem hg)
  have job : (fun g : FileRec => g.ref.job == n) ∘ (fun g => if g.ref = f.ref then k g else g) =
      fun g => g.ref.job == n := by
    funext g
    simp only [Function.comp]
    split <;> simp [ref]
  have mapped : (c.modFile f.ref k).queue n = (c.queue n).map fun g => if g.ref = f.ref then k g else g := by
    rw [Ctl.queue, Ctl.modFile, List.filter_map, job]
    rfl
  rw [mapped, hq, List.map_append, List.map_cons, if_pos rfl, other as fun h => names.1 (.inl h),
    other bs fun h => names.1 (.inr h)]

theorem Ctl.modFile_nodup {r : FileRef} (nodup : (c.files.map (·.ref)).Nodup) (ref : ∀ g, (k g).ref = g.ref) :
    ((c.modFile r k).files.map (·.ref)).Nodup := by
  have same : (·.ref) ∘ (fun g => if g.ref = r then k g else g) = (·.ref : FileRec → FileRef) := by
    funext g
    simp only [Function.comp]
    split <;> simp [ref]
  rw [Ctl.modFile, List.map_map, same]
  exact nodup

/-- The test of a head takes COMPLETE files from the front, and leaves the rest. -/
theorem Ctl.retireRun_queue (i : Nat) (nodup : (c.files.map (·.ref)).Nodup) :
    ∃ pre, c.queue n = pre ++ (c.retireRun i n).queue n ∧ ∀ p ∈ pre, p.isComplete = true := by
  induction i generalizing c with
  | zero => exact ⟨[], rfl, by simp⟩
  | succ i ih =>
    simp only [Ctl.retireRun]
    split
    · exact ⟨[], rfl, by simp⟩
    · next f hf =>
      obtain ⟨more, hq⟩ := List.head?_eq_some_iff.1 hf
      split
      · next o hs =>
        split
        · obtain ⟨queue, -⟩ := Ctl.retire_head nodup hq o
          have nodup' : ((c.retire f o).files.map (·.ref)).Nodup := by
            rw [Ctl.retire_files]
            exact nodup.sublist (List.filter_sublist.map _)
          obtain ⟨pre, e, complete⟩ := ih nodup'
          refine ⟨f :: pre, by rw [hq, ← queue, e]; rfl, List.forall_mem_cons.2 ⟨?_, complete⟩⟩
          simp [FileRec.isComplete, hs]
        · exact ⟨[], rfl, by simp⟩
      · exact ⟨[], rfl, by simp⟩

/-- A file after the test for completion: COMPLETE if all its results are final (R53). -/
def FileRec.tested (f : FileRec) (j : Job) : FileRec :=
  if f.allFinal j.verify then { f with state := .complete (f.outcome j) } else f

/-- What the test for completion leaves of a queue: the file as tested, less COMPLETE files in front. -/
theorem Ctl.testComplete_queue (nodup : (c.files.map (·.ref)).Nodup) (hq : c.queue n = as ++ f :: bs)
    (hs : f.isComplete = false) :
    ∃ pre, as ++ f.tested (c.job n) :: bs = pre ++ (c.testComplete f.ref).queue n
      ∧ ∀ p ∈ pre, p.isComplete = true := by
  have mem : f ∈ c.queue n := hq ▸ List.mem_append_right _ List.mem_cons_self
  have found : c.file? f.ref = some f := Ctl.file_of_mem nodup (List.mem_filter.1 mem).1
  obtain rfl : f.ref.job = n := Ctl.mem_queue_job mem
  simp only [Ctl.testComplete, found, hs, Bool.not_false, Bool.true_and, FileRec.tested]
  split
  · have complete := Ctl.queue_modFile_at (k := fun g => { g with state := .complete (f.outcome (c.job f.ref.job)) })
      nodup (fun _ => rfl) hq
    have names := Ctl.modFile_nodup (r := f.ref) (k := fun g =>
      { g with state := .complete (f.outcome (c.job f.ref.job)) }) nodup fun _ => rfl
    obtain ⟨pre, e, done⟩ := Ctl.retireRun_queue (n := f.ref.job) _ names
    exact ⟨pre, complete.symm.trans e, done⟩
  · exact ⟨[], hq.symm, by simp⟩

/-- What becomes of a file of no bytes when it is taken up (R59, R53). -/
def FileRec.passedOn (f : FileRec) (j : Job) : FileRec := (f.zeroPass j.verify).tested j

theorem FileRec.passedOn_state (f : FileRec) (j : Job) :
    (f.passedOn j).state ≠ .queued ∧ (f.passedOn j).state ≠ .reading := by
  unfold FileRec.passedOn FileRec.tested
  split <;> exact ⟨nofun, nofun⟩

/-- File f of no bytes has been taken up (R59). -/
def Ctl.passed (c : Ctl) (n : CardNo) (f : FileRec) : Ctl :=
  ((c.modFile f.ref fun g => g.zeroPass (c.job n).verify).modJob n fun j => { j with failures := 0 }).testComplete f.ref

theorem Ctl.passed_fileRun (hf : f ∈ c.queue n) (hs : f.state = .queued) : Ctl.FileRun True c (c.passed n f) := by
  have waits := Bool.eq_false_iff.2 (FileRec.not_complete_of_queued hs)
  exact ((Ctl.FileRun.refl c).modFile_open (List.mem_filter.1 hf).1 waits).modJob.testComplete

theorem Ctl.passed_leads (hf : f ∈ c.queue n) : Ctl.Leads (· = n) (· = n) c (c.passed n f) := by
  have hj : f.ref.job = n := Ctl.mem_queue_job hf
  have results := Ctl.modFile_leads (N := (· = n)) (M := (· = n)) (c := c) (r := f.ref)
    (g := fun g => g.zeroPass (c.job n).verify) hj fun _ => rfl
  have counted := Ctl.counts_leads (N := (· = n)) (M := (· = n))
    (c := c.modFile f.ref fun g => g.zeroPass (c.job n).verify) (n := n) (f := fun j => { j with failures := 0 }) rfl
    (fun _ => rfl) fun _ => .inr rfl
  exact (results.trans counted).trans (Ctl.testComplete_leads hj hj _)

theorem Ctl.passed_nodup (nodup : (c.files.map (·.ref)).Nodup) (hf : f ∈ c.queue n) (hs : f.state = .queued) :
    ((c.passed n f).files.map (·.ref)).Nodup := by
  obtain ⟨-, names, -⟩ := (Ctl.passed_fileRun hf hs).retiresTo nodup
  exact nodup.sublist names

theorem Job.mayPromote_of_core {j j' : Job} (h : j'.core = j.core) : j'.mayPromote = j.mayPromote := by
  obtain ⟨state, -⟩ := Job.core_fields h
  rw [Job.mayPromote, state]
  rfl

/-- The queue once a file of no bytes has passed on: it has its results, and COMPLETE files have left in front. -/
theorem Ctl.passed_queue (nodup : (c.files.map (·.ref)).Nodup) (hq : c.queue n = as ++ f :: bs) :
    ∃ pre, as ++ f.passedOn (c.job n) :: bs = pre ++ (c.passed n f).queue n ∧ ∀ p ∈ pre, p.isComplete = true := by
  have queue := Ctl.queue_modFile_at (k := fun g => g.zeroPass (c.job n).verify) nodup (fun _ => rfl) hq
  have names := Ctl.modFile_nodup (k := fun g => g.zeroPass (c.job n).verify) (r := f.ref) nodup fun _ => rfl
  obtain ⟨pre, e, done⟩ := Ctl.testComplete_queue (n := n)
    (c := (c.modFile f.ref fun g => g.zeroPass (c.job n).verify).modJob n fun j => { j with failures := 0 })
    names queue rfl
  rw [Ctl.modJob_job] at e
  exact ⟨pre, e, done⟩

end

end Sys2Proof.Machine

namespace Sys2Proof.Machine

/-! ## The file at the tail, while files are taken up -/

section
variable {c t : Ctl} {n : CardNo} {f x : FileRec} {as bs old : List FileRec}

/-- What leaves in front of a last element that stays. -/
theorem append_singleton_split {α : Type} {p : α → Prop} {l pre q : List α} {x : α} (h : l ++ [x] = pre ++ q)
    (hp : ∀ y ∈ pre, p y) (hx : ¬p x) : ∃ l', l = pre ++ l' ∧ q = l' ++ [x] := by
  obtain rfl | ⟨l', y, rfl⟩ := List.eq_nil_or_concat' q
  · rw [List.append_nil] at h
    exact (hx (hp x (h ▸ List.mem_append_right _ List.mem_cons_self))).elim
  · rw [← List.append_assoc] at h
    obtain ⟨e, e'⟩ := List.append_inj' h rfl
    obtain rfl := List.cons.inj e' |>.1
    exact ⟨l', e, rfl⟩

/-- No file of the list is READING, and none QUEUED has bytes to read. -/
def NothingToRead (l : List FileRec) : Prop := ∀ g ∈ l, g.state ≠ .reading ∧ (g.state = .queued → g.len = 0)

theorem Ctl.promoteRun_stays (k : Nat) (h : ((c.job n).mayPromote && (c.readingFile n).isNone) = false) :
    c.promoteRun k n = c := by
  cases k with
  | zero => rfl
  | succ k => rw [Ctl.promoteRun, h]; rfl

theorem Ctl.promoteRun_none (k : Nat) (h : (c.queue n).find? (fun f => f.state == .queued) = none) :
    c.promoteRun k n = c := by
  cases k with
  | zero => rfl
  | succ k =>
    simp only [Ctl.promoteRun, h]
    split <;> rfl

theorem Ctl.promoteRun_reads (k : Nat) (may : ((c.job n).mayPromote && (c.readingFile n).isNone) = true)
    (h : (c.queue n).find? (fun f => f.state == .queued) = some f) (hl : f.len ≠ 0) :
    c.promoteRun (k + 1) n = c.modFile f.ref fun g => { g with state := .reading } := by
  rw [Ctl.promoteRun, if_pos may]
  simp only [h, if_neg hl]

theorem Ctl.promoteRun_passes (k : Nat) (may : ((c.job n).mayPromote && (c.readingFile n).isNone) = true)
    (h : (c.queue n).find? (fun f => f.state == .queued) = some f) (hl : f.len = 0) :
    c.promoteRun (k + 1) n = (c.passed n f).promoteRun k n := by
  rw [Ctl.promoteRun, if_pos may]
  simp only [h, if_pos hl]
  rfl

theorem Ctl.readingFile_isNone_iff : (c.readingFile n).isNone = true ↔ ∀ g ∈ c.queue n, g.state ≠ .reading := by
  simp [Ctl.readingFile, Option.isNone_iff_eq_none, List.find?_eq_none]

/-- The first QUEUED file of a queue whose last is QUEUED. -/
theorem Ctl.firstQueued (hq : c.queue n = old ++ [x]) (hx : x.state = .queued) :
    (∃ as f bs, (c.queue n).find? (fun f => f.state == .queued) = some f ∧ f.state = .queued ∧ old = as ++ f :: bs
        ∧ ∀ g ∈ as, g.state ≠ .queued)
      ∨ (c.queue n).find? (fun f => f.state == .queued) = some x ∧ ∀ g ∈ old, g.state ≠ .queued := by
  cases h : old.find? (fun f => f.state == .queued) with
  | some f =>
    obtain ⟨queued, as, bs, e, before⟩ := List.find?_eq_some_iff_append.1 h
    refine .inl ⟨as, f, bs, by rw [hq, List.find?_append, h]; rfl, by simpa using queued, e, fun g hg => ?_⟩
    simpa using before g hg
  | none =>
    refine .inr ⟨by rw [hq, List.find?_append, h]; simp [hx], fun g hg => ?_⟩
    simpa using List.find?_eq_none.1 h g hg

/-- After a file before the tail has passed on, the tail is as it was, and less waits before it. -/
theorem Ctl.passed_tail (nodup : (c.files.map (·.ref)).Nodup) (hq : c.queue n = as ++ f :: bs ++ [x])
    (hx : x.state = .queued) : ∃ old pre, (c.passed n f).queue n = old ++ [x]
      ∧ as ++ f.passedOn (c.job n) :: bs = pre ++ old ∧ ∀ p ∈ pre, p.isComplete = true := by
  rw [List.append_assoc, List.cons_append] at hq
  obtain ⟨pre, e, complete⟩ := Ctl.passed_queue nodup hq
  rw [← List.cons_append, ← List.append_assoc] at e
  obtain ⟨old, e', e''⟩ := append_singleton_split e complete (FileRec.not_complete_of_queued hx)
  exact ⟨old, pre, e'', e', complete⟩

/-- A QUEUED file with bytes to read is still before the tail when one before it has passed on. -/
theorem mem_of_pass {pre old' : List FileRec} {g y : FileRec} (hg : g ∈ as ++ f :: bs) (hs : g.state = .queued)
    (before : ∀ k ∈ as, k.state ≠ .queued) (other : g ≠ f) (e : as ++ y :: bs = pre ++ old')
    (complete : ∀ p ∈ pre, p.isComplete = true) : g ∈ old' := by
  have later : g ∈ bs := by
    obtain hg | hg := List.mem_append.1 hg
    · exact (before g hg hs).elim
    · exact (List.mem_cons.1 hg).resolve_left other
  have stays : g ∈ pre ++ old' := e ▸ List.mem_append_right _ (List.mem_cons_of_mem _ later)
  refine (List.mem_append.1 stays).resolve_left fun gone => ?_
  exact FileRec.not_complete_of_queued hs (complete g gone)

/-- Nothing is to be read where nothing was when one file has passed on. -/
theorem NothingToRead.of_pass {pre old' : List FileRec} {y : FileRec} (h : NothingToRead (as ++ f :: bs))
    (hy : y.state ≠ .queued ∧ y.state ≠ .reading) (e : as ++ y :: bs = pre ++ old') : NothingToRead old' := by
  intro g hg
  have stands : g ∈ as ++ y :: bs := e ▸ List.mem_append_right _ hg
  simp only [List.mem_append, List.mem_cons] at stands
  obtain hg | rfl | hg := stands
  · exact h g (by simp [hg])
  · exact ⟨hy.2, fun hs => (hy.1 hs).elim⟩
  · exact h g (by simp [hg])

/-- One QUEUED file fewer waits when one has passed on. -/
theorem countP_queued_of_pass {pre old' : List FileRec} {y : FileRec} (hf : f.state = .queued) (hy : y.state ≠ .queued)
    (e : as ++ y :: bs = pre ++ old') : old'.countP (fun g => g.state == .queued) <
      (as ++ f :: bs).countP (fun g => g.state == .queued) := by
  have split := congrArg (List.countP fun g => g.state == .queued) e
  rw [List.countP_append, List.countP_append, List.countP_cons_of_neg (by simpa using hy)] at split
  rw [List.countP_append, List.countP_cons_of_pos (by simpa using hf)]
  omega

/-- A file behind one that is read, or is to be read, stays QUEUED. -/
theorem Ctl.promoteRun_behind (k : Nat) (nodup : (c.files.map (·.ref)).Nodup) (hq : c.queue n = old ++ [x])
    (hx : x.state = .queued) (work : ¬NothingToRead old) : ((c.promoteRun k n).queue n).getLast? = some x := by
  induction k generalizing c old with
  | zero => rw [Ctl.promoteRun, hq, List.getLast?_concat]
  | succ k ih =>
    cases may : (c.job n).mayPromote && (c.readingFile n).isNone with
    | false => rw [Ctl.promoteRun_stays _ may, hq, List.getLast?_concat]
    | true =>
      have reads := Ctl.readingFile_isNone_iff.1 (Bool.and_eq_true_iff.1 may).2
      have waiting : ∃ g ∈ old, g.state = .queued ∧ g.len ≠ 0 := by
        by_contra none
        refine work fun g hg => ⟨reads g (hq ▸ List.mem_append_left _ hg), fun hs => ?_⟩
        by_contra hl
        exact none ⟨g, hg, hs, hl⟩
      obtain ⟨g, hg, hs, hl⟩ := waiting
      obtain ⟨as, f, bs, found, queued, rfl, before⟩ | ⟨-, none⟩ := Ctl.firstQueued hq hx
      · by_cases len : f.len = 0
        · obtain ⟨old', pre, queue, e, complete⟩ := Ctl.passed_tail nodup hq hx
          have mem : f ∈ c.queue n := hq ▸ (by simp)
          rw [Ctl.promoteRun_passes k may found len]
          refine ih (Ctl.passed_nodup nodup mem queued) queue fun nothing => hl ((nothing g ?_).2 hs)
          exact mem_of_pass hg hs before (fun same => hl (same ▸ len)) e complete
        · rw [Ctl.promoteRun_reads k may found len]
          rw [List.append_assoc, List.cons_append] at hq
          rw [Ctl.queue_modFile_at (k := fun g => { g with state := .reading }) nodup (fun _ => rfl) hq,
            ← List.cons_append, ← List.append_assoc, List.getLast?_concat]
      · exact (none g hg hs).elim

/-- Files of no bytes before the tail pass on one after the other, until the tail is the first QUEUED file. -/
theorem Ctl.promoteRun_reaches (k : Nat) (nodup : (c.files.map (·.ref)).Nodup) (may : (c.job n).mayPromote = true)
    (hq : c.queue n = old ++ [x]) (hx : x.state = .queued) (work : NothingToRead old)
    (enough : old.countP (fun g => g.state == .queued) < k) :
    ∃ (k' : Nat) (t : Ctl) (old' : List FileRec), c.promoteRun k n = t.promoteRun (k' + 1) n
      ∧ (t.files.map (·.ref)).Nodup ∧ (t.job n).core = (c.job n).core ∧ t.queue n = old' ++ [x]
      ∧ ∀ g ∈ old', g.state ≠ .queued ∧ g.state ≠ .reading := by
  induction k generalizing c old with
  | zero => cases enough
  | succ k ih =>
    obtain ⟨as, f, bs, found, queued, rfl, before⟩ | ⟨-, none⟩ := Ctl.firstQueued hq hx
    · have mem : f ∈ c.queue n := hq ▸ (by simp)
      have reads : (c.readingFile n).isNone = true := Ctl.readingFile_isNone_iff.2 fun g hg => by
        rw [hq] at hg
        obtain hg | hg := List.mem_append.1 hg
        · exact (work g hg).1
        · rw [List.mem_singleton.1 hg, hx]
          nofun
      have len : f.len = 0 := (work f (by simp)).2 queued
      obtain ⟨old', pre, queue, e, -⟩ := Ctl.passed_tail nodup hq hx
      have core := (Ctl.passed_leads mem).jobsKept.core n
      have fewer := countP_queued_of_pass queued (f.passedOn_state _).1 e
      obtain ⟨k', t, old'', run, names, same, rest⟩ := ih (Ctl.passed_nodup nodup mem queued)
        ((Job.mayPromote_of_core core).trans may) queue (work.of_pass (f.passedOn_state _) e) (by omega)
      refine ⟨k', t, old'', ?_, names, same.trans core, rest⟩
      rw [Ctl.promoteRun_passes k (by rw [may, reads]; rfl) found len, run]
    · exact ⟨k, c, old, rfl, nodup, rfl, hq, fun g hg => ⟨none g hg, (work g hg).1⟩⟩

end

end Sys2Proof.Machine

namespace Sys2Proof.Machine

section
variable {c : Ctl} {n : CardNo} {x : FileRec} {old : List FileRec}

/-- The files of a queue before its tail are fewer than the records of the table. -/
theorem Ctl.countP_queue_lt (p : FileRec → Bool) (hq : c.queue n = old ++ [x]) : old.countP p < c.files.length + 1 := by
  have whole : (c.queue n).length ≤ c.files.length := List.length_filter_le _ _
  have part : old.countP p ≤ old.length := List.countP_le_length
  rw [hq, List.length_append] at whole
  omega

/-- The test of R42 comes to the tail, when nothing before it is to be read. -/
theorem Ctl.promote_reaches (nodup : (c.files.map (·.ref)).Nodup) (may : (c.job n).mayPromote = true)
    (hq : c.queue n = old ++ [x]) (hx : x.state = .queued) (work : NothingToRead old) :
    ∃ (k : Nat) (t : Ctl) (old' : List FileRec), c.promote n = t.promoteRun (k + 1) n ∧ (t.files.map (·.ref)).Nodup
      ∧ (t.job n).core = (c.job n).core ∧ t.queue n = old' ++ [x] ∧ (∀ g ∈ old', g.state ≠ .queued)
      ∧ ((t.job n).mayPromote && (t.readingFile n).isNone) = true
      ∧ (t.queue n).find? (fun f => f.state == .queued) = some x := by
  obtain ⟨k, t, old', run, nodup', core, queue, none⟩ :=
    Ctl.promoteRun_reaches _ nodup may hq hx work (Ctl.countP_queue_lt _ hq)
  have reads : (t.readingFile n).isNone = true := Ctl.readingFile_isNone_iff.2 fun g hg => by
    rw [queue] at hg
    obtain hg | hg := List.mem_append.1 hg
    · exact (none g hg).2
    · rw [List.mem_singleton.1 hg, hx]
      nofun
  have may' : (t.job n).mayPromote = true := (Job.mayPromote_of_core core).trans may
  refine ⟨k, t, old', run, nodup', core, queue, fun g hg => (none g hg).1, by rw [may', reads]; rfl, ?_⟩
  obtain ⟨as, f, bs, -, queued, rfl, -⟩ | ⟨found, -⟩ := Ctl.firstQueued queue hx
  · exact ((none f (by simp)).1 queued).elim
  · exact found

/-- A tail with bytes to read becomes READING (R42). -/
theorem Ctl.promote_tail_reads (nodup : (c.files.map (·.ref)).Nodup) (may : (c.job n).mayPromote = true)
    (hq : c.queue n = old ++ [x]) (hx : x.state = .queued) (work : NothingToRead old) (hl : x.len ≠ 0) :
    ((c.promote n).queue n).getLast? = some { x with state := .reading } := by
  obtain ⟨k, t, old', run, nodup', -, queue, -, may', found⟩ := Ctl.promote_reaches nodup may hq hx work
  rw [run, Ctl.promoteRun_reads k may' found hl,
    Ctl.queue_modFile_at (k := fun g => { g with state := .reading }) nodup' (fun _ => rfl) queue, List.getLast?_concat]

/-- A tail of no bytes passes on (R59), and the failure count returns to 0 (R28). -/
theorem Ctl.promote_tail_passes (nodup : (c.files.map (·.ref)).Nodup) (may : (c.job n).mayPromote = true)
    (hq : c.queue n = old ++ [x]) (hx : x.state = .queued) (work : NothingToRead old) (hl : x.len = 0) :
    ((c.promote n).job n).failures = 0
      ∧ ∃ j : Job, j.verify = (c.job n).verify
        ∧ ∀ g ∈ (c.promote n).queue n, g.ref = x.ref → g = x.passedOn j := by
  obtain ⟨k, t, old', run, nodup', core, queue, none, may', found⟩ := Ctl.promote_reaches nodup may hq hx work
  obtain ⟨pre, e, -⟩ := Ctl.passed_queue nodup' queue
  have mem : x ∈ t.queue n := List.mem_of_find?_eq_some found
  have within (g : FileRec) (hg : g ∈ (t.passed n x).queue n) : g ∈ old' ∨ g = x.passedOn (t.job n) := by
    have : g ∈ old' ++ [x.passedOn (t.job n)] := e ▸ List.mem_append_right _ hg
    simpa using this
  have exhausted : ((t.passed n x).queue n).find? (fun f => f.state == .queued) = Option.none := by
    refine List.find?_eq_none.2 fun g hg => ?_
    obtain hg | rfl := within g hg
    · simpa using none g hg
    · simpa using (x.passedOn_state (t.job n)).1
  have zeroed : ((t.passed n x).job n).failures = 0 := by
    have lead := Ctl.testComplete_leads (N := fun _ => True) (M := fun _ => True) (r := x.ref) trivial trivial
      ((t.modFile x.ref fun g => g.zeroPass (t.job n).verify).modJob n fun j => { j with failures := 0 })
    have tested := lead.jobsKept.failures n
    rwa [Ctl.modJob_job, or_self] at tested
  obtain ⟨-, -, -, -, -, -, -, -, verify, -⟩ := Job.core_fields core
  rw [run, Ctl.promoteRun_passes k may' found hl, Ctl.promoteRun_none k exhausted]
  refine ⟨zeroed, t.job n, verify, fun g hg same => ?_⟩
  obtain hg | e := within g hg
  · have names := Ctl.queue_nodup nodup' n
    rw [queue, List.map_append, List.nodup_append] at names
    exact (names.2.2 g.ref (List.mem_map_of_mem hg) x.ref (by simp) same).elim
  · exact e

/-- A new file of no bytes that passes on (R59, R53). -/
theorem FileRec.passedOn_new {j : Job} (h : ∀ e ∈ x.dests, e.verA = 0 ∧ e.verB = 0
      ∧ (e.result = .pending ∨ e.result = .dropped)) :
    (x.passedOn j).id = x.id ∧ (x.passedOn j).len = x.len ∧ (x.passedOn j).result = .good
      ∧ (x.passedOn j).isComplete = true ∧ (x.passedOn j).acc = x.acc
      ∧ (x.passedOn j).dests = x.dests.map fun e =>
          if e.result = .pending then
            (if j.verify = .readback then { e with result := .verified, stored := true }
              else { e with result := .written })
          else e := by
  have final : (x.zeroPass j.verify).allFinal j.verify = true := by
    rw [FileRec.allFinal, Bool.and_eq_true, List.all_eq_true]
    refine ⟨rfl, fun e he => ?_⟩
    obtain ⟨e0, he0, rfl⟩ := List.mem_map.1 he
    obtain ⟨-, -, pending | dropped⟩ := h e0 he0
    · rw [if_pos pending]
      cases j.verify <;> rfl
    · rw [if_neg (by rw [dropped]; decide), dropped]
      rfl
  rw [FileRec.passedOn, FileRec.tested, if_pos final]
  refine ⟨rfl, rfl, rfl, rfl, rfl, List.map_congr_left fun e he => ?_⟩
  obtain ⟨a, b, -⟩ := h e he
  obtain ⟨port, extents, written, verA, verB, stored, result⟩ := e
  obtain rfl : verA = 0 := a
  obtain rfl : verB = 0 := b
  rfl

/-- Where every QUEUED file has bytes to read, taking one up touches nothing beyond files. -/
theorem Ctl.promote_sameBeyond_of_len (h : ∀ g ∈ c.queue n, g.state = .queued → g.len ≠ 0) :
    c.SameBeyondFiles (c.promote n) := by
  cases may : (c.job n).mayPromote && (c.readingFile n).isNone with
  | false => rw [Ctl.promote, Ctl.promoteRun_stays _ may]; exact .refl c
  | true =>
    cases found : (c.queue n).find? (fun f => f.state == .queued) with
    | none => rw [Ctl.promote, Ctl.promoteRun_none _ found]; exact .refl c
    | some f =>
      have queued : f.state = .queued := by simpa using List.find?_some found
      rw [Ctl.promote, Ctl.promoteRun_reads _ may found (h f (List.mem_of_find?_eq_some found) queued)]
      exact ⟨rfl, rfl, rfl, rfl, rfl, rfl, rfl⟩

/-! ### What settles after a FILE_ADD -/

/-- The states that take a FILE_ADD (1.3). -/
def JobState.TakesFiles (x : JobState) : Prop :=
  x = .opened ∨ x = .running ∨ x = .held ∨ x = .suspending ∨ x = .suspended

theorem JobState.takesFiles_of_takes {x : JobState} (h : x.takes .fileAdd = true) : x.TakesFiles := by
  cases x
  case opened | running | held | suspending | suspended => simp [JobState.TakesFiles]
  all_goals exact absurd h (by decide)

/-- In a state that takes files a job settles without a change of files, of its failure count, or of other ports. -/
theorem Ctl.settle_takesFiles (h : (c.job n).state.TakesFiles) :
    (c.settle n).files = c.files ∧ ((c.settle n).job n).failures = (c.job n).failures
      ∧ c.OtherPortsSame (c.settle n) n := by
  have still (h : (c.job n).state = .opened ∨ (c.job n).state = .suspended ∨ (c.job n).state = .faulted
      ∨ (c.job n).state = .free ∨ (c.job n).state = .ended) : (c.settle n).files = c.files
      ∧ ((c.settle n).job n).failures = (c.job n).failures ∧ c.OtherPortsSame (c.settle n) n := by
    rw [Ctl.settle_still h, Ctl.dropStaleWait_job]
    exact ⟨by simp, rfl, .of_eq (by simp) (by simp) (by simp) (by simp)⟩
  have moving (h : (c.job n).state = .running ∨ (c.job n).state = .held) : (c.settle n).files = c.files
      ∧ ((c.settle n).job n).failures = (c.job n).failures ∧ c.OtherPortsSame (c.settle n) n := by
    have settled := Ctl.settle_runningOrHeld h
    refine ⟨settled.files, ?_, settled.otherPorts⟩
    rw [settled.job, apply_ite Job.failures, Job.endedComplete_failures, ite_self]
  obtain h | h | h | h | h := h
  · exact still (.inl h)
  · exact moving (.inl h)
  · exact moving (.inr h)
  · obtain ⟨job, files, -, -, -, ports⟩ := Ctl.settle_suspends h rfl
    exact ⟨files, by rw [job], ports⟩
  · exact still (.inr (.inl h))

theorem Job.SettledFrom.accepted {j j' : Job} (h : j.SettledFrom j') : j'.accepted = j.accepted := by
  obtain ⟨r, core, -⟩ | ⟨-, core⟩ | core := h <;> exact (congrArg Job.accepted core :)

/-- Of the states that take files all but OPEN let one become READING (R42). -/
theorem Job.mayPromote_of_takesFiles {j : Job} (h : j.state.TakesFiles) : j.mayPromote = true ↔ j.state ≠ .opened := by
  unfold Job.mayPromote
  obtain h | h | h | h | h := h <;> simp [h]

theorem Ctl.joinFile_queue (c : Ctl) (n : CardNo) (q : FileAddReq) :
    (c.joinFile n q).queue n = c.queue n ++ [c.newFile n q] := by
  have queue : (c.joinFile n q).queue n = _ := c.queue_append n (c.newFile n q)
  rw [queue, if_pos (show (c.newFile n q).ref.job = n from rfl)]

theorem Ctl.joinFile_job (c : Ctl) (n : CardNo) (q : FileAddReq) :
    (c.joinFile n q).job n = { c.job n with accepted := ((c.job n).accepted + 1) % 2 ^ 32 } := by
  rw [Ctl.joinFile, Ctl.modJob_job]
  rfl

theorem Ctl.joinFile_otherJobs (c : Ctl) (n : CardNo) (q : FileAddReq) : c.OtherJobsSame (c.joinFile n q) n := by
  refine ⟨fun m hm => ⟨Ctl.modJob_job_ne _ _ hm, ?_⟩, rfl, rfl, rfl, rfl⟩
  have queue : (c.joinFile n q).queue m = _ := c.queue_append m (c.newFile n q)
  rw [queue, if_neg (show (c.newFile n q).ref.job ≠ m from hm.symm), List.append_nil]

end

/-- A FILE_ADD that passes every check joins, is tested for reading, and settles. -/
theorem exec_fileAdd_taken {s : State} {f : RxFrame} {q : FileAddReq} {n : CardNo} (ht : s.Takes .fileAdd f)
    (parsed : parseFileAdd f.payload = some q) (hn : q.job.toNat = n.val)
    (takes : (s.ctl.job n).state.takes .fileAdd = true) (passes : s.ctl.checkFile n q = none) :
    exec .fileAdd s = .next (s.answer f (.ok ((((s.ctl.joinFile n q).promote n).settle n),
      [BitVec.ofNat 8 n.val] ++ leBytes 4 q.id ++ [BitVec.ofNat 8 ((s.ctl.queue n).length + 1)]
        ++ leBytes 2 (511 - s.ctl.files.length)))) := by
  have entries : ((s.ctl.joinFile n q).queue n).length = (s.ctl.queue n).length + 1 := by
    rw [Ctl.joinFile_queue, List.length_append, List.length_singleton]
  have records : Config.tableLimit - (s.ctl.joinFile n q).files.length = 511 - s.ctl.files.length := by
    rw [Ctl.joinFile_files, List.length_append, List.length_singleton, Config.tableLimit]
    omega
  rw [exec_fileAdd ht, reqFileAdd_parsed parsed, Ctl.forJob_taken _ (cardNo_of_toNat hn) takes]
  simp only [Ctl.answerFile, passes, entries, records]

/-- Settles O37: the file joins at the tail; the test of R42 passes what is before it, and comes to it or does not. -/
theorem fileAddTakesTheFile : Obligations.FileAddTakesTheFile := by
  intro s f q n fresh ht parsed hn available passes j takenUp dests ref joined
  have takes := takes_of_availability (.inl rfl) available
  have run := exec_fileAdd_taken ht parsed hn takes passes
  have job := s.ctl.joinFile_job n q
  have queue : (s.ctl.joinFile n q).queue n = s.ctl.queue n ++ [joined .queued] := s.ctl.joinFile_queue n q
  have fresh' := Ctl.joinFile_fresh n q fresh
  have joins := s.ctl.joinFile_otherJobs n q
  have beyond : s.ctl.SameBeyondFiles (s.ctl.joinFile n q) := ⟨rfl, rfl, rfl, rfl, rfl, rfl, rfl⟩
  have files : (s.ctl.joinFile n q).files = s.ctl.files ++ [joined .queued] := rfl
  generalize s.ctl.joinFile n q = c at run job queue fresh' joins beyond files
  have lead := Ctl.promote_leads (N := (· = n)) (M := (· = n)) (n := n) rfl rfl c
  have core := lead.jobsKept.core n
  obtain ⟨state, -⟩ := Job.core_fields core
  have takesFiles : ((c.promote n).job n).state.TakesFiles := by
    rw [state, job]
    exact JobState.takesFiles_of_takes takes
  obtain ⟨settledFiles, settledFailures, settledPorts⟩ := Ctl.settle_takesFiles takesFiles
  obtain ⟨settledJob, settledOthers⟩ := (c.promote n).settle_job n
  have table : ((c.promote n).settle n).queue n = (c.promote n).queue n := Ctl.queue_of_files settledFiles n
  have waits : (joined .queued).state = .queued := rfl
  have taking : (c.job n).state.TakesFiles := by rw [job]; exact JobState.takesFiles_of_takes takes
  have may : (c.job n).mayPromote = true ↔ j.state ≠ .opened := by rw [Job.mayPromote_of_takesFiles taking, job]
  have stays (opened : j.state = .opened) : c.promote n = c := by
    refine Ctl.promoteRun_stays _ ?_
    rw [Bool.eq_false_iff.2 fun h => may.1 h opened, Bool.false_and]
  refine ⟨_, run, s.answer_doneIn f _ _, ?_, fun notTaken => ?_, fun taken len => ?_, fun taken len => ?_,
    fun opened => ?_, ?_, fun older len => ?_⟩
  · have counted : (((c.promote n).settle n).job n).accepted = (c.job n).accepted :=
      settledJob.accepted.trans (congrArg Job.accepted core :)
    exact counted.trans (by rw [job])
  · refine (congrArg List.getLast? table).trans ?_
    by_cases opened : j.state = .opened
    · rw [stays opened, queue, List.getLast?_concat]
    · exact Ctl.promoteRun_behind _ fresh'.1 queue waits fun nothing => notTaken ⟨opened, nothing⟩
  · exact (congrArg List.getLast? table).trans
      (Ctl.promote_tail_reads fresh'.1 (may.2 taken.1) queue waits taken.2 len.ne')
  · obtain ⟨failures, j', verify, passed⟩ := Ctl.promote_tail_passes fresh'.1 (may.2 taken.1) queue waits taken.2 len
    refine ⟨settledFailures.trans failures, fun g found => ?_⟩
    obtain ⟨mem, named⟩ := Ctl.file_some found
    have mem : g ∈ ((c.promote n).settle n).queue n :=
      List.mem_filter.2 ⟨mem, beq_iff_eq.2 (congrArg FileRef.job named)⟩
    obtain rfl := passed g (table ▸ mem) named
    have new : ∀ e ∈ (joined .queued).dests,
        e.verA = 0 ∧ e.verB = 0 ∧ (e.result = .pending ∨ e.result = .dropped) := by
      intro e he
      obtain ⟨p, -, rfl⟩ := List.mem_map.1 he
      exact ⟨rfl, rfl, ite_eq_or_eq ..⟩
    obtain ⟨id, len', result, complete, acc, results⟩ := FileRec.passedOn_new (j := j') new
    rw [job] at verify
    rw [verify] at results
    exact ⟨id, len'.trans len, result, complete, acc, results⟩
  · exact (settledFiles.trans (congrArg Ctl.files (stays opened))).trans files
  · exact ((joins.trans lead.otherJobs).trans settledOthers).trans (Ctl.pushEntry_otherJobs ..)
  · have same := Ctl.promote_sameBeyond_of_len (c := c) (n := n) fun g hg hs => by
      rw [queue] at hg
      obtain hg | hg := List.mem_append.1 hg
      · exact (older g hg hs).ne'
      · rw [List.mem_singleton.1 hg]
        exact len.ne'
    exact ((beyond.trans same).otherPorts.trans settledPorts).trans (Ctl.pushEntry_otherPorts ..)

end Sys2Proof.Machine

/-! # Proofs: slab memory (03)

Of the DRAM, that data blocks alone write it and that its list stays canonical. Of the slabs, that they keep to their uses
and that the pool is shared by the rules. -/

namespace Sys2Proof.Machine

/-! ## The DRAM under commands (R62, R160, R188) -/

section
variable (s : State)

@[simp] theorem State.run_dram {f : State → State} (h : (f s).dram = s.dram) : (s.run f).dram = s.dram := by
  unfold State.run
  split
  · rfl
  · exact h

@[simp] theorem State.runCtl_dram (f : Ctl → Ctl) : (s.runCtl f).dram = s.dram := s.run_dram rfl

@[simp] theorem State.answer_dram (f : RxFrame) (a : Answer) : (s.answer f a).dram = s.dram := by
  cases a <;> rfl

@[simp] theorem State.request_dram (k : MsgKind) (act : List Byte → Ctl → Answer) :
    (s.request k act).dram = s.dram := by
  obtain ⟨f, -, e⟩ | e := s.request_cases k act <;> rw [e]
  exact s.answer_dram f _

@[simp] theorem State.beginReset_dram (r : ResetCtl) : (s.beginReset r).dram = s.dram := rfl

@[simp] theorem State.release_dram (r : ResetCtl) (p : StrapPins) : (s.release r p).dram = s.dram := by
  unfold State.release
  simp only
  split <;> rfl

@[simp] theorem State.discard_dram (k : LineFault) : (s.discard k).dram = s.dram := rfl

@[simp] theorem State.checkFrame_dram (len : Nat) (got : List Byte) : (s.checkFrame len got).dram = s.dram := by
  unfold State.checkFrame State.offerFrame
  simp only
  split
  · split <;> rfl
  · rfl

theorem State.rxData_dram (b : Byte) : (s.rxData b).dram = s.dram := by
  unfold State.rxData
  simp only
  repeat' split
  all_goals simp

theorem State.rxByte_dram (b : RxByte) : (s.rxByte b).dram = s.dram := by
  unfold State.rxByte
  split
  · split <;> rfl
  · exact s.rxData_dram b.data

theorem State.rxBytes_dram (bytes : List RxByte) : (bytes.foldl State.rxByte s).dram = s.dram := by
  induction bytes generalizing s with
  | nil => rfl
  | cons b bytes ih => exact (ih _).trans (s.rxByte_dram b)

theorem State.gapExpired_dram : s.gapExpired.dram = s.dram := by
  unfold State.gapExpired
  split <;> rfl

theorem State.transmit_dram : s.transmit.dram = s.dram := by
  unfold State.transmit
  split <;> rfl

theorem State.sent_dram : s.sent.dram = s.dram := by
  unfold State.sent
  split
  · rfl
  · split <;> rfl

/-- A data block writes bytes at consecutive addresses, or none (R160). -/
theorem State.dataBlock_dram (p : PortId) (q : Byte) (l : List Byte) (k : BitVec 16) :
    (s.dataBlock p q l k).dram = s.dram ∨ ∃ a bytes, (s.dataBlock p q l k).dram = writeBytes s.dram a bytes := by
  have placed (f : Flight) : (s.placeBlock p f l).dram = s.dram
      ∨ ∃ a bytes, (s.placeBlock p f l).dram = writeBytes s.dram a bytes := by
    unfold State.placeBlock
    split
    · exact .inl rfl
    · split
      · exact .inr ⟨_, _, rfl⟩
      · exact .inl rfl
  unfold State.dataBlock
  split
  · exact .inl rfl
  · simp only
    split
    · exact .inl rfl
    · split
      · exact placed _
      · exact .inl rfl

end

/-- The command is the arrival of a data block. -/
def IsDataBlock (i : Instr) : Prop := ∃ p q d k, i = .dataBlockReceived p q d k

theorem dram_of_next {u s t : State} (h : (Host.Outcome.next u : Host.Outcome State Fault Refusal) = .next t)
    (e : u.dram = s.dram) : t.dram = s.dram := by
  cases h
  exact e

/-- Every command but a data block leaves the DRAM list (R62, R188). -/
theorem exec_dram {i : Instr} {s t : State} (hi : ¬IsDataBlock i) (h : exec i s = .next t) : t.dram = s.dram := by
  cases i
  case dataBlockReceived p q d k => exact (hi ⟨p, q, d, k, rfl⟩).elim
  all_goals refine dram_of_next h ?_
  -- the line
  case frameReceived bytes => exact s.run_dram (s.rxBytes_dram bytes)
  case receiveGapTimeout => exact s.run_dram s.gapExpired_dram
  case transmitStart => exact s.run_dram s.transmit_dram
  case frameSent => exact s.run_dram s.sent_dram
  -- requests whose frame is taken outside `State.request`
  case badKindRequest | partReset =>
    split
    · split
      all_goals simp
    · rfl
  -- resets
  case partResetTimerExpiry | resetPinAssert | resetPinRelease | supplyFail | supplyValid =>
    split
    all_goals simp [State.pinFalls, State.supplyFalls]
  -- requests
  case ident | noticeSet | portQuery | lampSet | jobOpen | jobStart | fileAdd | jobClose | jobSuspend | jobResume
      | jobDrop | jobStop | jobClear | jobFree | jobQuery | scanStart | scanStop =>
    exact s.request_dram _ _
  -- events of the shared state
  all_goals exact s.runCtl_dram _

/-- Settles O2. -/
theorem onlyDataBlocksWriteMemory : Obligations.OnlyDataBlocksWriteMemory := by
  intro i s t hi h a
  have stands := exec_dram (fun ⟨p, q, d, k, e⟩ => hi p q d k e) h
  rw [stands]

/-- Every command keeps the canonical form of the DRAM list. -/
theorem exec_dramCanonical {i : Instr} {s t : State} (hs : memWf s.dram = true) (h : exec i s = .next t) :
    memWf t.dram = true := by
  by_cases hi : IsDataBlock i
  · obtain ⟨p, q, d, k, rfl⟩ := hi
    have u : t = s.run fun s => s.dataBlock p q d k := by
      cases h
      rfl
    rw [u, State.run]
    split
    · exact hs
    · obtain e | ⟨a, bytes, e⟩ := s.dataBlock_dram p q d k <;> rw [e]
      · exact hs
      · exact writeBytes_wf bytes _ a hs
  · rwa [exec_dram hi h]

/-- Settles O3. -/
theorem dramFormKept : Obligations.DramFormKept := by
  intro s t hs h
  unfold step at h
  split at h
  · cases h
    exact hs
  · next c rest _ => exact exec_dramCanonical (s := { s with pending := rest }) hs h

end Sys2Proof.Machine

namespace Sys2Proof.Machine

/-! ## What an event makes of the slabs

What an event can make of slab records, of the wait list and of what card ports hold is said once, as a run of
changes of six kinds. Each operation of the part is such a run, and what each change keeps, every step keeps. -/

/-- What the allocator reads of a slab record. -/
def Slab.use (s : Slab) : SlabState × Purpose × Option CardNo := (s.state, s.purpose, s.job)

theorem Slab.isSourceOf_of_use {s s' : Slab} (h : s'.use = s.use) (n : CardNo) : s'.isSourceOf n = s.isSourceOf n := by
  simp only [Slab.use, Prod.mk.injEq] at h
  obtain ⟨state, purpose, job⟩ := h
  rw [Slab.isSourceOf, Slab.isSourceOf, state, purpose, job]

/-- Port q holds no slab that p does not hold, its reader's or its scan's. -/
structure CardPort.HoldsNoMore (p q : CardPort) : Prop where
  reader : ∀ r, q.reader = some r → ∃ r', p.reader = some r' ∧ r'.slab = r.slab
  scan : ∀ x, q.scan.slab = some x → p.scan.slab = some x

theorem CardPort.HoldsNoMore.of_eq {p q : CardPort} (reader : q.reader = p.reader) (scan : q.scan.slab = p.scan.slab) :
    p.HoldsNoMore q := ⟨fun r h => ⟨r, reader ▸ h, rfl⟩, fun _ h => scan ▸ h⟩

theorem CardPort.HoldsNoMore.trans {p q r : CardPort} (h : p.HoldsNoMore q) (g : q.HoldsNoMore r) :
    p.HoldsNoMore r := by
  refine ⟨fun k hk => ?_, fun x hx => h.scan x (g.scan x hx)⟩
  obtain ⟨k', hk', e'⟩ := g.reader k hk
  obtain ⟨k'', hk'', e''⟩ := h.reader k' hk'
  exact ⟨k'', hk'', e''.trans e'⟩

/-- From c to t nothing is taken from the allocator: slabs but those of `but` keep their use, no port comes to wait or to hold
another slab, and no job is limited further that holds source slabs. -/
structure Ctl.TakesNothing (but : SlabNo → Prop) (c t : Ctl) : Prop where
  slabs : ∀ x, ¬but x → (t.slab x).use = (c.slab x).use
  waits : ∀ n, t.waits n = c.waits n ∨ t.waits n = none
  cards : ∀ n, (c.card n).HoldsNoMore (t.card n)
  limit : ∀ n, (c.job n).slabLimit ≤ (t.job n).slabLimit ∨ c.sourceCount n = 0

/-- Slab x is a source slab, or a card port's reader or scan holds it. -/
def Ctl.InUse (c : Ctl) (x : SlabNo) : Prop :=
  (c.slab x).purpose = .source ∨ (∃ n r, (c.card n).reader = some r ∧ r.slab = x) ∨ ∃ n, (c.card n).scan.slab = some x

/-- All slabs are free, and no port waits for one or holds one. -/
structure Ctl.SlabsAtReset (t : Ctl) : Prop where
  slabs : ∀ x, (t.slab x).use = (.free, .none, none)
  waits : ∀ n, t.waits n = none
  reader : ∀ n, (t.card n).reader = none
  scan : ∀ n, (t.card n).scan.slab = none

/-- One change, as far as slabs are concerned. -/
inductive Ctl.SlabStep (c : Ctl) : Ctl → Prop
  /-- Nothing is taken from the allocator. -/
  | quiet {t : Ctl} (h : c.TakesNothing (fun _ => False) t) : c.SlabStep t
  /-- Slab x becomes FILLED (R66, R168, R100). -/
  | filled {t : Ctl} (x : SlabNo) (h : c.TakesNothing (· = x) t)
      (use : (t.slab x).use = (.filled, (c.slab x).purpose, (c.slab x).job)) : c.SlabStep t
  /-- The verify slab of d is taken or freed (R71). -/
  | verify {t : Ctl} (d : DriveNo) (h : c.TakesNothing (· = verifySlab d) t)
      (use : (t.slab (verifySlab d)).use = (.filling, .verify, none)
        ∨ (t.slab (verifySlab d)).use = (.free, .none, none)) : c.SlabStep t
  /-- A slab in use is freed and offered to the wait list (R69, R74). -/
  | offered {k : Ctl} (x : SlabNo) (used : c.InUse x) (h : c.TakesNothing (· = x) k)
      (free : (k.slab x).use = (.free, .none, none)) : c.SlabStep (k.offer x)
  /-- A card port asks for a slab (R72, R167). -/
  | raised (n : CardNo) (u : SlabUse) (stands : u = .source → c.sourceRequest n = true) : c.SlabStep (c.raise n u)
  /-- All blocks are at their reset values (R188). -/
  | reset {t : Ctl} (h : t.SlabsAtReset) : c.SlabStep t

/-! ### Counting source slabs (R63) -/

theorem Ctl.sourceCount_eq_card (c : Ctl) (n : CardNo) :
    c.sourceCount n = (Finset.univ.filter fun x => (c.slab x).isSourceOf n = true).card := by
  have numbers : (Finset.univ : Finset SlabNo) = (List.finRange 512).toFinset := by simp
  rw [Ctl.sourceCount, Ctl.slabs_toList, List.countP_map, List.countP_eq_length_filter, numbers, ← List.toFinset_filter,
    List.toFinset_card_of_nodup ((List.nodup_finRange 512).filter _)]
  simp [Function.comp_def]

section
variable {c t k : Ctl} {n : CardNo} {x : SlabNo} {u : SlabUse}

theorem Ctl.sourceCount_le (h : ∀ y, (t.slab y).isSourceOf n = true → (c.slab y).isSourceOf n = true) :
    t.sourceCount n ≤ c.sourceCount n := by
  rw [Ctl.sourceCount_eq_card, Ctl.sourceCount_eq_card]
  exact Finset.card_le_card fun y hy => by simpa using h y (by simpa using hy)

/-- One slab more at most. -/
theorem Ctl.sourceCount_le_succ (h : ∀ y, y ≠ x → (t.slab y).isSourceOf n = true → (c.slab y).isSourceOf n = true) :
    t.sourceCount n ≤ c.sourceCount n + 1 := by
  rw [Ctl.sourceCount_eq_card, Ctl.sourceCount_eq_card]
  refine (Finset.card_le_card fun y hy => ?_).trans (Finset.card_insert_le x _)
  by_cases e : y = x
  · exact Finset.mem_insert.2 (.inl e)
  · exact Finset.mem_insert_of_mem (by simpa using h y e (by simpa using hy))

theorem Ctl.TakesNothing.sourceCount_le {but : SlabNo → Prop} (h : c.TakesNothing but t)
    (hb : ∀ y, but y → (t.slab y).isSourceOf n = true → (c.slab y).isSourceOf n = true) :
    t.sourceCount n ≤ c.sourceCount n := by
  refine Ctl.sourceCount_le fun y hy => ?_
  by_cases hbut : but y
  · exact hb y hbut hy
  · rwa [← Slab.isSourceOf_of_use (h.slabs y hbut) n]

theorem Slab.use_state {s : Slab} {a : SlabState} {p : Purpose} {j : Option CardNo} (h : s.use = (a, p, j)) :
    s.state = a := congrArg Prod.fst h

theorem Slab.use_purpose {s : Slab} {a : SlabState} {p : Purpose} {j : Option CardNo} (h : s.use = (a, p, j)) :
    s.purpose = p := congrArg (fun u => u.2.1) h

theorem Slab.use_job {s : Slab} {a : SlabState} {p : Purpose} {j : Option CardNo} (h : s.use = (a, p, j)) :
    s.job = j := congrArg (fun u => u.2.2) h

/-! ### Grants (R65, R70, R74) -/

theorem Ctl.modCard_holdsNoMore {f : CardPort → CardPort} (hf : (c.card n).HoldsNoMore (f (c.card n))) (m : CardNo) :
    (c.card m).HoldsNoMore ((c.modCard n f).card m) := by
  by_cases e : m = n
  · subst e
    rwa [Ctl.modCard_card]
  · rw [Ctl.modCard_card_ne _ _ e]
    exact .of_eq rfl rfl

theorem Ctl.issueSpanRead_holdsNoMore (c : Ctl) (n m : CardNo) : (c.card m).HoldsNoMore ((c.issueSpanRead n).card m) := by
  unfold Ctl.issueSpanRead
  split
  · exact .of_eq rfl rfl
  · simp only
    split
    · exact .of_eq rfl rfl
    · split
      · exact .of_eq rfl rfl
      · exact (Ctl.modCard_holdsNoMore (.of_eq rfl rfl) m).trans (Ctl.modCard_holdsNoMore (.of_eq rfl rfl) m)

/-- The use of a slab granted to card port n. -/
def SlabUse.granted (u : SlabUse) (n : CardNo) : SlabState × Purpose × Option CardNo :=
  match u with
  | .source => (.filling, .source, some n)
  | .scan => (.filling, .scan, none)

/-- The slab that a grant gives card port n's scan for its chunk (R70). -/
def CardPort.chunkSlab (p : CardPort) (n : CardNo) : Slab :=
  { Slab.freeValues with
    state := .filling, purpose := .scan, port := some (.card n), len := p.scan.chunkSize * Config.blockBytes }

/-- Slab x has gone from c to t to card port n, for a purpose. -/
structure Ctl.GrantedTo (c t : Ctl) (n : CardNo) (u : SlabUse) (x : SlabNo) : Prop where
  others : ∀ y, y ≠ x → t.slab y = c.slab y
  use : (t.slab x).use = u.granted n
  jobs : t.jobs = c.jobs
  waits : ∀ m, t.waits m = c.waits m ∨ t.waits m = none
  reader : ∀ m r, (t.card m).reader = some r → r.slab = x ∨ ∃ r', (c.card m).reader = some r' ∧ r'.slab = r.slab
  scan : ∀ m y, (t.card m).scan.slab = some y → y = x ∨ (c.card m).scan.slab = some y

theorem Ctl.setWait_waits_or (m : CardNo) : (c.setWait n none).waits m = c.waits m ∨ (c.setWait n none).waits m = none := by
  by_cases e : m = n
  · subst e
    exact .inr (Ctl.setWait_waits ..)
  · exact .inl (Ctl.setWait_waits_ne c none e)

theorem Ctl.grant_grantedTo (hs : u = .source → (c.readingFile n).isSome = true) :
    c.GrantedTo (c.grant n u x) n u x := by
  cases u with
  | source =>
    obtain ⟨f, hf⟩ := Option.isSome_iff_exists.1 (hs rfl)
    have cards (m : CardNo) := Ctl.issueSpanRead_holdsNoMore (c.granted n x f) n m
    obtain ⟨k, e⟩ := Ctl.issueSpanRead_eq (c.granted n x f) n
    have reader (m : CardNo) (r : Reader) (hr : ((c.granted n x f).card m).reader = some r) :
        r.slab = x ∨ (c.card m).reader = some r := by
      simp only [Ctl.granted] at hr
      by_cases em : m = n
      · subst em
        rw [Ctl.modCard_card] at hr
        cases hr
        exact .inl rfl
      · rw [Ctl.modCard_card_ne _ _ em] at hr
        exact .inr hr
    have scan (m : CardNo) : ((c.granted n x f).card m).scan = (c.card m).scan := by
      simp only [Ctl.granted]
      by_cases em : m = n
      · subst em
        rw [Ctl.modCard_card]
        rfl
      · rw [Ctl.modCard_card_ne _ _ em]
        rfl
    simp only [Ctl.grant, Ctl.grantSource_eq hf]
    refine ⟨fun y hy => ?_, ?_, ?_, fun m => ?_, fun m r hr => ?_, fun m y hy => ?_⟩
    · rw [e]
      exact Ctl.modSlab_slab_ne c (fun _ => f.spanSlab n) hy
    · rw [e]
      exact congrArg Slab.use (Ctl.modSlab_slab c x fun _ => f.spanSlab n)
    · rw [e]
      rfl
    · rw [e]
      exact Ctl.setWait_waits_or m
    · obtain ⟨r', hr', same⟩ := (cards m).reader r hr
      obtain here | there := reader m r' hr'
      · exact .inl (same ▸ here)
      · exact .inr ⟨r', there, same⟩
    · rw [← scan m]
      exact .inr ((cards m).scan y hy)
  | scan =>
    simp only [Ctl.grant, Ctl.grantScan, Ctl.cardRead, Ctl.modCard_modCard]
    refine ⟨fun y hy => ?_, ?_, rfl, fun m => Ctl.setWait_waits_or m, fun m r hr => ?_, fun m y hy => ?_⟩
    · exact Ctl.modSlab_slab_ne c (fun _ => (c.card n).chunkSlab n) hy
    · exact congrArg Slab.use (Ctl.modSlab_slab c x fun _ => (c.card n).chunkSlab n)
    · refine .inr ⟨r, ?_, rfl⟩
      by_cases em : m = n
      · subst em
        rw [Ctl.modCard_card] at hr
        exact hr
      · rw [Ctl.modCard_card_ne _ _ em] at hr
        exact hr
    · by_cases em : m = n
      · subst em
        rw [Ctl.modCard_card] at hy
        cases hy
        exact .inl rfl
      · rw [Ctl.modCard_card_ne _ _ em] at hy
        exact .inr hy

/-! ### Offers (R74, R75) -/

/-- With no port to grant to, none waits. -/
theorem Ctl.nextWaiting_none (h : c.nextWaiting = none) (n : CardNo) : c.waits n = none := by
  rw [Ctl.nextWaiting, List.find?_eq_none] at h
  have turn := h n (List.mem_map.2 ⟨n - (c.lastGranted + 1), List.mem_finRange _, by abel⟩)
  simpa using turn

theorem Ctl.nextWaiting_some (h : c.nextWaiting = some n) : (c.waits n).isSome = true :=
  List.find?_some (p := fun n => (c.waits n).isSome) h

/-- The ports that wait. -/
def Ctl.waiting (c : Ctl) : Finset CardNo := Finset.univ.filter fun n => (c.waits n).isSome = true

theorem Ctl.waiting_setWait_none (h : (c.waits n).isSome = true) : (c.setWait n none).waiting.card < c.waiting.card := by
  refine Finset.card_lt_card (Finset.ssubset_iff_of_subset (fun m hm => ?_) |>.2 ⟨n, ?_, ?_⟩)
  · simp only [Ctl.waiting, Finset.mem_filter, Finset.mem_univ, true_and] at hm ⊢
    obtain e | e := Ctl.setWait_waits_or (c := c) (n := n) m
    · rwa [e] at hm
    · rw [e] at hm
      cases hm
  · simpa [Ctl.waiting] using h
  · simp [Ctl.waiting]

/-- An offer goes to a port whose request stands, or else nobody waits any more (R74, R75). -/
theorem Ctl.offerRun_ends (i : Nat) (c : Ctl) (x : SlabNo) (hi : c.waiting.card ≤ i) :
    ∃ w, let c' : Ctl := { c with waitList := w }
      (∀ m, c'.waits m = c.waits m ∨ c'.waits m = none)
        ∧ ((∃ n u, c'.stillStands n u = true ∧ c.offerRun i x = c'.grant n u x)
          ∨ (∀ m, c'.waits m = none) ∧ c.offerRun i x = c') := by
  induction i generalizing c with
  | zero =>
    refine ⟨c.waitList, fun _ => .inl rfl, .inr ⟨fun m => ?_, rfl⟩⟩
    have away : m ∉ c.waiting := by
      rw [Finset.card_eq_zero.1 (Nat.le_zero.1 hi)]
      exact Finset.notMem_empty m
    simpa [Ctl.waiting] using away
  | succ i ih =>
    simp only [Ctl.offerRun]
    split
    · next none' => exact ⟨c.waitList, fun _ => .inl rfl, .inr ⟨Ctl.nextWaiting_none none', rfl⟩⟩
    · next n hn =>
      have waits := Ctl.nextWaiting_some hn
      split
      · next e =>
        rw [e] at waits
        cases waits
      · next u hu =>
        split
        · next stands => exact ⟨c.waitList, fun _ => .inl rfl, .inl ⟨n, u, stands, rfl⟩⟩
        · obtain ⟨w, fewer, ends⟩ := ih (c.setWait n none) (by have := Ctl.waiting_setWait_none waits; omega)
          refine ⟨w, fun m => ?_, ends⟩
          obtain e | e := fewer m
          · obtain e' | e' := Ctl.setWait_waits_or (c := c) (n := n) m
            · exact .inl (e.trans e')
            · exact .inr (e.trans e')
          · exact .inr e

theorem Ctl.offer_ends (c : Ctl) (x : SlabNo) :
    ∃ w, let c' : Ctl := { c with waitList := w }
      (∀ m, c'.waits m = c.waits m ∨ c'.waits m = none)
        ∧ ((∃ n u, c'.stillStands n u = true ∧ c.offer x = c'.grant n u x)
          ∨ (∀ m, c'.waits m = none) ∧ c.offer x = c') :=
  Ctl.offerRun_ends 8 c x ((Finset.card_le_univ _).trans (by simp))

theorem Ctl.stillStands_source (h : c.stillStands n .source = true) :
    (c.readingFile n).isSome = true ∧ (c.job n).state = .running ∧ c.sourceCount n < (c.job n).quota := by
  simp only [Ctl.stillStands, Bool.and_eq_true, beq_iff_eq, decide_eq_true_eq] at h
  obtain ⟨⟨run, reading⟩, room⟩ := h
  refine ⟨?_, run, room⟩
  cases hf : c.readingFile n with
  | none => simp [hf] at reading
  | some f => rfl

theorem Ctl.sourceRequest_stands (h : c.sourceRequest n = true) : c.stillStands n .source = true := by
  simp only [Ctl.sourceRequest, Bool.and_eq_true] at h
  obtain ⟨⟨⟨⟨⟨run, reading⟩, room⟩, -⟩, -⟩, -⟩ := h
  simp only [Ctl.stillStands, run, reading, room, Bool.and_self]

/-! ## The uses of slabs (R62) -/

theorem Ctl.TakesNothing.slabUseKept {but : SlabNo → Prop} (h : c.TakesNothing but t) (k : c.SlabUseKept)
    (hb : ∀ x, but x → ((t.slab x).purpose = .verify → 508 ≤ x.val)
      ∧ ((t.slab x).purpose = .source ∨ (t.slab x).purpose = .scan → x.val < 508)) : t.SlabUseKept := by
  obtain ⟨verify, pool, readers, scans⟩ := k
  have purpose (x : SlabNo) (hx : ¬but x) : (t.slab x).purpose = (c.slab x).purpose := Slab.use_purpose (h.slabs x hx)
  refine ⟨fun x hx => ?_, fun x hx => ?_, fun n r hr => ?_, fun n x hx => scans n x ((h.cards n).scan x hx)⟩
  · by_cases e : but x
    · exact (hb x e).1 hx
    · exact verify x (purpose x e ▸ hx)
  · by_cases e : but x
    · exact (hb x e).2 hx
    · exact pool x (purpose x e ▸ hx)
  · obtain ⟨r', hr', same⟩ := (h.cards n).reader r hr
    exact same ▸ readers n r' hr'

theorem Ctl.SlabUseKept.inUse (k : c.SlabUseKept) (h : c.InUse x) : x.val < 508 := by
  obtain ⟨-, pool, readers, scans⟩ := k
  obtain e | ⟨n, r, hr, rfl⟩ | ⟨n, hn⟩ := h
  · exact pool x (.inl e)
  · exact readers n r hr
  · exact scans n x hn

theorem Ctl.SlabUseKept.of_waits (k : c.SlabUseKept) (w : Vector (Option SlabUse) 8) :
    ({ c with waitList := w } : Ctl).SlabUseKept := k

theorem Ctl.GrantedTo.slabUseKept (h : c.GrantedTo t n u x) (k : c.SlabUseKept) (hx : x.val < 508) : t.SlabUseKept := by
  obtain ⟨verify, pool, readers, scans⟩ := k
  have purpose : (t.slab x).purpose ≠ .verify := by
    have e := h.use
    cases u <;> rw [Slab.use_purpose e] <;> exact Purpose.noConfusion
  refine ⟨fun y hy => ?_, fun y hy => ?_, fun m r hr => ?_, fun m y hy => ?_⟩
  · by_cases e : y = x
    · exact (purpose (e ▸ hy)).elim
    · exact verify y (h.others y e ▸ hy)
  · by_cases e : y = x
    · exact e ▸ hx
    · exact pool y (h.others y e ▸ hy)
  · obtain e | ⟨r', hr', e⟩ := h.reader m r hr
    · exact e ▸ hx
    · exact e ▸ readers m r' hr'
  · obtain e | e := h.scan m y hy
    · exact e ▸ hx
    · exact scans m y e

theorem Ctl.offer_slabUseKept (k : c.SlabUseKept) (hx : x.val < 508) : (c.offer x).SlabUseKept := by
  obtain ⟨w, -, ⟨n, u, stands, e⟩ | ⟨-, e⟩⟩ := c.offer_ends x <;> rw [e]
  · refine (Ctl.grant_grantedTo fun hu => ?_).slabUseKept (k.of_waits w) hx
    subst hu
    exact (Ctl.stillStands_source stands).1
  · exact k

theorem Ctl.raise_slabUseKept (k : c.SlabUseKept) (stands : u = .source → c.sourceRequest n = true) :
    (c.raise n u).SlabUseKept := by
  obtain ⟨-, e⟩ | ⟨-, x, hx, e⟩ | ⟨-, -, e⟩ := c.raise_cases n u <;> rw [e]
  · exact k
  · exact (Ctl.grant_grantedTo fun hu => (Ctl.stillStands_source (Ctl.sourceRequest_stands (stands hu))).1).slabUseKept k
      (c.lowestFree_spec x hx).1
  · exact k

/-- What each change keeps of R62. -/
theorem Ctl.SlabStep.slabUseKept (h : c.SlabStep t) (k : c.SlabUseKept) : t.SlabUseKept := by
  cases h with
  | quiet h => exact h.slabUseKept k fun _ e => e.elim
  | filled x h use =>
    refine h.slabUseKept k ?_
    rintro y rfl
    rw [Slab.use_purpose use]
    exact ⟨k.1 y, k.2.1 y⟩
  | verify d h use =>
    refine h.slabUseKept k ?_
    rintro y rfl
    obtain e | e := use <;> rw [Slab.use_purpose e]
    · exact ⟨fun _ => verifySlab_ge d, by simp⟩
    · simp
  | offered x used h free =>
    refine Ctl.offer_slabUseKept (h.slabUseKept k ?_) (k.inUse used)
    rintro y rfl
    rw [Slab.use_purpose free]
    simp
  | raised n u stands => exact Ctl.raise_slabUseKept k stands
  | reset h =>
    refine ⟨fun x hx => ?_, fun x hx => ?_, fun n r hr => ?_, fun n x hx => ?_⟩
    · simp [Slab.use_purpose (h.slabs x)] at hx
    · simp [Slab.use_purpose (h.slabs x)] at hx
    · simp [h.reader n] at hr
    · simp [h.scan n] at hx

/-! ## The sharing of the pool (R63, R73, R76) -/

/-- The pool is shared by the rules, but slabs of `but` may stand FREE beside a waiting port. -/
structure Ctl.SharedBut (but : SlabNo → Prop) (c : Ctl) : Prop where
  free : ∀ y, (c.slab y).state = .free → (c.slab y).purpose = .none
  waits : ∀ y : SlabNo, ¬but y → y.val < 508 → (c.slab y).state = .free → ∀ n, c.waits n = none
  limit : ∀ n, c.sourceCount n ≤ (c.job n).slabLimit

theorem Ctl.SharedBut.poolShared (k : c.SharedBut fun _ => False) : c.PoolShared :=
  ⟨k.free, fun y => k.waits y id, k.limit⟩

theorem Ctl.PoolShared.sharedBut (k : c.PoolShared) (but : SlabNo → Prop) : c.SharedBut but := by
  obtain ⟨free, waits, limit⟩ := k
  exact ⟨free, fun y _ => waits y, limit⟩

theorem Ctl.SharedBut.fewer_waits {but : SlabNo → Prop} (k : c.SharedBut but) {w : Vector (Option SlabUse) 8}
    (h : ∀ m, ({ c with waitList := w } : Ctl).waits m = c.waits m ∨ ({ c with waitList := w } : Ctl).waits m = none) :
    ({ c with waitList := w } : Ctl).SharedBut but :=
  ⟨k.free, fun y hy hp hf m => (h m).elim (fun e => e.trans (k.waits y hy hp hf m)) id, k.limit⟩

theorem Job.slabLimit_le_quota (j : Job) : j.slabLimit ≤ j.quota := by
  unfold Job.slabLimit
  split
  all_goals simp

theorem Job.slabLimit_running {j : Job} (h : j.state = .running) : j.slabLimit = j.quota := by
  rw [Job.slabLimit, h]

/-- Where nothing is taken, and the slabs of `but` are neither FREE for a purpose nor counted anew, the pool stays shared
but for those of them that have become FREE. -/
theorem Ctl.TakesNothing.sharedBut {but exc : SlabNo → Prop} (h : c.TakesNothing but t) (k : c.PoolShared)
    (free' : ∀ y, but y → (t.slab y).state = .free → (t.slab y).purpose = .none)
    (old : ∀ y n, but y → (t.slab y).isSourceOf n = true → (c.slab y).isSourceOf n = true)
    (busy : ∀ y : SlabNo, but y → ¬exc y → y.val < 508 → (t.slab y).state ≠ .free) : t.SharedBut exc := by
  obtain ⟨free, waits, limit⟩ := k
  have state (y : SlabNo) (hy : ¬but y) : (t.slab y).state = (c.slab y).state := Slab.use_state (h.slabs y hy)
  refine ⟨fun y hy => ?_, fun y hne hp hy n => ?_, fun n => ?_⟩
  · by_cases e : but y
    · exact free' y e hy
    · rw [Slab.use_purpose (h.slabs y e)]
      exact free y (state y e ▸ hy)
  · by_cases e : but y
    · exact (busy y e hne hp hy).elim
    · obtain e' | e' := h.waits n
      · exact e'.trans (waits y hp (state y e ▸ hy) n)
      · exact e'
  · have fewer := h.sourceCount_le (n := n) fun y hy => old y n hy
    obtain up | none' := h.limit n
    · exact (fewer.trans (limit n)).trans up
    · omega

theorem Ctl.GrantedTo.poolShared (h : c.GrantedTo t n u x) (k : c.SharedBut (· = x))
    (stands : u = .source → c.stillStands n .source = true) : t.PoolShared := by
  have busy : (t.slab x).state = .filling := by
    have e := h.use
    cases u <;> exact Slab.use_state e
  have taken (y : SlabNo) (hy : (t.slab y).state = .free) : y ≠ x := by
    rintro rfl
    rw [busy] at hy
    cases hy
  refine ⟨fun y hy => ?_, fun y hp hy m => ?_, fun m => ?_⟩
  · have same := h.others y (taken y hy)
    rw [same] at hy ⊢
    exact k.free y hy
  · have free : (c.slab y).state = .free := h.others y (taken y hy) ▸ hy
    obtain e | e := h.waits m
    · exact e.trans (k.waits y (taken y hy) hp free m)
    · exact e
  · rw [Ctl.job_of_jobs h.jobs]
    have others (y : SlabNo) (hy : y ≠ x) (hs : (t.slab y).isSourceOf m = true) : (c.slab y).isSourceOf m = true :=
      h.others y hy ▸ hs
    by_cases new : (t.slab x).isSourceOf m = true
    · obtain ⟨purpose, job, -⟩ := Slab.isSourceOf_iff.1 new
      have e := h.use
      cases u with
      | scan =>
        rw [Slab.use_purpose e] at purpose
        cases purpose
      | source =>
        rw [Slab.use_job e] at job
        cases job
        obtain ⟨-, run, room⟩ := Ctl.stillStands_source (stands rfl)
        rw [Job.slabLimit_running run]
        exact (Ctl.sourceCount_le_succ others).trans room
    · refine (Ctl.sourceCount_le fun y hy => ?_).trans (k.limit m)
      by_cases e : y = x
      · exact (new (e ▸ hy)).elim
      · exact others y e hy

theorem Ctl.offer_poolShared (k : c.SharedBut (· = x)) : (c.offer x).PoolShared := by
  obtain ⟨w, fewer, ⟨n, u, stands, e⟩ | ⟨none', e⟩⟩ := c.offer_ends x <;> rw [e]
  · have source (hu : u = .source) : ({ c with waitList := w } : Ctl).stillStands n .source = true := hu ▸ stands
    exact (Ctl.grant_grantedTo fun hu => (Ctl.stillStands_source (source hu)).1).poolShared (k.fewer_waits fewer) source
  · exact ⟨k.free, fun _ _ _ => none', k.limit⟩

theorem Ctl.raise_poolShared (k : c.PoolShared) (stands : u = .source → c.sourceRequest n = true) :
    (c.raise n u).PoolShared := by
  have source (hu : u = .source) : c.stillStands n .source = true := Ctl.sourceRequest_stands (stands hu)
  obtain ⟨-, e⟩ | ⟨-, x, -, e⟩ | ⟨-, full, e⟩ := c.raise_cases n u <;> rw [e]
  · exact k
  · exact (Ctl.grant_grantedTo fun hu => (Ctl.stillStands_source (source hu)).1).poolShared (k.sharedBut _) source
  · obtain ⟨free, -, limit⟩ := k
    refine ⟨free, fun y hp hy => ?_, limit⟩
    have none' := List.find?_eq_none.1 full y (List.mem_finRange y)
    simp [Config.poolSlabs, hp, show (c.slab y).state = .free from hy] at none'

/-- What each change keeps of R73 and R76. -/
theorem Ctl.SlabStep.poolShared (h : c.SlabStep t) (k : c.PoolShared) : t.PoolShared := by
  cases h with
  | quiet h => exact (h.sharedBut k (fun _ e => e.elim) (fun _ _ e => e.elim) fun _ e => e.elim).poolShared
  | filled x h use =>
    have full (y : SlabNo) (e : y = x) : (t.slab y).state ≠ .free := by
      rw [e, Slab.use_state use]
      exact SlabState.noConfusion
    refine (h.sharedBut k (fun y e hy => (full y e hy).elim) ?_ fun y e _ _ => full y e).poolShared
    rintro y n rfl hy
    obtain ⟨purpose, job, -⟩ := Slab.isSourceOf_iff.1 hy
    rw [Slab.use_purpose use] at purpose
    rw [Slab.use_job use] at job
    refine Slab.isSourceOf_iff.2 ⟨purpose, job, fun idle => ?_⟩
    rw [k.1 y idle] at purpose
    cases purpose
  | verify d h use =>
    refine (h.sharedBut k ?_ ?_ ?_).poolShared
    · rintro y rfl hy
      obtain e | e := use
      · rw [Slab.use_state e] at hy
        cases hy
      · exact Slab.use_purpose e
    · rintro y n rfl hy
      obtain e | e := use <;> simp [Slab.isSourceOf, Slab.use_purpose e] at hy
    · rintro y rfl - hp
      exact (Nat.not_lt.2 (verifySlab_ge d) hp).elim
  | offered x used h free =>
    refine Ctl.offer_poolShared (h.sharedBut k ?_ ?_ fun y e ne => (ne e).elim)
    · rintro y rfl -
      exact Slab.use_purpose free
    · rintro y n rfl hy
      simp [Slab.isSourceOf, Slab.use_purpose free] at hy
  | raised n u stands => exact Ctl.raise_poolShared k stands
  | reset h =>
    refine ⟨fun x _ => Slab.use_purpose (h.slabs x), fun _ _ _ => h.waits, fun n => ?_⟩
    have none' : t.sourceCount n = 0 :=
      Ctl.sourceCount_eq_zero.2 fun x => by simp [Slab.isSourceOf, Slab.use_purpose (h.slabs x)]
    omega

end

end Sys2Proof.Machine

namespace Sys2Proof.Machine

/-- A run of such changes. -/
def Ctl.SlabRun : Ctl → Ctl → Prop := Relation.ReflTransGen Ctl.SlabStep

theorem Ctl.SlabRun.slabUseKept {c t : Ctl} (h : c.SlabRun t) (k : c.SlabUseKept) : t.SlabUseKept := by
  induction h with
  | refl => exact k
  | tail _ s ih => exact s.slabUseKept ih

theorem Ctl.SlabRun.poolShared {c t : Ctl} (h : c.SlabRun t) (k : c.PoolShared) : t.PoolShared := by
  induction h with
  | refl => exact k
  | tail _ s ih => exact s.poolShared ih

/-! ### Changes that take nothing -/

/-- What the allocator reads and writes. -/
def Ctl.stock (c : Ctl) : Vector Slab 512 × Vector (Option SlabUse) 8 × Vector CardPort 8 × Vector Job 8 :=
  (c.slabs, c.waitList, c.cards, c.jobs)

/-- The slabs that a card port holds, its reader's and its scan's. -/
def CardPort.held (p : CardPort) : Option Reader × Option SlabNo := (p.reader, p.scan.slab)

theorem CardPort.HoldsNoMore.of_held {p q : CardPort} (h : q.held = p.held) : p.HoldsNoMore q := by
  simp only [CardPort.held, Prod.mk.injEq] at h
  obtain ⟨reader, scan⟩ := h
  exact .of_eq reader scan

theorem CardPort.show_held (p : CardPort) (q : Pattern) : (p.show q).held = p.held := by
  unfold CardPort.show
  split <;> rfl

theorem CardPort.toggle_held (p : CardPort) : p.toggle.held = p.held := by
  unfold CardPort.toggle
  split <;> rfl

section
variable {c t u : Ctl} {but : SlabNo → Prop}

theorem Ctl.TakesNothing.refl (c : Ctl) (but : SlabNo → Prop) : c.TakesNothing but c :=
  ⟨fun _ _ => rfl, fun _ => .inl rfl, fun _ => .of_eq rfl rfl, fun _ => .inl le_rfl⟩

/-- What the allocator has nothing to do with may change besides, and a job may be limited less. -/
theorem Ctl.TakesNothing.keeping (h : c.TakesNothing but t) (slabs : u.slabs = t.slabs) (waits : u.waitList = t.waitList)
    (cards : u.cards = t.cards) (limit : ∀ m, (t.job m).slabLimit ≤ (u.job m).slabLimit) : c.TakesNothing but u where
  slabs x hx := by rw [Ctl.slab_of_slabs slabs, h.slabs x hx]
  waits n := by
    rw [Ctl.waits_of_waitList waits]
    exact h.waits n
  cards n := by
    rw [Ctl.card_of_cards cards]
    exact h.cards n
  limit n := (h.limit n).imp_left fun e => e.trans (limit n)

theorem Ctl.modSlab_takesNothing (c : Ctl) (x : SlabNo) (f : Slab → Slab) : c.TakesNothing (· = x) (c.modSlab x f) :=
  ⟨fun y hy => by rw [Ctl.modSlab_slab_ne c f hy], fun _ => .inl rfl, fun _ => .of_eq rfl rfl, fun _ => .inl le_rfl⟩

theorem Ctl.modSlab_use (c : Ctl) (x : SlabNo) (f : Slab → Slab) : ((c.modSlab x f).slab x).use = (f (c.slab x)).use := by
  rw [Ctl.modSlab_slab]

theorem Slab.KeptBut.use {s s' : Slab} (h : s.KeptBut s') : s'.use = s.use := by
  obtain ⟨job, state, purpose, -⟩ := h.fields
  rw [Slab.use, Slab.use, job, state, purpose]

end

/-! ### What job records may come to -/

theorem Job.holdIfRunning_slabLimit (j : Job) : j.holdIfRunning.slabLimit = j.slabLimit := by
  unfold Job.holdIfRunning
  split
  · next h => exact (Job.slabLimit_running h).symm
  · rfl

theorem Job.releaseIfEmpty_slabLimit (j : Job) (e : ReleaseCause) : (j.releaseIfEmpty e).slabLimit = j.slabLimit := by
  unfold Job.releaseIfEmpty
  split
  · next h => simp [Job.slabLimit, h.1]
  · rfl

theorem Job.slabLimit_le_holdIfRunning {j k : Job} (h : k.slabLimit = j.slabLimit) :
    j.slabLimit ≤ k.holdIfRunning.slabLimit := ((Job.holdIfRunning_slabLimit k).trans h).ge

theorem Job.slabLimit_le_releaseIfEmpty {j k : Job} {e : ReleaseCause} (h : k.slabLimit = j.slabLimit) : j.slabLimit ≤ (k.releaseIfEmpty e).slabLimit :=
  ((Job.releaseIfEmpty_slabLimit k e).trans h).ge

theorem Job.dropped_slabLimit (j : Job) (d : DriveNo) : (j.dropped d).slabLimit = j.slabLimit := by
  unfold Job.dropped
  simp only
  split
  · exact Job.releaseIfEmpty_slabLimit _ _
  · rfl

/-- A job that runs or is held may hold its quota. -/
theorem Job.slabLimit_le_of_runOrHold {j j' : Job} (state : j'.state = j.runOrHold) (quota : j'.quota = j.quota) :
    j.slabLimit ≤ j'.slabLimit := by
  refine j.slabLimit_le_quota.trans (le_of_eq ?_)
  unfold Job.runOrHold at state
  split at state <;> rw [Job.slabLimit, state, quota]

theorem Job.slabLimit_le_of_eq_zero {j j' : Job} (h : j.slabLimit = 0) : j.slabLimit ≤ j'.slabLimit := h ▸ Nat.zero_le _

namespace Ctl.SlabRun

section
variable {a c t : Ctl} {n : CardNo} {d : DriveNo} {x : SlabNo} {r : FileRef} {f : FileRec}

theorem refl (c : Ctl) : SlabRun c c := Relation.ReflTransGen.refl

theorem step (h : SlabRun a c) (s : c.SlabStep t) : SlabRun a t := Relation.ReflTransGen.tail h s

theorem ite {p : Prop} [Decidable p] {u : Ctl} (ht : p → SlabRun a t) (hu : ¬p → SlabRun a u) :
    SlabRun a (if p then t else u) := by
  split
  · next h => exact ht h
  · next h => exact hu h

theorem foldl {α : Type} {f : Ctl → α → Ctl} (hf : ∀ c y, SlabRun a c → SlabRun a (f c y)) (l : List α)
    (h : SlabRun a c) : SlabRun a (l.foldl f c) := by
  induction l generalizing c with
  | nil => exact h
  | cons y l ih => exact ih (hf c y h)

theorem eachDrive {f : Ctl → DriveNo → Ctl} (hf : ∀ c d, SlabRun a c → SlabRun a (f c d))
    (h : SlabRun a c) : SlabRun a (Machine.eachDrive f c) := hf _ _ (hf _ _ (hf _ _ (hf _ _ h)))

theorem eachJob {f : Ctl → CardNo → Ctl} (hf : ∀ c n, SlabRun a c → SlabRun a (f c n))
    (h : SlabRun a c) : SlabRun a (Machine.eachJob f c) :=
  hf _ _ (hf _ _ (hf _ _ (hf _ _ (hf _ _ (hf _ _ (hf _ _ (hf _ _ h)))))))

/-! ### Single updates -/

/-- Only what the allocator has nothing to do with differs. -/
theorem same (h : SlabRun a c) (kept : t.stock = c.stock) : SlabRun a t := by
  simp only [Ctl.stock, Prod.mk.injEq] at kept
  obtain ⟨slabs, waits, cards, jobs⟩ := kept
  exact h.step (.quiet ((TakesNothing.refl c _).keeping slabs waits cards fun m => by rw [Ctl.job_of_jobs jobs]))

theorem modDrive {f : DrivePort → DrivePort} (h : SlabRun a c) : SlabRun a (c.modDrive d f) := h.same rfl

theorem modDigest {f : Digest → Digest} (h : SlabRun a c) : SlabRun a (c.modDigest f) := h.same rfl

theorem modFile {g : FileRec → FileRec} (h : SlabRun a c) : SlabRun a (c.modFile r g) := h.same rfl

theorem setFiles {fs : List FileRec} (h : SlabRun a c) : SlabRun a { c with files := fs } := h.same rfl

theorem setFileDoneWaiting {w : Bool} (h : SlabRun a c) : SlabRun a (c.setFileDoneWaiting n w) := h.same rfl

theorem pushEntry {e : OutEntry} (h : SlabRun a c) : SlabRun a (c.pushEntry e) := h.same rfl

theorem pushNotice {s : Subject} {p : List Byte} (h : SlabRun a c) : SlabRun a (c.pushNotice s p) := h.same rfl

theorem setWait (h : SlabRun a c) : SlabRun a (c.setWait n none) :=
  h.step (.quiet ⟨fun _ _ => rfl, Ctl.setWait_waits_or, fun _ => .of_eq rfl rfl, fun _ => .inl le_rfl⟩)

theorem cardHoldsNoMore {f : CardPort → CardPort} (h : SlabRun a c) (hf : (c.card n).HoldsNoMore (f (c.card n))) :
    SlabRun a (c.modCard n f) :=
  h.step (.quiet ⟨fun _ _ => rfl, fun _ => .inl rfl, Ctl.modCard_holdsNoMore hf, fun _ => .inl le_rfl⟩)

theorem modCard {f : CardPort → CardPort} (h : SlabRun a c) (hf : (f (c.card n)).held = (c.card n).held) :
    SlabRun a (c.modCard n f) := h.cardHoldsNoMore (.of_held hf)

theorem modJob {f : Job → Job} (h : SlabRun a c)
    (hf : (c.job n).slabLimit ≤ (f (c.job n)).slabLimit ∨ c.sourceCount n = 0) :
    SlabRun a (c.modJob n f) := by
  refine h.step (.quiet ⟨fun _ _ => rfl, fun _ => .inl rfl, fun _ => .of_eq rfl rfl, fun m => ?_⟩)
  rw [Ctl.modJob_job_ite]
  split
  · next e => exact e ▸ hf
  · exact .inl le_rfl

/-- A job is counted as its work goes on. -/
theorem countJob {f : Job → Job} (h : SlabRun a c) (hf : ∀ j, (f j).slabLimit = j.slabLimit) :
    SlabRun a (c.modJob n f) := h.modJob (.inl (hf _).ge)

theorem modSlab {f : Slab → Slab} (h : SlabRun a c) (hf : (f (c.slab x)).use = (c.slab x).use) :
    SlabRun a (c.modSlab x f) := by
  refine h.step (.quiet ⟨fun y _ => ?_, fun _ => .inl rfl, fun _ => .of_eq rfl rfl, fun _ => .inl le_rfl⟩)
  rw [Ctl.modSlab_slab_ite]
  split
  · next e => rw [hf, e]
  · rfl

theorem setLink {p : PortId} {l : Link} (h : SlabRun a c) : SlabRun a (c.setLink p l) := by
  cases p with
  | card n => exact h.modCard (f := fun q => { q with link := l }) rfl
  | drive d => exact h.modDrive (f := fun q => { q with link := l })

/-! ### Notices, lamps, marks, job records -/

theorem notifyPort {p : PortId} (h : SlabRun a c) : SlabRun a (c.notifyPort p) := .ite (fun _ => h.same rfl) fun _ => h

theorem notifyJob (h : SlabRun a c) : SlabRun a (c.notifyJob n) := .ite (fun _ => h.same rfl) fun _ => h

theorem lineFault {k : LineFault} (h : SlabRun a c) : SlabRun a (c.lineFault k) :=
  .ite (fun _ => h.same rfl) fun _ => h.same rfl

theorem lampUpdate (h : SlabRun a c) : SlabRun a (c.lampUpdate n) :=
  .ite (fun _ => h.modCard (CardPort.show_held _ _)) fun _ => h

theorem setMarks {p q u : Bool} (h : SlabRun a c) : SlabRun a (c.setMarks n p q u) :=
  .ite (fun _ => h) fun _ => (h.modCard (by rfl)).lampUpdate.notifyPort

theorem evaluateClearance (h : SlabRun a c) : SlabRun a (c.evaluateClearance n) :=
  .ite (fun _ => h.setMarks) fun _ => h.setMarks

theorem dropWaitUnlessRunning (h : SlabRun a c) : SlabRun a (c.dropWaitUnlessRunning n) :=
  .ite (fun _ => h.setWait) fun _ => h

theorem dropStaleWait (h : SlabRun a c) : SlabRun a (c.dropStaleWait n) := .ite (fun _ => h.setWait) fun _ => h

/-- A change of a job record, to a state in which the job may hold as many slabs. -/
theorem updJob {f : Job → Job} (h : SlabRun a c) (hf : (c.job n).slabLimit ≤ (f (c.job n)).slabLimit) :
    SlabRun a (c.updJob n f) := by
  have changed := ((h.modJob (n := n) (.inl hf)).dropWaitUnlessRunning (n := n)).lampUpdate (n := n)
  exact .ite (fun _ => changed) fun _ => changed.notifyJob

/-! ### Slabs (03) -/

theorem cardRead {i k : Nat} (h : SlabRun a c) : SlabRun a (c.cardRead n i k) := h.modCard (by rfl)

theorem cardIdentify (h : SlabRun a c) : SlabRun a (c.cardIdentify n) := h.modCard (by rfl)

theorem driveIssue {k : TxnKind} {i j : Nat} (h : SlabRun a c) : SlabRun a (c.driveIssue d k i j) := h.modDrive

theorem issueSpanRead (h : SlabRun a c) : SlabRun a (c.issueSpanRead n) := by
  obtain ⟨k, e⟩ := c.issueSpanRead_eq n
  have cards (m : CardNo) := Ctl.issueSpanRead_holdsNoMore c n m
  rw [e] at cards ⊢
  exact h.step (.quiet ⟨fun _ _ => rfl, fun _ => .inl rfl, cards, fun _ => .inl le_rfl⟩)

theorem raiseSource (h : SlabRun a c) : SlabRun a (c.raiseSource n) :=
  .ite (fun stands => h.step (.raised n .source fun _ => stands)) fun _ => h

theorem freePoolSlab (h : SlabRun a c) (used : c.InUse x) : SlabRun a (c.freePoolSlab x) :=
  h.step (.offered x used (c.modSlab_takesNothing x _) (c.modSlab_use x _))

theorem releaseCounted (h : SlabRun a c) (used : c.InUse x) : SlabRun a (c.releaseCounted n x) := by
  refine h.step (.offered x used ((c.modSlab_takesNothing x fun _ => Slab.freeValues).keeping ?_ ?_ ?_ fun m => ?_) ?_)
  · simp
  · simp
  · simp
  · rw [Ctl.job_of_jobs (Ctl.notifyProgress_jobs _ n), Ctl.modJob_job_ite]
    split
    · next e => exact le_of_eq (e ▸ rfl)
    · rfl
  · rw [Ctl.slab_of_slabs (Ctl.notifyProgress_slabs _ n)]
    exact c.modSlab_use x fun _ => Slab.freeValues

theorem testRelease (h : SlabRun a c) : SlabRun a (c.testRelease x) := by
  obtain ⟨n, -, releasable, e⟩ | e := c.testRelease_cases x <;> rw [e]
  · simp only [Slab.releasable, Bool.and_eq_true, beq_iff_eq] at releasable
    obtain ⟨⟨⟨⟨purpose, -⟩, -⟩, -⟩, -⟩ := releasable
    exact h.releaseCounted (.inl purpose)
  · exact h

theorem testReleases {l : List SlabNo} (h : SlabRun a c) : SlabRun a (c.testReleases l) :=
  h.foldl (fun _ _ h => h.testRelease) l

theorem leaveInFlight (h : SlabRun a c) : SlabRun a (c.leaveInFlight d x) := h.modSlab (by rfl)

theorem leavePending (h : SlabRun a c) : SlabRun a (c.leavePending d x) := h.modSlab (by rfl)

theorem purgeDest {l : List SlabNo} (h : SlabRun a c) : SlabRun a (c.purgeDest d l) :=
  (h.foldl (fun _ _ h => h.leavePending) l).testReleases

theorem fifoPush (h : SlabRun a c) : SlabRun a (c.fifoPush x) := h.same rfl

theorem fifoRemove (h : SlabRun a c) : SlabRun a (c.fifoRemove x) := h.same rfl

theorem markDiscard (h : SlabRun a c) : SlabRun a (c.markDiscard x) := .ite (fun _ => h.same rfl) fun _ => h

theorem withdrawDigest (h : SlabRun a c) : SlabRun a (c.withdrawDigest x) :=
  .ite (fun _ => h.fifoRemove.modSlab (by rfl)) fun _ => h.markDiscard

theorem freeVerifySlab (h : SlabRun a c) : SlabRun a (c.freeVerifySlab d) :=
  h.step (.verify d (c.modSlab_takesNothing _ _) (.inr (c.modSlab_use _ _)))

/-- Slab x becomes FILLED. -/
theorem fill {g : Slab → Slab} (h : SlabRun a c)
    (hg : (g (c.slab x)).use = (.filled, (c.slab x).purpose, (c.slab x).job)) : SlabRun a (c.modSlab x g) :=
  h.step (.filled x (c.modSlab_takesNothing x g) ((c.modSlab_use x g).trans hg))

/-! ### Drive ports (07) -/

theorem portStep (h : SlabRun a c) (s : c.PortStep d t) : SlabRun a t := by
  have others (but : SlabNo → Prop) (hs : ∀ y, ¬but y → (t.slab y).use = (c.slab y).use) : c.TakesNothing but t := by
    obtain ⟨⟨ds, xs, rfl⟩, -⟩ := s.workOnly
    exact ⟨hs, fun _ => .inl rfl, fun _ => .of_eq rfl rfl, fun _ => .inl le_rfl⟩
  have elsewhere (y : SlabNo) (hy : y ≠ verifySlab d) : (t.slab y).use = (c.slab y).use :=
    ((s.slab y).resolve_right fun e => hy e.1).use
  obtain kept | ⟨-, -, r, sp, e⟩ := s.slab (verifySlab d)
  · refine h.step (.quiet (others _ fun y _ => ?_))
    by_cases hy : y = verifySlab d
    · exact hy ▸ kept.use
    · exact elsewhere y hy
  · exact h.step (.verify d (others _ elsewhere) (.inl (by rw [e]; rfl)))

theorem pump (h : SlabRun a c) : SlabRun a (c.pump d) := Ctl.pump_induction h fun _ _ h s => h.portStep s

theorem pumpAll (h : SlabRun a c) : SlabRun a c.pumpAll := h.eachDrive fun _ _ h => h.pump

theorem choose (h : SlabRun a c) : SlabRun a (c.choose d) := by
  obtain e | s := c.choose_step d
  · rwa [e]
  · exact h.portStep s

theorem releaseVerifySlab (h : SlabRun a c) : SlabRun a (c.releaseVerifySlab d) := by
  simp only [Ctl.releaseVerifySlab]
  split
  · exact h
  · exact .ite (fun _ => h.modDrive) fun _ => h.freeVerifySlab
  · exact .ite (fun _ => h.fifoRemove.freeVerifySlab) fun _ => h.markDiscard

theorem abandonContext (h : SlabRun a c) : SlabRun a (c.abandonContext d) :=
  .ite (fun _ => h.releaseVerifySlab.modDrive) fun _ => h

theorem leaveWriting (h : SlabRun a c) : SlabRun a (c.leaveWriting d) := by
  unfold Ctl.leaveWriting
  split
  · exact h
  · exact h.modDrive.leaveInFlight

theorem closeWriting {p : Bool} (h : SlabRun a c) : SlabRun a (c.closeWriting d p) := by
  unfold Ctl.closeWriting
  split
  · exact h
  · exact .ite (fun _ => h.leaveWriting.leavePending) fun _ => h.leaveWriting

theorem endWriting {p : Bool} (h : SlabRun a c) : SlabRun a (c.endWriting d p) := by
  unfold Ctl.endWriting
  split
  · exact h
  · exact h.closeWriting.testRelease

theorem withdraw {s : Slab → Bool} {r : FileRef → Bool} {p : Bool} (h : SlabRun a c) :
    SlabRun a (c.withdraw d s r p) := by
  rw [Ctl.withdraw_eq]
  have abandoned : SlabRun a ((c.modDrive d fun q => q.filtered (fun x => s (c.slab x)) r).abandonOf d r) :=
    .ite (fun _ => h.modDrive.abandonContext) fun _ => h.modDrive
  exact .ite (fun _ => abandoned.closeWriting) fun _ => abandoned

theorem withdrawJob (h : SlabRun a c) : SlabRun a (c.withdrawJob d n) := h.withdraw

theorem withdrawFile (h : SlabRun a c) : SlabRun a (c.withdrawFile d r) := h.withdraw

theorem promptDrive (h : SlabRun a c) : SlabRun a (Ctl.promptDrive n c d) := by
  have unstaged : SlabRun a (Ctl.unstage n c d) := by
    unfold Ctl.unstage
    split
    · exact .ite (fun _ => h.modDrive) fun _ => h
    · exact h
  rw [Ctl.promptDrive_eq]
  unfold Ctl.putBackVerify
  split
  · exact .ite (fun _ => unstaged.abandonContext.modDrive) fun _ => unstaged
  · exact unstaged

theorem dropWork (h : SlabRun a c) : SlabRun a (c.dropWork d) := by
  have emptied : SlabRun a (((c.modDrive d fun p => { p with staged := none }).endWriting d false).modDrive d
      fun p => { p with writeQueue := [] }) := h.modDrive.endWriting.modDrive
  unfold Ctl.dropWork
  exact modDrive (ite (fun _ => emptied.freeVerifySlab) fun _ => emptied.abandonContext)

theorem requeueWrites {l : List CardNo} (h : SlabRun a c) : SlabRun a (c.requeueWrites d l) := h.modDrive.purgeDest

theorem requeueVerifies {l : List CardNo} (h : SlabRun a c) : SlabRun a (c.requeueVerifies d l) := h.same rfl

theorem endEntries (h : SlabRun a c) : SlabRun a (Ctl.endEntries r c d) :=
  .ite (fun _ => h) fun _ => h.modDrive.purgeDest.pump

/-! ### Files (02) -/

theorem retire {o : FileOutcome} (h : SlabRun a c) : SlabRun a (c.retire f o) := by
  have left : SlabRun a { c with
      files := c.files.filter (fun g => g.ref != f.ref), fileDoneTurn := f.ref.job } := h.same rfl
  have retired : SlabRun a (c.retired f o) := left.pushEntry.countJob fun _ => rfl
  rw [Ctl.retire_eq]
  exact retired.eachDrive fun _ _ h => h.endEntries

theorem retireRun (k : Nat) (h : SlabRun a c) : SlabRun a (c.retireRun k n) := by
  induction k generalizing c with
  | zero => exact h
  | succ k ih =>
    simp only [Ctl.retireRun]
    split
    · exact h.setFileDoneWaiting
    · split
      · exact .ite (fun _ => ih h.retire) fun _ => h.setFileDoneWaiting
      · exact h.setFileDoneWaiting

theorem testRetire (h : SlabRun a c) : SlabRun a (c.testRetire n) := h.retireRun _

theorem testComplete (h : SlabRun a c) : SlabRun a (c.testComplete r) := by
  unfold Ctl.testComplete
  split
  · exact h
  · exact .ite (fun _ => h.modFile.testRetire) fun _ => h

theorem testCompletes {l : List FileRef} (h : SlabRun a c) : SlabRun a (c.testCompletes l) :=
  h.foldl (fun _ _ h => h.testComplete) l

theorem sourceGood (h : SlabRun a c) : SlabRun a (c.sourceGood r) := (h.modFile.countJob fun _ => by rfl).testComplete

theorem promoteRun (k : Nat) (h : SlabRun a c) : SlabRun a (c.promoteRun k n) := by
  induction k generalizing c with
  | zero => exact h
  | succ k ih =>
    simp only [Ctl.promoteRun]
    refine .ite (fun _ => ?_) fun _ => h
    split
    · exact h
    · exact .ite (fun _ => ih (h.modFile.countJob fun _ => by rfl).testComplete) fun _ => h.modFile

theorem promote (h : SlabRun a c) : SlabRun a (c.promote n) := h.promoteRun _

/-! ### The job unit (01) -/

/-- A job that holds no source slab ends (R8, R26). -/
theorem endJob {e : EndReason} (h : SlabRun a c) (none' : c.sourceCount n = 0) : SlabRun a (c.endJob n e) :=
  (h.modJob (.inr none')).dropWaitUnlessRunning.evaluateClearance.lampUpdate.notifyJob

theorem drainSlab (h : SlabRun a c) (hx : (c.slab x).isSourceOf n = true) : SlabRun a (Ctl.drainSlab n c x) :=
  have used : c.InUse x := .inl (Slab.isSourceOf_iff.1 hx).1
  .ite (fun _ => h.releaseCounted used) fun _ => h.freePoolSlab used

theorem drainSlabs (l : List SlabNo) (nodup : l.Nodup) (h : SlabRun a c)
    (hl : ∀ x ∈ l, (c.slab x).isSourceOf n = true) : SlabRun a (l.foldl (Ctl.drainSlab n) c) := by
  induction l generalizing c with
  | nil => exact h
  | cons x l ih =>
    obtain ⟨hx, nodup⟩ := List.nodup_cons.1 nodup
    obtain ⟨others, -⟩ := c.drainSlab_slab n x
    refine ih nodup (h.drainSlab (hl x List.mem_cons_self)) fun y hy => ?_
    rw [others y fun e => hx (e ▸ hy)]
    exact hl y (List.mem_cons_of_mem x hy)

/-- The drain of a STOPPING job leaves it no slab, so that it may end (R26, R77). -/
theorem drainStop (h : SlabRun a c) (stopping : (c.job n).state = .stopping) (idle : c.txnOf n = false) :
    SlabRun a (c.drainStop n) := by
  have drained : SlabRun a (c.drainedStop n) :=
    testRetire (setFiles (h.drainSlabs (c.slabsWhere fun s => s.isSourceOf n) (c.slabsWhere_nodup _)
      fun x hx => (c.mem_slabsWhere _ x).1 hx))
  rw [Ctl.drainStop_eq]
  exact .ite (fun _ => drained.endJob (Ctl.drainedStop_drained (M := (· = n)) stopping idle).noSlab) fun _ => drained

theorem settle (h : SlabRun a c) : SlabRun a (c.settle n) := by
  have kept := h.dropStaleWait (n := n)
  have empty (e : (c.dropStaleWait n).endCondition n = true) : (c.dropStaleWait n).sourceCount n = 0 :=
    ((Ctl.endCondition_iff _ n).1 e).2.2.2
  simp only [Ctl.settle]
  split
  · exact .ite (fun e => kept.endJob (empty e)) fun _ => kept.raiseSource
  · exact .ite (fun e => kept.endJob (empty e)) fun _ => kept
  · exact .ite (fun _ => kept.updJob (by exact Job.slabLimit_le_quota _)) fun _ => kept
  · next stopping => exact .ite (fun e => kept.drainStop stopping (Ctl.stopDrained_txnOf e)) fun _ => kept
  · exact kept

theorem settleAll (h : SlabRun a c) : SlabRun a (Machine.eachJob Ctl.settle c) := h.eachJob fun _ _ h => h.settle

theorem enterStopping {e : EndReason} (h : SlabRun a c) : SlabRun a (c.enterStopping n e) :=
  (((h.updJob (by exact Job.slabLimit_le_quota _)).eachDrive fun _ _ h => h.withdrawJob).foldl (fun _ _ h => h.withdrawDigest) _).testReleases.pumpAll

theorem fault {e : FaultCause} (h : SlabRun a c) : SlabRun a (c.fault n e) := (h.updJob (by exact Job.slabLimit_le_quota _)).pumpAll

theorem cardGone (h : SlabRun a c) : SlabRun a (c.cardGone n) :=
  .ite (fun _ => h.updJob (Job.slabLimit_le_holdIfRunning rfl)) fun _ => h

theorem cardReturned (h : SlabRun a c) : SlabRun a (c.cardReturned n) := by
  refine .ite (fun _ => .ite (fun _ => ?_) fun _ => .ite (fun _ => h) fun _ => h.fault) fun _ => h
  split
  · exact h.updJob (Job.slabLimit_le_releaseIfEmpty rfl)
  · exact h.updJob le_rfl

theorem dropDest (h : SlabRun a c) : SlabRun a (c.dropDest n d) := by
  have dropped : SlabRun a (c.destDropped n d) := (h.updJob (Job.dropped_slabLimit _ d).ge).withdrawJob.purgeDest
  have closed : SlabRun a ((c.destDropped n d).resultsDropped n d) := dropped.setFiles
  rw [Ctl.dropDest_eq]
  exact pump (ite (fun _ => closed.testCompletes.enterStopping) fun _ => closed.testCompletes)

theorem holdDest (h : SlabRun a c) : SlabRun a (c.holdDest n d) :=
  setFiles (h.updJob (Job.slabLimit_le_holdIfRunning rfl))

theorem driveGoneFor (h : SlabRun a c) : SlabRun a (Ctl.driveGoneFor d c n) := by
  refine .ite (fun _ => ?_) fun _ => h
  split
  · exact h.dropDest
  · exact h.holdDest

theorem driveGone (h : SlabRun a c) : SlabRun a (c.driveGone d) := (h.eachJob fun _ _ h => h.driveGoneFor).settleAll

theorem driveReturnedFor (h : SlabRun a c) : SlabRun a (Ctl.driveReturnedFor d c n) := by
  refine .ite (fun _ => ?_) fun _ => h
  split
  · exact h.updJob (Job.slabLimit_le_releaseIfEmpty rfl)
  · exact h.updJob le_rfl

theorem countFailure (h : SlabRun a c) : SlabRun a (c.countFailure n) :=
  .ite (fun _ => (h.countJob fun _ => by rfl).fault) fun _ => h.countJob fun _ => by rfl

theorem sourceFail {e : SourceResult} (h : SlabRun a c) : SlabRun a (c.sourceFail r e) := by
  have failed : SlabRun a (c.modFile r fun f =>
      { f with result := e, state := if f.state = .reading then .draining else f.state }) := h.modFile
  refine .ite (fun _ => ?_) fun _ => h
  have counted := SlabRun.ite (p := e = .failed) (fun _ => failed.countFailure (n := r.job)) fun _ => failed
  have withdrawn := ((counted.promote (n := r.job)).dropStaleWait (n := r.job)).foldl
    (f := fun c x => c.modSlab x Slab.keepInFlight) (fun _ _ h => h.modSlab (by rfl))
  exact (((withdrawn _).eachDrive fun _ _ h => h.withdrawFile).foldl (fun _ _ h => h.withdrawDigest)
    _).modFile.testReleases.testComplete.pumpAll

/-! ### Card ports (06) and residue scans (09) -/

theorem ladderStep {g : Flight} (h : SlabRun a c) : SlabRun a (c.ladderStep n g) :=
  cardRead (ite (fun _ => h.modCard (by rfl)) fun _ => (h.modCard (by rfl)).notifyPort)

theorem closeAttempts {k : Attempt} (h : SlabRun a c) : SlabRun a (c.closeAttempts n k) := h.modCard (by rfl)

/-- A card port gives up a slab that it holds, which is freed (R67, R70). -/
theorem giveUp {g : CardPort → CardPort} (h : SlabRun a c) (used : c.InUse x)
    (hg : (c.card n).HoldsNoMore (g (c.card n))) : SlabRun a ((c.modCard n g).freePoolSlab x) :=
  h.step (.offered x used ⟨fun _ hy => congrArg Slab.use (Ctl.modSlab_slab_ne _ _ hy), fun _ => .inl rfl,
    Ctl.modCard_holdsNoMore hg, fun _ => .inl le_rfl⟩ ((c.modCard n g).modSlab_use x _))

theorem dropReader (h : SlabRun a c) : SlabRun a (c.dropReader n) := by
  unfold Ctl.dropReader
  split
  · exact h
  · next q hq => exact h.giveUp (.inr (.inl ⟨n, q, hq, rfl⟩)) ⟨fun _ e => (nomatch e), fun _ e => e⟩

theorem dropScanSlab (h : SlabRun a c) : SlabRun a (c.dropScanSlab n) := by
  unfold Ctl.dropScanSlab
  split
  · exact h
  · next hx => exact h.giveUp (.inr (.inr ⟨n, hx⟩)) ⟨fun q e => ⟨q, e, rfl⟩, fun _ e => nomatch e⟩

theorem readFails (h : SlabRun a c) : SlabRun a (c.readFails n x) := by
  unfold Ctl.readFails
  split
  · exact h.dropReader
  · exact h.dropReader.sourceFail

theorem scanEnd {o : ScanOutcome} {i k : Nat} (h : SlabRun a c) : SlabRun a (c.scanEnd n o i k) := by
  have marked := SlabRun.ite (p := o = .found) (fun _ => h.setMarks (n := n) (p := false) (q := true)
    (u := (c.card n).unclean)) fun _ => h
  simp only [Ctl.scanEnd]
  exact cardHoldsNoMore (ite (fun _ => marked.pushNotice) fun _ => marked) ⟨fun q e => ⟨q, e, rfl⟩, fun _ e => nomatch e⟩

theorem scanBreak {o : ScanOutcome} (h : SlabRun a c) : SlabRun a (c.scanBreak n o) := h.dropScanSlab.scanEnd

theorem nextChunk (h : SlabRun a c) : SlabRun a (c.nextChunk n) :=
  (h.modCard (n := n) (f := fun p => { p with scan := p.scan.formChunk }) rfl).step (.raised n .scan fun e => nomatch e)

theorem scanReadEnd {g : Flight} {o : TxnOutcome} (h : SlabRun a c) : SlabRun a (c.scanReadEnd n g o) := by
  refine .ite (fun _ => h.closeAttempts.scanBreak) fun _ => ?_
  split
  · exact (h.closeAttempts.fill (by rfl)).modCard (by rfl)
  · exact .ite (fun _ => h.ladderStep) fun _ => h.closeAttempts.dropScanSlab.scanEnd
  · exact h.closeAttempts.dropScanSlab.scanEnd

theorem examinationEnd {i : Option Nat} (h : SlabRun a c) : SlabRun a (c.examinationEnd n i) := by
  unfold Ctl.examinationEnd
  split
  · exact (h.modCard (by rfl)).dropScanSlab.scanEnd
  · exact .ite (fun _ => (h.modCard (by rfl)).dropScanSlab.nextChunk) fun _ => (h.modCard (by rfl)).dropScanSlab.scanEnd

theorem examinePart {m : List Host.Cell} (h : SlabRun a c) : SlabRun a (Ctl.examinePart m c n) := by
  simp only [Ctl.examinePart]
  split
  · exact modCard (h.same (t := { c with freeDraws := c.freeDraws + 1 }) rfl) rfl
  · exact h

theorem cardIdentifying (h : SlabRun a c) : SlabRun a (c.cardIdentifying n) :=
  (h.modCard (by rfl)).cardIdentify.notifyPort.lampUpdate

theorem cardIdentified {o : TxnOutcome} {k : Nat} {i : Serial} (h : SlabRun a c) :
    SlabRun a (c.cardIdentified n o k i) :=
  .ite (fun _ => (h.modCard (by rfl)).cardReturned.notifyPort.lampUpdate.settle) fun _ =>
    .ite (fun _ => (h.modCard (by rfl)).cardIdentify) fun _ => (h.modCard (by rfl)).notifyPort.lampUpdate

theorem cardRemoved (h : SlabRun a c) : SlabRun a (c.cardRemoved n) := by
  have waited := h.setWait (n := n)
  have reset := SlabRun.ite (p := (c.card n).link.flight.isSome = true)
    (fun _ => waited.modCard (n := n) (f := fun p => { p with link := p.link.assertReset }) rfl) fun _ => waited
  simp only [Ctl.cardRemoved]
  refine settle (ite (fun _ => ?_) fun _ => scanBreak ?_)
  all_goals exact (reset.modCard (by rfl)).dropReader.dropScanSlab.setMarks.notifyPort.lampUpdate.cardGone

/-- A sample changes the run counts (R116). -/
theorem sampled {b : Bool} (h : SlabRun a c) : SlabRun a (c.modCard n fun p =>
    if b then { p with highRun := min c.debounce (p.highRun + 1), lowRun := 0 }
    else { p with lowRun := min c.debounce (p.lowRun + 1), highRun := 0 }) :=
  h.modCard (by cases b <;> rfl)

theorem cardSample {b : Bool} (h : SlabRun a c) : SlabRun a (c.cardSample n b) := by
  have counted := h.sampled (n := n) (b := b)
  simp only [Ctl.cardSample]
  split
  · exact .ite (fun _ => (counted.modCard (by rfl)).notifyPort.lampUpdate) fun _ => counted
  · exact .ite (fun _ => .ite (fun _ => counted.cardIdentifying) fun _ => counted) fun _ =>
      .ite (fun _ => counted.cardRemoved) fun _ => counted
  all_goals exact .ite (fun _ => counted.cardRemoved) fun _ => counted

theorem cardLow {m : List Host.Cell} (h : SlabRun a c) : SlabRun a (Ctl.cardLow m c n) :=
  cardSample (ite (fun _ => h.examinePart) fun _ => h)

/-! ### The reader (6.5) -/

theorem placeEntry (h : SlabRun a c) : SlabRun a (Ctl.placeEntry n x c d) := .ite (fun _ => h.modDrive) fun _ => h

theorem fillSlab (h : SlabRun a c) : SlabRun a (c.fillSlab n x f) := by
  have filled : SlabRun a (c.modSlab x fun s => { s with
      state := .filled, fillSeq := c.fillSeq, pendingWrites := pendingSet (c.job n) f }) := h.fill rfl
  simp only [Ctl.fillSlab]
  exact eachDrive (f := Ctl.placeEntry n x) (fun _ _ h => h.placeEntry) (fifoPush (filled.same (by rfl)))

theorem noReader (h : SlabRun a c) : SlabRun a (c.modCard n fun p => { p with reader := none }) :=
  h.cardHoldsNoMore ⟨fun _ e => (nomatch e), fun _ e => e⟩

theorem spanComplete (h : SlabRun a c) : SlabRun a (c.spanComplete n x) := by
  simp only [Ctl.spanComplete]
  split
  · exact h
  · next f _ =>
    have read := ((h.fillSlab (n := n) (x := x) (f := f)).noReader (n := n)).modFile (r := f.ref) (g := fun g => { g with
        readOffset := g.readOffset + (c.slab x).len
        state := if f.readOffset + (c.slab x).len == f.len then .draining else g.state })
    exact pumpAll (ite (fun _ => (read.countJob fun _ => by rfl).testComplete.promote) fun _ => read.countJob fun _ => by rfl)

/-- The reader goes on in the slab that it holds (R126). -/
theorem readOn {q : Reader} {k : Nat} (h : SlabRun a c) (hq : (c.card n).reader = some q) :
    SlabRun a (c.modCard n fun p => { p with reader := some { q with next := k } }) :=
  h.cardHoldsNoMore ⟨fun q' e => ⟨q, hq, by cases e; rfl⟩, fun _ e => e⟩

theorem readerEnd {q : Reader} {g : Flight} {o : TxnOutcome} (h : SlabRun a c) (hq : (c.card n).reader = some q) :
    SlabRun a (c.readerEnd n q g o) := by
  refine settle (ite (fun _ => ?_) fun _ => h.closeAttempts.dropReader)
  split
  · have read := (h.closeAttempts (n := n) (k := .success)).readOn (n := n) (q := q) (k := q.next + g.count)
      (by rw [Ctl.closeAttempts, Ctl.modCard_card]; exact hq)
    exact .ite (fun _ => read.issueSpanRead) fun _ => read.spanComplete
  · exact .ite (fun _ => h.ladderStep) fun _ => h.closeAttempts.readFails
  · exact h.closeAttempts.readFails

theorem cardTxnEnd {g : Flight} {o : TxnOutcome} {k : Nat} {i : Serial} (h : SlabRun a c) :
    SlabRun a (c.cardTxnEnd n g o k i) := by
  unfold Ctl.cardTxnEnd
  split
  · exact h.cardIdentified
  · split
    · next hq => exact h.readerEnd hq
    · exact .ite (fun _ => h) fun _ => h.scanReadEnd
  · exact h

/-! ### Events at a drive port (07) -/

theorem driveLost {k : TxnKind} {o : TxnOutcome} (h : SlabRun a c) : SlabRun a (c.driveLost d k o) :=
  h.modDrive.dropWork.modDrive.notifyPort.driveGone

theorem driveAbsent (h : SlabRun a c) : SlabRun a (c.driveAbsent d) := by
  have gone := h.modDrive (d := d) (f := fun p => { p with
    state := .absent, highRun := 0, lowRun := 0, link := if p.link.flight.isSome then p.link.assertReset else p.link })
  have dropped := SlabRun.ite (p := ((c.drive d).state == .ready) = true) (fun _ => gone.dropWork (d := d)) fun _ => gone
  have told := (dropped.modDrive (d := d) (f := fun p => { p with capacity := 0, serial := zeroSerial, attempts := 0 })
    ).notifyPort (p := .drive d)
  exact .ite (fun _ => told.driveGone) fun _ => told

theorem driveReady {k : Nat} {i : Serial} (h : SlabRun a c) : SlabRun a (c.driveReady d k i) :=
  (h.modDrive.eachJob fun _ _ h => h.driveReturnedFor).requeueWrites.choose.requeueVerifies.pump.notifyPort.settleAll

theorem driveIdentifying (h : SlabRun a c) : SlabRun a (c.driveIdentifying d) := h.modDrive.driveIssue.notifyPort

theorem driveIdentified {o : TxnOutcome} {k : Nat} {i : Serial} (h : SlabRun a c) :
    SlabRun a (c.driveIdentified d o k i) :=
  .ite (fun _ => h.driveReady) fun _ => .ite (fun _ => h.modDrive.driveIssue) fun _ => h.modDrive.notifyPort

theorem settleOwner {s : Slab} (h : SlabRun a c) : SlabRun a (c.settleOwner s) := by
  unfold Ctl.settleOwner
  split
  · exact h.settle
  · exact h

theorem writeDone {k : Nat} (h : SlabRun a c) : SlabRun a (c.writeDone d n r k) := by
  have written := (h.modFile (r := r) (g := fun f => f.modDest d fun e => { e with
    bytesWritten := e.bytesWritten + k
    result := if e.bytesWritten + k = f.len then .written else e.result })).endWriting (d := d) (p := true)
  refine .ite (fun _ => ?_) fun _ => written
  split
  · exact written.modDrive
  · exact written.testComplete

theorem writeFails (h : SlabRun a c) : SlabRun a (c.writeFails d r) := by
  simp only [Ctl.writeFails]
  exact h.modFile.leaveWriting.withdrawFile.purgeDest.testComplete

theorem writeClose {w : Writing} {g : Flight} {b : Bool} (h : SlabRun a c) : SlabRun a (c.writeClose d w g b) := by
  simp only [Ctl.writeClose]
  split
  · exact .ite (fun _ => h.endWriting) fun _ => .ite (fun _ => .ite (fun _ => h.endWriting) fun _ =>
      .ite (fun _ => h.modDrive) fun _ => h.writeDone) fun _ => h.writeFails
  · exact h.endWriting

theorem retry {g : Flight} (h : SlabRun a c) : SlabRun a (c.retry d g) := h.modDrive.driveIssue

theorem writeEnd {g : Flight} {o : TxnOutcome} (h : SlabRun a c) : SlabRun a (c.writeEnd d g o) := by
  unfold Ctl.writeEnd
  split
  · exact h.pump
  · split
    · exact .ite (fun _ => h.retry) fun _ => h.driveLost
    · exact h.modDrive.writeClose.pump.settleOwner

theorem readBackFails (h : SlabRun a c) : SlabRun a (c.readBackFails d r) :=
  h.freeVerifySlab.modFile.modDrive.testComplete

theorem readBackGood {k : Context} {sp : Span} {g : Flight} (h : SlabRun a c) : SlabRun a (c.readBackGood d k sp g) :=
  .ite (fun _ => h.modDrive) fun _ => (h.fill (by rfl)).fifoPush.modDrive

theorem readBackEnd {g : Flight} {o : TxnOutcome} (h : SlabRun a c) : SlabRun a (c.readBackEnd d g o) := by
  refine .ite (fun _ => ?_) fun _ => ?_
  · split
    · exact h.freeVerifySlab.modDrive.pump.settle
    · exact h.freeVerifySlab.modDrive.pump
  · split
    · exact h.pump
    · split
      · exact .ite (fun _ => h.retry) fun _ => h.driveLost
      · exact h.modDrive.readBackGood.pump.settle
      · exact h.modDrive.readBackFails.pump.settle
      · exact h.pump

theorem driveTxnEnd {g : Flight} {o : TxnOutcome} {k : Nat} {i : Serial} (h : SlabRun a c) :
    SlabRun a (c.driveTxnEnd d g o k i) := by
  unfold Ctl.driveTxnEnd
  split
  · exact h.driveIdentified
  · exact h.writeEnd
  · exact h.readBackEnd

theorem driveSample {b : Bool} (h : SlabRun a c) : SlabRun a (c.driveSample d b) := by
  simp only [Ctl.driveSample]
  split
  · exact .ite (fun _ => h.modDrive.modDrive.notifyPort) fun _ => h.modDrive
  · exact .ite (fun _ => .ite (fun _ => h.modDrive.driveIdentifying) fun _ => h.modDrive) fun _ =>
      .ite (fun _ => h.modDrive.driveAbsent) fun _ => h.modDrive
  all_goals exact .ite (fun _ => h.modDrive.driveAbsent) fun _ => h.modDrive

theorem endTxn {p : PortId} {g : Flight} {o : TxnOutcome} {k : Nat} {i : Serial} (h : SlabRun a c) :
    SlabRun a (c.endTxn p g o k i) := by
  cases p with
  | card n => exact h.setLink.cardTxnEnd
  | drive d => exact h.setLink.driveTxnEnd

theorem statusRecord {p : PortId} {i j : Byte} {k : Option (BitVec 48 × Serial)} {b : BitVec 16}
    (h : SlabRun a c) : SlabRun a (c.statusRecord p i j k b) := by
  unfold Ctl.statusRecord
  split
  · exact h
  · exact .ite (fun _ => h) fun _ => h.endTxn

theorem linkTimeout {p : PortId} (h : SlabRun a c) : SlabRun a (c.linkTimeout p) := by
  unfold Ctl.linkTimeout
  split
  · exact h
  · exact h.endTxn

theorem linkResetEnds {p : PortId} (h : SlabRun a c) : SlabRun a (c.linkResetEnds p) := by
  refine .ite (fun _ => ?_) fun _ => h
  cases p with
  | card n => exact .ite (fun _ => h.setLink.cardIdentify) fun _ => h.setLink
  | drive d => exact .ite (fun _ => h.setLink.driveIssue) fun _ => h.setLink

/-! ### The digest unit (04) -/

theorem digestBegin (h : SlabRun a c) : SlabRun a c.digestBegin := by
  unfold Ctl.digestBegin
  split
  · exact h.modDigest
  · exact h

theorem foldSource {m w i j : Nat} (h : SlabRun a c) : SlabRun a (c.foldSource r m w i j) := by
  unfold Ctl.foldSource
  split
  · exact h
  · exact .ite (fun _ => h) fun _ => .ite (fun _ => .ite (fun _ => h.sourceFail) fun _ => h) fun _ =>
      .ite (fun _ => h.modFile.sourceGood) fun _ => h.modFile

theorem foldVerify {m w i j : Nat} (h : SlabRun a c) : SlabRun a (c.foldVerify d m w i j) := by
  unfold Ctl.foldVerify
  split
  · exact .ite (fun _ => h.modFile.modDrive.testComplete) fun _ =>
      .ite (fun _ => h.modFile.modDrive.testComplete) fun _ => h.modDrive
  · exact h

theorem digestFinish {i j : Nat} (h : SlabRun a c) : SlabRun a (c.digestFinish x i j) := by
  simp only [Ctl.digestFinish]
  split
  · exact settle (testRelease (modSlab (ite (fun _ => h.modDigest) fun _ => h.modDigest.foldSource) (by rfl)))
  · have folded : ∀ {d : DriveNo} {u : Digest → Digest} {b : Bool} {m w : Nat}, SlabRun a
        (((if b = true then c.modDigest u else (c.modDigest u).foldVerify d m w i j).freeVerifySlab d).pump d) :=
      pump (freeVerifySlab (ite (fun _ => h.modDigest) fun _ => h.modDigest.foldVerify))
    split
    · exact folded.settle
    · exact folded
  · exact h.modDigest

end

end Ctl.SlabRun

end Sys2Proof.Machine

namespace Sys2Proof.Machine

/-! ### The operations of requests -/

namespace Ctl.SlabRun

section
variable {a c t : Ctl} {n : CardNo}

theorem startJob (h : SlabRun a c) : SlabRun a (c.startJob n) :=
  (h.updJob (Job.slabLimit_le_of_runOrHold rfl rfl)).promote.settle

theorem evaluateEnd (h : SlabRun a c) : SlabRun a (c.evaluateEnd n) :=
  .ite (fun e => h.endJob ((Ctl.endCondition_iff c n).1 e).2.2.2) fun _ => h

theorem closeJob (h : SlabRun a c) : SlabRun a (c.closeJob n) := .ite (fun _ => h) fun _ => (h.countJob fun _ => by rfl).evaluateEnd

theorem suspendJob {m : SuspendMode} (h : SlabRun a c) : SlabRun a (c.suspendJob n m) := by
  simp only [Ctl.suspendJob]
  refine ite (fun _ => h) fun _ => settle (ite (fun _ => ?_) fun _ => ?_)
  · refine pumpAll (eachDrive (fun _ _ h => h.promptDrive) ?_)
    exact h.updJob (Job.slabLimit_le_quota _)
  · exact h.updJob (Job.slabLimit_le_quota _)

theorem resumeHeld (h : SlabRun a c) : SlabRun a (c.resumeHeld n) := by
  unfold Ctl.resumeHeld
  exact settle (h.updJob (Job.slabLimit_le_releaseIfEmpty rfl))

theorem resumeSuspended (h : SlabRun a c) : SlabRun a (c.resumeSuspended n) :=
  (h.updJob (Job.slabLimit_le_of_runOrHold rfl rfl)).pumpAll.promote.settle

theorem stopJob (h : SlabRun a c) : SlabRun a (c.stopJob n) :=
  .ite (fun _ => h) fun _ => h.enterStopping.settle

theorem clearJob (h : SlabRun a c) : SlabRun a (c.clearJob n) := by
  simp only [Ctl.clearJob]
  refine settle (pumpAll (promote (h.updJob ?_)))
  split
  · exact Job.slabLimit_le_quota _
  · exact Job.slabLimit_le_of_runOrHold rfl rfl

theorem setLamp {m : Release} {b : Byte} (h : SlabRun a c) : SlabRun a (c.setLamp n m b) := by
  unfold Ctl.setLamp
  split
  · exact (h.modCard (by rfl)).lampUpdate
  · refine h.modCard ?_
    dsimp only
    split
    · exact CardPort.show_held _ _
    · rfl

theorem blink (h : SlabRun a c) : SlabRun a (c.modCard n CardPort.toggle) := h.modCard (CardPort.toggle_held _)

theorem stopScan {m : List Host.Cell} (h : SlabRun a c) : SlabRun a (Ctl.stopScan m c n) := by
  unfold Ctl.stopScan
  split
  · exact h
  · exact h
  · exact h.setWait.scanBreak
  · exact h.modCard (by rfl)
  · exact h.examinePart.scanBreak

theorem startScan {i k : Nat} {d : Direction} {b : BlankPattern} (h : SlabRun a c) :
    SlabRun a (c.startScan n i k d b) := (h.modCard (by rfl)).nextChunk

theorem joinFile {q : FileAddReq} (h : SlabRun a c) : SlabRun a (c.joinFile n q) := by
  have joined : SlabRun a { c with files := c.files ++ [c.newFile n q], nextFile := c.nextFile + 1 } := h.same rfl
  unfold Ctl.joinFile
  exact joined.countJob fun _ => rfl

/-- A record that may hold no slab is filled (R5). -/
theorem openJob {o : OpenReq} (h : SlabRun a c) (free : (c.job n).state = .free) : SlabRun a (c.openJob n o) :=
  (h.modJob (f := fun _ => c.openedJob n o) (.inl (Job.slabLimit_le_of_eq_zero (by rw [Job.slabLimit, free])))
    ).setMarks.lampUpdate.notifyPort.notifyJob

/-- A record that may hold no slab is freed (R31). -/
theorem freeJob (h : SlabRun a c) (takes : (c.job n).state.takes .jobFree = true) : SlabRun a (c.freeJob n) := by
  have none' : (c.job n).slabLimit = 0 := by
    rw [Job.slabLimit]
    cases e : (c.job n).state
    case free | opened | ended => rfl
    all_goals simp [e, JobState.takes] at takes
  rw [Ctl.freeJob_eq]
  exact (modJob (h.setFiles.setFileDoneWaiting) (.inl (Job.slabLimit_le_of_eq_zero none'))
    ).lampUpdate.notifyPort.notifyJob

theorem faultAtMost (h : SlabRun a c) (f : c.FaultAtMost t) : SlabRun a t := by
  obtain rfl | ⟨k, rfl⟩ := f
  · exact h
  · exact h.lineFault

theorem afterLeaving {e : OutEntry} (h : SlabRun a c) : SlabRun a (c.afterLeaving e) := by
  unfold Ctl.afterLeaving
  split
  · exact h.same rfl
  · split
    · exact h
    · exact h.testRetire.settle
  · exact h

end

end Ctl.SlabRun

/-- A request that is answered with DONE makes a run of changes of the slabs. -/
def Ctl.AnswersSlabs (c : Ctl) (a : Answer) : Prop := ∀ t fields, a = .ok (t, fields) → c.SlabRun t

namespace Ctl.AnswersSlabs

section
variable {c t : Ctl} {fields : List Byte}

theorem error {r : Reason} : c.AnswersSlabs (.error r) := fun _ _ h => nomatch h

theorem ok (h : c.SlabRun t) : c.AnswersSlabs (.ok (t, fields)) := fun _ _ e => by
  cases e
  exact h

theorem forJob {k : MsgKind} {b : Byte} {act : CardNo → Answer}
    (h : ∀ n, (c.job n).state.takes k = true → c.AnswersSlabs (act n)) : c.AnswersSlabs (c.forJob k b act) := by
  obtain ⟨-, e⟩ | ⟨n, -, ⟨takes, e⟩ | ⟨-, e⟩⟩ := c.forJob_cases k b act <;> rw [e]
  · exact error
  · exact h n takes
  · exact error

theorem jobRequest {k : MsgKind} {act : Ctl → CardNo → Answer} {l : List Byte}
    (h : ∀ n, (c.job n).state.takes k = true → c.AnswersSlabs (act c n)) :
    c.AnswersSlabs (Machine.jobRequest k act l c) := by
  unfold Machine.jobRequest
  split
  · exact forJob h
  · exact error

end

end Ctl.AnswersSlabs

section
variable (l : List Byte) (c : Ctl)

theorem reqJobOpen_slabs : c.AnswersSlabs (reqJobOpen l c) := by
  unfold reqJobOpen
  split
  · split
    · exact .error
    · next h => exact .ok ((Ctl.SlabRun.refl c).openJob (Ctl.free_of_checkOpen h))
  · exact .error

theorem reqFileAdd_slabs : c.AnswersSlabs (reqFileAdd l c) := by
  unfold reqFileAdd
  split
  · exact .error
  · refine .forJob fun n _ => ?_
    unfold Ctl.answerFile
    split
    · exact .error
    · exact .ok (Ctl.SlabRun.refl c).joinFile.promote.settle

theorem reqJobStart_slabs : c.AnswersSlabs (reqJobStart l c) := .jobRequest fun n _ => by
  unfold Ctl.answerStart
  split
  · exact .ok (Ctl.SlabRun.refl c).startJob
  · exact .error

theorem reqJobClose_slabs : c.AnswersSlabs (reqJobClose l c) := .jobRequest fun _ _ => .ok (Ctl.SlabRun.refl c).closeJob

theorem reqJobSuspend_slabs : c.AnswersSlabs (reqJobSuspend l c) := by
  unfold reqJobSuspend
  split
  · refine .forJob fun n _ => ?_
    split
    · exact .error
    · exact .ok (Ctl.SlabRun.refl c).suspendJob
  · exact .error

theorem reqJobResume_slabs : c.AnswersSlabs (reqJobResume l c) := .jobRequest fun n _ => by
  unfold Ctl.answerResume
  simp only
  split
  · split
    · exact .ok (Ctl.SlabRun.refl c).resumeHeld
    · exact .error
  · exact .ok (Ctl.SlabRun.refl c).resumeSuspended

theorem reqJobDrop_slabs : c.AnswersSlabs (reqJobDrop l c) := by
  unfold reqJobDrop
  split
  · refine .forJob fun n _ => ?_
    unfold Ctl.answerDrop
    split
    · exact .error
    · exact .ok (.ite (fun _ => (Ctl.SlabRun.refl c).dropDest.settle) fun _ => .refl c)
  · exact .error

theorem reqJobStop_slabs : c.AnswersSlabs (reqJobStop l c) := .jobRequest fun _ _ => .ok (Ctl.SlabRun.refl c).stopJob

theorem reqJobClear_slabs : c.AnswersSlabs (reqJobClear l c) := .jobRequest fun n _ => by
  unfold Ctl.answerClear
  split
  · exact .error
  · exact .ok (Ctl.SlabRun.refl c).clearJob

theorem reqJobFree_slabs : c.AnswersSlabs (reqJobFree l c) :=
  .jobRequest fun _ takes => .ok ((Ctl.SlabRun.refl c).freeJob takes)

theorem reqJobQuery_slabs : c.AnswersSlabs (reqJobQuery l c) := .jobRequest fun _ _ => .ok (.refl c)

theorem reqIdent_slabs : c.AnswersSlabs (reqIdent l c) := by
  unfold reqIdent
  split
  · exact .ok (.refl c)
  · exact .error

theorem reqPartReset_slabs : c.AnswersSlabs (reqPartReset l c) := by
  unfold reqPartReset
  split
  · exact .ok (.refl c)
  · exact .error

theorem reqNoticeSet_slabs : c.AnswersSlabs (reqNoticeSet l c) := by
  unfold reqNoticeSet
  split
  · exact .error
  · split
    · exact .error
    · exact .ok ((Ctl.SlabRun.refl c).same rfl)

theorem reqPortQuery_slabs : c.AnswersSlabs (reqPortQuery l c) := by
  unfold reqPortQuery
  split
  · split
    · exact .error
    · exact .ok (.refl c)
  · exact .error

theorem reqLampSet_slabs : c.AnswersSlabs (reqLampSet l c) := by
  unfold reqLampSet
  split
  · split
    · exact .ok (Ctl.SlabRun.refl c).setLamp
    · exact .error
  · exact .error

theorem reqScanStart_slabs : c.AnswersSlabs (reqScanStart l c) := by
  unfold reqScanStart
  split
  · unfold Ctl.answerScan
    split
    · split
      · exact .error
      · split
        · exact .error
        · exact .ok (Ctl.SlabRun.refl c).startScan
    · exact .error
  · exact .error

theorem reqScanStop_slabs (m : List Host.Cell) : c.AnswersSlabs (reqScanStop m l c) := by
  unfold reqScanStop
  split
  · split
    · exact .error
    · exact .ok (Ctl.SlabRun.refl c).stopScan
  · exact .error

end

/-! ### Commands -/

section
variable (s : State)

theorem State.answer_slabRun {f : RxFrame} {a : Answer} (h : s.ctl.AnswersSlabs a) :
    s.ctl.SlabRun (s.answer f a).ctl := by
  match a with
  | .ok (t, fields) => exact (h t fields rfl).pushEntry
  | .error _ => exact (Ctl.SlabRun.refl s.ctl).pushEntry

theorem State.request_slabRun {k : MsgKind} {act : List Byte → Ctl → Answer}
    (h : ∀ l, s.ctl.AnswersSlabs (act l s.ctl)) : s.ctl.SlabRun (s.request k act).ctl := by
  obtain ⟨f, -, e⟩ | e := s.request_cases k act <;> rw [e]
  · exact s.answer_slabRun (h f.payload)
  · exact .refl _

theorem State.run_slabRun {f : State → State} (h : s.ctl.SlabRun (f s).ctl) : s.ctl.SlabRun (s.run f).ctl := by
  unfold State.run
  split
  · exact .refl _
  · exact h

theorem State.ite_slabRun {p : Prop} [Decidable p] {t : State} (h : s.ctl.SlabRun t.ctl) :
    s.ctl.SlabRun (if p then t else s).ctl := by
  split
  · exact h
  · exact .refl _

theorem State.stays_slabRun {p : Prop} [Decidable p] {t : State} (h : s.ctl.SlabRun t.ctl) :
    s.ctl.SlabRun (if p then s else t).ctl := by
  split
  · exact .refl _
  · exact h

theorem State.rxBytes_slabRun {a : Ctl} (bytes : List RxByte) (h : a.SlabRun s.ctl) :
    a.SlabRun (bytes.foldl State.rxByte s).ctl := by
  induction bytes generalizing s with
  | nil => exact h
  | cons b bytes ih => exact ih _ (h.faultAtMost (s.rxByte_ctl b))

theorem State.transmit_slabRun : s.ctl.SlabRun s.transmit.ctl := by
  unfold State.transmit
  split
  · next e rest _ _ =>
    have left : s.ctl.SlabRun (s.ctl.setOutq rest) := (Ctl.SlabRun.refl s.ctl).same rfl
    exact left.afterLeaving
  · exact .refl _

theorem State.placeBlock_ctl (p : PortId) (f : Flight) (l : List Byte) : (s.placeBlock p f l).ctl = s.ctl := by
  unfold State.placeBlock
  split
  · rfl
  · split <;> rfl

theorem State.dataBlock_slabRun {p : PortId} {q : Byte} {l : List Byte} {k : BitVec 16} :
    s.ctl.SlabRun (s.dataBlock p q l k).ctl := by
  unfold State.dataBlock
  split
  · exact .refl _
  · simp only
    split
    · exact .refl _
    · split
      · simp only [State.placeBlock_ctl]
        exact (Ctl.SlabRun.refl _).setLink
      · exact (Ctl.SlabRun.refl _).setLink

/-- At a reset all slabs are free, and no port waits for one or holds one (R188). -/
theorem Ctl.resetValues_slabsAtReset {a b : Nat} {t : Ctl} (slabs : t.slabs = (Ctl.resetValues a b).slabs)
    (waits : t.waitList = (Ctl.resetValues a b).waitList) (cards : t.cards = (Ctl.resetValues a b).cards) :
    t.SlabsAtReset := by
  have port (n : CardNo) : t.card n = CardPort.resetValues := by
    rw [Ctl.card_of_cards cards, Ctl.resetValues_card]
  refine ⟨fun x => ?_, fun n => ?_, fun n => by rw [port]; rfl, fun n => by rw [port]; rfl⟩
  · rw [Ctl.slab_of_slabs slabs, Ctl.resetValues_slab]
    rfl
  · rw [Ctl.waits_of_waitList waits]
    simp [Ctl.waits, Ctl.resetValues]

theorem State.beginReset_slabRun {c : Ctl} (r : ResetCtl) : c.SlabRun (s.beginReset r).ctl :=
  (Ctl.SlabRun.refl c).step (.reset (Ctl.resetValues_slabsAtReset (a := s.ctl.rateCode) (b := s.ctl.debounce) rfl rfl rfl))

theorem State.release_slabRun (r : ResetCtl) (p : StrapPins) : s.ctl.SlabRun (s.release r p).ctl := by
  unfold State.release
  simp only
  split
  · exact .refl _
  · exact (Ctl.SlabRun.refl s.ctl).step
      (.reset (Ctl.resetValues_slabsAtReset (a := strapRate p) (b := strapDebounce p) rfl rfl rfl))

theorem State.sent_slabRun : s.ctl.SlabRun s.sent.ctl := by
  unfold State.sent
  split
  · exact .refl _
  · split
    · exact s.beginReset_slabRun _
    · exact .refl _

end

theorem Ctl.SlabRun.of_next {c : Ctl} {u t : State}
    (h : (Host.Outcome.next u : Host.Outcome State Fault Refusal) = .next t) (e : c.SlabRun u.ctl) :
    c.SlabRun t.ctl := by
  cases h
  exact e

/-- What a command makes of the slabs is a run of the changes above. -/
theorem exec_slabRun {i : Instr} {s t : State} (h : exec i s = .next t) : s.ctl.SlabRun t.ctl := by
  have start : s.ctl.SlabRun s.ctl := .refl _
  cases i <;> refine .of_next h ?_
  -- the line
  case frameReceived bytes => exact s.run_slabRun (s.rxBytes_slabRun bytes start)
  case receiveGapTimeout =>
    refine s.run_slabRun (s.stays_slabRun ?_)
    exact start.lineFault
  case transmitStart => exact s.run_slabRun s.transmit_slabRun
  case frameSent => exact s.run_slabRun s.sent_slabRun
  -- requests
  case badKindRequest =>
    split
    · exact s.stays_slabRun (s.answer_slabRun .error)
    · exact start
  case partReset =>
    split
    · exact s.ite_slabRun (s.answer_slabRun (reqPartReset_slabs _ _))
    · exact start
  case ident => exact s.request_slabRun fun l => reqIdent_slabs l _
  case noticeSet => exact s.request_slabRun fun l => reqNoticeSet_slabs l _
  case portQuery => exact s.request_slabRun fun l => reqPortQuery_slabs l _
  case lampSet => exact s.request_slabRun fun l => reqLampSet_slabs l _
  case jobOpen => exact s.request_slabRun fun l => reqJobOpen_slabs l _
  case jobStart => exact s.request_slabRun fun l => reqJobStart_slabs l _
  case fileAdd => exact s.request_slabRun fun l => reqFileAdd_slabs l _
  case jobClose => exact s.request_slabRun fun l => reqJobClose_slabs l _
  case jobSuspend => exact s.request_slabRun fun l => reqJobSuspend_slabs l _
  case jobResume => exact s.request_slabRun fun l => reqJobResume_slabs l _
  case jobDrop => exact s.request_slabRun fun l => reqJobDrop_slabs l _
  case jobStop => exact s.request_slabRun fun l => reqJobStop_slabs l _
  case jobClear => exact s.request_slabRun fun l => reqJobClear_slabs l _
  case jobFree => exact s.request_slabRun fun l => reqJobFree_slabs l _
  case jobQuery => exact s.request_slabRun fun l => reqJobQuery_slabs l _
  case scanStart => exact s.request_slabRun fun l => reqScanStart_slabs l _
  case scanStop => exact s.request_slabRun fun l => reqScanStop_slabs l _ _
  -- resets
  case partResetTimerExpiry straps => exact s.ite_slabRun (s.release_slabRun _ _)
  case resetPinAssert => exact s.stays_slabRun (s.beginReset_slabRun _)
  case resetPinRelease straps => exact s.ite_slabRun (s.release_slabRun _ _)
  case supplyFail => exact s.stays_slabRun (s.beginReset_slabRun _)
  case supplyValid straps => exact s.ite_slabRun (s.release_slabRun _ _)
  -- links
  case linkResetExpiry port => exact s.run_slabRun start.linkResetEnds
  case dataBlockReceived port seq data check => exact s.run_slabRun s.dataBlock_slabRun
  case statusRecordReceived port seq code identity check => exact s.run_slabRun start.statusRecord
  case linkTimeout port => exact s.run_slabRun start.linkTimeout
  -- samples of PRESENT
  case cardInsertionBegin n => exact s.run_slabRun (.ite (fun _ => start.cardSample) fun _ => start)
  case cardSettled n => exact s.run_slabRun (.ite (fun _ => start.cardSample) fun _ => start)
  case cardRemoval n => exact s.run_slabRun (.ite (fun _ => start.cardLow) fun _ => start)
  case driveAttachBegin d => exact s.run_slabRun (.ite (fun _ => start.driveSample) fun _ => start)
  case driveSettled d => exact s.run_slabRun (.ite (fun _ => start.driveSample) fun _ => start)
  case driveAbsence d => exact s.run_slabRun (.ite (fun _ => start.driveSample) fun _ => start)
  case presentSample port high =>
    refine s.run_slabRun ?_
    cases port with
    | card n => exact .ite (fun _ => start.cardSample) fun _ => start.cardLow
    | drive d => exact start.driveSample
  -- the units
  case digestStart => exact s.run_slabRun start.digestBegin
  case digestComputationEnd =>
    refine s.run_slabRun ?_
    dsimp only
    split
    · exact start
    · exact start.digestFinish
  case blankCheckEnd n =>
    refine s.run_slabRun ?_
    dsimp only
    split
    · exact start.examinationEnd
    · exact start
  case lampBlinkToggle n => exact s.run_slabRun start.blink

theorem step_slabRun {s t : State} (h : step s = .next t) : s.ctl.SlabRun t.ctl := by
  unfold step at h
  split at h
  · cases h
    exact .refl _
  · next c rest _ => exact exec_slabRun (s := { s with pending := rest }) h

/-- Settles O6: a step is a run of changes each of which keeps slabs to their uses. -/
theorem slabUseStaysApart : Obligations.SlabUseStaysApart := fun _ _ kept h => (step_slabRun h).slabUseKept kept

/-- Settles O7: a step is a run of changes each of which leaves the pool shared. -/
theorem poolIsSharedByTheRules : Obligations.PoolIsSharedByTheRules := fun _ _ shared h =>
  (step_slabRun h).poolShared shared

end Sys2Proof.Machine

/-! # Proofs: the span digest (04)

First the arithmetic of the sums and of the folds, with DIGEST_START; then what a computation's end can make of the
digest unit, of the file records, of slabs and of a verify context, and the two statements on its fold. -/

namespace Sys2Proof.Machine

/-! ## The running sums in closed form (R82) -/

/-- The sum of the words, the last with weight 1 and each earlier one with a weight one greater. -/
def weighted : List Nat → Nat
  | [] => 0
  | w :: ws => (ws.length + 1) * w + weighted ws

theorem weighted_eq_sum_range (ws : List Nat) :
    weighted ws = ((List.range ws.length).map fun j => (ws.length - j) * ws.getD j 0).sum := by
  induction ws with
  | nil => rfl
  | cons w ws ih =>
    rw [weighted, ih, List.length_cons, List.range_succ_eq_map, List.map_cons, List.map_map, List.sum_cons]
    simp [Function.comp_def]

/-- Words that follow raise the weight of each word before them. -/
theorem weighted_append (us vs : List Nat) : weighted (us ++ vs) = weighted us + vs.length * us.sum + weighted vs := by
  induction us with
  | nil => simp [weighted]
  | cons u us ih =>
    simp only [List.cons_append, weighted, ih, List.length_append, List.sum_cons]
    ring

theorem runSums_append (us vs : List Nat) (a b : Nat) :
    runSums a b (us ++ vs) = runSums (runSums a b us).1 (runSums a b us).2 vs := by
  induction us generalizing a b with
  | nil => rfl
  | cons u us ih => exact ih _ _

theorem runSums_eq (ws : List Nat) (a b : Nat) (ha : a < 65519) (hb : b < 65519) :
    runSums a b ws = ((a + ws.sum) % 65519, (b + ws.length * a + weighted ws) % 65519) := by
  induction ws generalizing a b with
  | nil => simp [runSums, weighted, Nat.mod_eq_of_lt ha, Nat.mod_eq_of_lt hb]
  | cons w ws ih =>
    have step : runSums a b (w :: ws) = runSums ((a + w) % 65519) ((b + (a + w) % 65519) % 65519) ws := rfl
    rw [step, ih _ _ (Nat.mod_lt _ (by decide)) (Nat.mod_lt _ (by decide)), List.sum_cons, List.length_cons, weighted]
    refine Prod.ext ?_ ?_
    · simp only [Nat.mod_add_mod, Nat.add_assoc]
    · calc ((b + (a + w) % 65519) % 65519 + ws.length * ((a + w) % 65519) + weighted ws) % 65519
          = (b + (a + w) + ws.length * (a + w) + weighted ws) % 65519 := by simp [Nat.add_mod, Nat.mul_mod]
        _ = (b + (ws.length + 1) * a + ((ws.length + 1) * w + weighted ws)) % 65519 := by
          congr 1
          ring

theorem partialDigest_eq (ws : List Nat) : partialDigest ws = (ws.sum % 65519, weighted ws % 65519) := by
  simp [partialDigest, runSums_eq ws 0 0]

/-- Settles O13: the recurrence from the sums over the words before the last, the closed forms by induction. -/
theorem partialDigestIsTheClosedForm : Obligations.PartialDigestIsTheClosedForm := by
  refine ⟨⟨rfl, fun ws w => runSums_append ws [w] 0 0⟩, fun ws => ?_⟩
  rw [partialDigest_eq, weighted_eq_sum_range]
  exact ⟨rfl, Nat.mod_lt _ (by decide), Nat.mod_lt _ (by decide)⟩

/-! ## Folds in any order (R84, R85) -/

/-- A fold of whole sums: their remainders, and that of the trailer count, fold to the same accumulator. -/
theorem Acc.fold_mod (acc : Acc) (m t a b : Nat) :
    acc.fold m (t % 65519) (a % 65519) (b % 65519) =
      { a := (acc.a + a) % 65519, b := (acc.b + (b + t * a)) % 65519, words := acc.words + m } := by
  simp only [Acc.fold, Config.modulus, ← Nat.mul_mod, Nat.add_mod_mod]
  rw [Nat.add_right_comm, Nat.add_mod_mod, Nat.add_right_comm, Nat.add_assoc]

/-- The fold of one span with its trailer count, as foldSpans makes it. -/
def Acc.foldSpan (acc : Acc) (p : List Nat × Nat) : Acc :=
  acc.fold p.1.length (p.2 % 65519) (partialDigest p.1).1 (partialDigest p.1).2

theorem foldSpans_eq_foldl (acc : Acc) (l : List (List Nat × Nat)) : foldSpans acc l = l.foldl Acc.foldSpan acc := rfl

theorem Acc.foldSpan_eq (acc : Acc) (p : List Nat × Nat) :
    acc.foldSpan p =
      { a := (acc.a + p.1.sum) % 65519, b := (acc.b + (weighted p.1 + p.2 * p.1.sum)) % 65519
        words := acc.words + p.1.length } := by
  rw [Acc.foldSpan, partialDigest_eq, Acc.fold_mod]

/-- Two folds may change places: each only adds to the sums. -/
theorem Acc.foldSpan_comm (acc : Acc) (p q : List Nat × Nat) :
    (acc.foldSpan p).foldSpan q = (acc.foldSpan q).foldSpan p := by
  simp only [Acc.foldSpan_eq, Nat.mod_add_mod, Acc.mk.injEq]
  exact ⟨by rw [Nat.add_right_comm], by rw [Nat.add_right_comm], Nat.add_right_comm ..⟩

theorem foldSpans_perm {l l' : List (List Nat × Nat)} (h : l.Perm l') (acc : Acc) : foldSpans acc l = foldSpans acc l' :=
  h.foldl_eq' (fun p _ q _ acc => acc.foldSpan_comm p q) acc

/-- In file order the trailer count of a span is the weight that its words have beyond the span. -/
theorem foldSpans_withTrailers (spans : List (List Nat)) (acc : Acc) (ha : acc.a < 65519) (hb : acc.b < 65519) :
    foldSpans acc (withTrailers spans) =
      { a := (acc.a + spans.flatten.sum) % 65519, b := (acc.b + weighted spans.flatten) % 65519
        words := acc.words + spans.flatten.length } := by
  induction spans generalizing acc with
  | nil => simp [withTrailers, foldSpans, weighted, Nat.mod_eq_of_lt ha, Nat.mod_eq_of_lt hb]
  | cons w rest ih =>
    have step : foldSpans acc (withTrailers (w :: rest)) =
        foldSpans (acc.foldSpan (w, rest.flatten.length)) (withTrailers rest) := rfl
    rw [step, Acc.foldSpan_eq, ih _ (Nat.mod_lt _ (by decide)) (Nat.mod_lt _ (by decide)), List.flatten_cons,
      List.sum_append, List.length_append, weighted_append]
    simp only [Nat.mod_add_mod, Nat.add_assoc]

/-- Settles O14: folds may change places, and in file order they build up the sums of one pass. -/
theorem digestDoesNotDependOnFoldOrder : Obligations.DigestDoesNotDependOnFoldOrder := by
  intro spans order perm
  rw [foldSpans_perm perm, foldSpans_withTrailers _ _ (by decide) (by decide), partialDigest_eq]
  simp only [Nat.zero_add]

/-! ## The start of a computation (R89, R83) -/

/-- A busy unit, or one with nothing in its FIFO, starts on nothing. -/
theorem Ctl.digestBegin_none {c : Ctl} (h : c.digest.busy ≠ none ∨ c.digest.fifo = []) : c.digestBegin = c := by
  unfold Ctl.digestBegin
  split
  · next hb hf =>
    rw [hb, hf] at h
    simp at h
  · rfl

/-- Settles O15: the branches of the start, with the target read off the slab's purpose. -/
theorem digestStartTakesTheHead : Obligations.DigestStartTakesTheHead := by
  refine ⟨fun s x rest r f running idle fifo file found => ⟨(s.ctl.slab x).foldTarget, ?_, ?_, ?_⟩, fun s h => ?_⟩
  · show Host.Outcome.next (s.runCtl Ctl.digestBegin) = _
    rw [State.runCtl_of_running s _ running]
    simp [Ctl.digestBegin, idle, fifo, file, found, Ctl.modDigest, FileRec.wordCount, Config.modulus]
  · intro source
    simp [Slab.foldTarget, source, file]
  · intro d verify port
    simp [Slab.foldTarget, verify, port]
  · show Host.Outcome.next (s.runCtl Ctl.digestBegin) = _
    cases running : s.inReset with
    | true => rw [State.runCtl, State.run_of_inReset s _ running]
    | false => rw [State.runCtl_of_running s _ running, Ctl.digestBegin_none h]

end Sys2Proof.Machine

namespace Sys2Proof.Machine

/-! ## What ends a computation leaves of the digest unit

Only what withdraws work touches the unit; releases, retirements and the taking of work do not. -/

section
variable {c t u : Ctl} {n : CardNo} {d : DriveNo} {r : FileRef}

theorem Ctl.pump_digest (c : Ctl) (d : DriveNo) : (c.pump d).digest = c.digest :=
  Ctl.pump_induction (P := fun t => t.digest = c.digest) rfl fun _ _ same step => by
    obtain ⟨-, -, -, -, digest, -⟩ := step.workOnly.same
    exact digest.trans same

theorem Ctl.pumpAll_digest (c : Ctl) : c.pumpAll.digest = c.digest := by
  simp [Ctl.pumpAll, eachDrive, Ctl.pump_digest]

theorem Ctl.endEntries_digest (c : Ctl) (r : FileRef) (d : DriveNo) : (Ctl.endEntries r c d).digest = c.digest := by
  simp only [Ctl.endEntries]
  split
  · rfl
  · simp [Ctl.pump_digest]

theorem Ctl.retireRun_digest (k : Nat) (c : Ctl) (n : CardNo) : (c.retireRun k n).digest = c.digest := by
  induction k generalizing c with
  | zero => rfl
  | succ k ih =>
    simp only [Ctl.retireRun]
    split
    · rfl
    · split
      · split
        · simp [ih, Ctl.retire, eachDrive, Ctl.endEntries_digest]
        · rfl
      · rfl

theorem Ctl.testComplete_digest (c : Ctl) (r : FileRef) : (c.testComplete r).digest = c.digest := by
  unfold Ctl.testComplete
  split
  · rfl
  · simp only [Ctl.testRetire]
    split
    · rw [Ctl.retireRun_digest, Ctl.modFile_digest]
    · rfl

theorem Ctl.promoteRun_digest (k : Nat) (c : Ctl) (n : CardNo) : (c.promoteRun k n).digest = c.digest := by
  induction k generalizing c with
  | zero => rfl
  | succ k ih =>
    simp only [Ctl.promoteRun]
    split
    · split
      · rfl
      · split
        · rw [ih, Ctl.testComplete_digest, Ctl.modJob_digest, Ctl.modFile_digest]
        · rfl
    · rfl

theorem Ctl.drainedStop_digest (c : Ctl) (n : CardNo) : (c.drainedStop n).digest = c.digest := by
  have drained (l : List SlabNo) : ∀ c : Ctl, (l.foldl (Ctl.drainSlab n) c).digest = c.digest := by
    induction l with
    | nil => exact fun _ => rfl
    | cons x l ih =>
      refine fun c => (ih _).trans ?_
      unfold Ctl.drainSlab
      split <;> simp
  have abandoned (t : Ctl) : (t.abandonFiles n).digest = t.digest := rfl
  rw [Ctl.drainedStop, Ctl.testRetire, Ctl.retireRun_digest, abandoned, drained]

theorem Ctl.settle_digest (c : Ctl) (n : CardNo) : (c.settle n).digest = c.digest := by
  cases hs : (c.job n).state with
  | running | held => exact (Ctl.settle_runningOrHeld (by simp [hs])).otherPorts.2.2.1
  | suspending =>
    obtain ⟨-, -, -, -, -, ports⟩ := Ctl.settle_suspends hs rfl
    exact ports.2.2.1
  | stopping =>
    rw [Ctl.settle_stopping hs]
    split
    · rw [Ctl.drainStop_eq]
      split <;> simp [Ctl.drainedStop_digest]
    · simp
  | free | opened | suspended | faulted | ended =>
    rw [Ctl.settle_still (by simp [hs])]
    simp

/-- Work of drives and of the digest unit is withdrawn: jobs and files stay, and a computation in hand goes on as it is, but
for its discard mark. -/
structure Ctl.WithdrawsWork (c t : Ctl) : Prop where
  jobs : t.jobs = c.jobs
  files : t.files = c.files
  digest : t.digest = { c.digest with fifo := t.digest.fifo, discard := t.digest.discard }

namespace Ctl.WithdrawsWork

theorem refl (c : Ctl) : c.WithdrawsWork c := ⟨rfl, rfl, rfl⟩

theorem trans (h : c.WithdrawsWork t) (g : t.WithdrawsWork u) : c.WithdrawsWork u := by
  refine ⟨g.jobs.trans h.jobs, g.files.trans h.files, ?_⟩
  have e := g.digest
  rw [h.digest] at e
  exact e

theorem foldl {α : Type} {f : Ctl → α → Ctl} (hf : ∀ (c : Ctl) y, c.WithdrawsWork (f c y)) (l : List α) (c : Ctl) :
    c.WithdrawsWork (l.foldl f c) := by
  induction l generalizing c with
  | nil => exact .refl c
  | cons y l ih => exact (hf c y).trans (ih _)

theorem modSlab {x : SlabNo} {f : Slab → Slab} : c.WithdrawsWork (c.modSlab x f) := ⟨rfl, rfl, rfl⟩

theorem modDrive {f : DrivePort → DrivePort} : c.WithdrawsWork (c.modDrive d f) := ⟨rfl, rfl, rfl⟩

theorem fifoRemove {x : SlabNo} : c.WithdrawsWork (c.fifoRemove x) := ⟨rfl, rfl, rfl⟩

theorem markDiscard {x : SlabNo} : c.WithdrawsWork (c.markDiscard x) := by
  unfold Ctl.markDiscard
  split
  · exact ⟨rfl, rfl, rfl⟩
  · exact .refl c

theorem withdrawDigest {x : SlabNo} : c.WithdrawsWork (c.withdrawDigest x) := by
  unfold Ctl.withdrawDigest
  split
  · exact fifoRemove.trans modSlab
  · exact markDiscard

theorem releaseVerifySlab : c.WithdrawsWork (c.releaseVerifySlab d) := by
  simp only [Ctl.releaseVerifySlab]
  split
  · exact .refl c
  · split
    · exact modDrive
    · exact modSlab
  · split
    · exact fifoRemove.trans modSlab
    · exact markDiscard

theorem abandonOf {p : FileRef → Bool} : c.WithdrawsWork (c.abandonOf d p) := by
  unfold Ctl.abandonOf Ctl.abandonContext
  split
  · split
    · exact releaseVerifySlab.trans modDrive
    · exact .refl c
  · exact .refl c

theorem closeWriting {p : Bool} : c.WithdrawsWork (c.closeWriting d p) := by
  have left : c.WithdrawsWork (c.leaveWriting d) := by
    unfold Ctl.leaveWriting
    split
    · exact .refl c
    · exact modDrive.trans modSlab
  unfold Ctl.closeWriting
  split
  · exact .refl c
  · split
    · exact left.trans modSlab
    · exact left

theorem leaveWritingOf {s : SlabNo → Bool} {p : Bool} : c.WithdrawsWork (c.leaveWritingOf d s p) := by
  unfold Ctl.leaveWritingOf
  split
  · exact closeWriting
  · exact .refl c

theorem withdrawFile : c.WithdrawsWork (c.withdrawFile d r) := by
  rw [Ctl.withdrawFile, Ctl.withdraw_eq]
  exact (modDrive.trans abandonOf).trans leaveWritingOf

end Ctl.WithdrawsWork

end

end Sys2Proof.Machine

namespace Sys2Proof.Machine

/-! ## What it leaves of a file record -/

section
variable {c t u : Ctl} {n : CardNo} {r : FileRef}

/-- From c to t the record r changes in its state alone, and that only to COMPLETE, as far as its file has not retired. -/
structure Ctl.RecordKept (r : FileRef) (c t : Ctl) : Prop where
  record : ∀ g, t.file? r = some g →
    ∃ f, c.file? r = some f ∧ g = { f with state := g.state } ∧ (g.state = f.state ∨ g.isComplete = true)

namespace Ctl.RecordKept

theorem of_file (h : ∀ g, t.file? r = some g → c.file? r = some g) : c.RecordKept r t :=
  ⟨fun g hg => ⟨g, h g hg, rfl, .inl rfl⟩⟩

theorem of_files (h : t.files = c.files) : c.RecordKept r t := of_file fun g hg => by rwa [← Ctl.file_of_files h]

theorem trans (h : c.RecordKept r t) (k : t.RecordKept r u) : c.RecordKept r u := by
  refine ⟨fun g hg => ?_⟩
  obtain ⟨f', hf', same', state'⟩ := k.record g hg
  obtain ⟨f, hf, same, state⟩ := h.record f' hf'
  refine ⟨f, hf, by rw [same', same], ?_⟩
  obtain e | e := state'
  · simpa only [e, FileRec.isComplete] using state
  · exact .inr e

/-- Records that are to be COMPLETE become so. -/
theorem map {k : FileRec → FileRec} (h : t.files = c.files.map k)
    (hk : ∀ f, k f = { f with state := (k f).state } ∧ ((k f).state = f.state ∨ (k f).isComplete = true)) :
    c.RecordKept r t := by
  have ref (f : FileRec) : (k f).ref = f.ref := by rw [(hk f).1]
  refine ⟨fun g hg => ?_⟩
  have found : (c.file? r).map k = some g := by
    rw [← hg, Ctl.file?, Ctl.file?, h, List.find?_map]
    simp only [Function.comp_def, ref]
  obtain ⟨f, hf, rfl⟩ := Option.map_eq_some_iff.1 found
  exact ⟨f, hf, hk f⟩

theorem complete {q : FileRef} {s : FileRec → FileOutcome} :
    c.RecordKept r (c.modFile q fun f => { f with state := .complete (s f) }) := by
  refine map rfl fun f => ?_
  split
  · exact ⟨rfl, .inr rfl⟩
  · exact ⟨rfl, .inl rfl⟩

/-- A change of another record. -/
theorem modFile_ne {q : FileRef} {k : FileRec → FileRec} (ref : ∀ f, (k f).ref = f.ref) (h : r ≠ q) :
    c.RecordKept r (c.modFile q k) := of_file fun g hg => by
  rw [Ctl.modFile_file _ _ _ _ ref] at hg
  simpa [h] using hg

theorem retire (f : FileRec) (o : FileOutcome) : c.RecordKept r (c.retire f o) := of_file fun g hg => by
  rw [Ctl.file?, Ctl.retire_files, List.find?_filter] at hg
  have named := List.find?_some hg
  simp only [decide_eq_true_eq, bne_iff_ne, beq_iff_eq] at named
  obtain ⟨ne, rfl⟩ := named
  refine Eq.trans (congrArg (List.find? · c.files) (funext fun k => ?_)) hg
  by_cases e : k.ref = g.ref <;> simp [e, ne]

theorem retireRun (k : Nat) (c : Ctl) (n : CardNo) : c.RecordKept r (c.retireRun k n) := by
  induction k generalizing c with
  | zero => exact of_files rfl
  | succ k ih =>
    simp only [Ctl.retireRun]
    split
    · exact of_files rfl
    · split
      · split
        · exact (retire ..).trans (ih _)
        · exact of_files rfl
      · exact of_files rfl

theorem testComplete (c : Ctl) (q : FileRef) : c.RecordKept r (c.testComplete q) := by
  unfold Ctl.testComplete
  split
  · exact of_files rfl
  · simp only
    split
    · exact complete.trans (retireRun ..)
    · exact of_files rfl

theorem drainedStop (c : Ctl) (n : CardNo) : c.RecordKept r (c.drainedStop n) := by
  have abandoned (c : Ctl) : c.RecordKept r (c.abandonFiles n) := by
    refine map rfl fun f => ?_
    split
    · exact ⟨rfl, .inr rfl⟩
    · exact ⟨rfl, .inl rfl⟩
  exact ((of_files (Ctl.drainSlabs_files _ c)).trans (abandoned _)).trans (retireRun _ _ n)

theorem settle (c : Ctl) (n : CardNo) : c.RecordKept r (c.settle n) := by
  cases hs : (c.job n).state with
  | running | held => exact of_files (Ctl.settle_runningOrHeld (by simp [hs])).files
  | suspending => exact of_files (Ctl.settle_suspends hs rfl).2.1
  | stopping =>
    rw [Ctl.settle_stopping hs]
    have dropped : c.RecordKept r (c.dropStaleWait n) := of_files (by simp)
    split
    · rw [Ctl.drainStop_eq]
      have drained := dropped.trans (drainedStop _ n)
      split
      · exact drained.trans (of_files (by simp))
      · exact drained
    · exact dropped
  | free | opened | suspended | faulted | ended =>
    rw [Ctl.settle_still (by simp [hs])]
    exact of_files (by simp)

/-- A file that is not QUEUED is none of those taken up. -/
theorem promoteRun (k : Nat) (c : Ctl) (n : CardNo) (nodup : (c.files.map (·.ref)).Nodup)
    (taken : ∀ f, c.file? r = some f → f.state ≠ .queued) : c.RecordKept r (c.promoteRun k n) := by
  induction k generalizing c with
  | zero => exact of_files rfl
  | succ k ih =>
    simp only [Ctl.promoteRun]
    split
    · split
      · exact of_files rfl
      · next q hq =>
        have queued : q.state = .queued := by simpa using List.find?_some hq
        have ne : r ≠ q.ref := by
          rintro rfl
          have mem := (List.mem_filter.1 (List.mem_of_find?_eq_some hq)).1
          exact taken q (Ctl.file_of_mem nodup mem) queued
        split
        · have passed : c.RecordKept r (((c.modFile q.ref fun g => g.zeroPass (c.job n).verify).modJob n
              fun j => { j with failures := 0 }).testComplete q.ref) :=
            RecordKept.trans (t := (c.modFile q.ref fun g => g.zeroPass (c.job n).verify).modJob n _)
              ((modFile_ne (k := fun g => g.zeroPass (c.job n).verify) (fun _ => rfl) ne).trans (of_files rfl))
              (testComplete _ _)
          refine passed.trans (ih _ ?_ fun g hg => ?_)
          · refine (Ctl.testComplete_filesClosed (n := n) q.ref _ ?_).1
            exact Ctl.modFile_nodup (k := fun g => g.zeroPass (c.job n).verify) nodup fun _ => rfl
          · obtain ⟨f, hf, -, state | complete⟩ := passed.record g hg
            · exact state ▸ taken f hf
            · exact fun e => FileRec.not_complete_of_queued e complete
        · exact modFile_ne (k := fun g => { g with state := .reading }) (fun _ => rfl) ne
    · exact of_files rfl

end Ctl.RecordKept

end

end Sys2Proof.Machine

namespace Sys2Proof.Machine

/-! ## The end of the computation of a source slab (R91, R84, R87) -/

section
variable {c t : Ctl} {n : CardNo} {x : SlabNo} {r : FileRef} {f : FileRec} {a b m w : Nat}

theorem slabWords_eq (mem : List Host.Cell) (x : SlabNo) (len : Nat) :
    slabWords mem x len = wordsOf (readBytes mem (65536 * x.val) len) := by
  rw [slabWords, slabAddr, Nat.mul_comm]
  rfl

/-- The digest unit is idle again, with the sums of the computation that has ended (log 31). -/
def Ctl.unitDone (c : Ctl) (a b : Nat) : Ctl :=
  c.modDigest fun u => { u with busy := none, target := none, a := a, b := b, words := u.m }

/-- Source slab x counts as digested, may be released, and its job n settles. -/
def Ctl.sourceDigested (c : Ctl) (x : SlabNo) (n : CardNo) : Ctl :=
  ((c.modSlab x fun s => { s with digested := true }).testRelease x).settle n

/-- The computation in hand, once it has ended for slab x. -/
theorem execDigestComputationEnd_eq {s : State} (running : s.inReset = false) (busy : s.ctl.digest.busy = some x)
    {sums : Nat × Nat}
    (hs : sums = partialDigest (wordsOf (readBytes s.dram (65536 * x.val) (s.ctl.slab x).len))) :
    exec .digestComputationEnd s = .next { s with ctl := s.ctl.digestFinish x sums.1 sums.2 } := by
  show Host.Outcome.next (s.runCtl _) = _
  rw [State.runCtl_of_running s _ running, hs, ← slabWords_eq]
  simp only [busy]

theorem Ctl.digestFinish_source (h : c.digest.target = some (.source r)) :
    c.digestFinish x a b =
      (if c.digest.discard then c.unitDone a b
        else (c.unitDone a b).foldSource r c.digest.m c.digest.t a b).sourceDigested x r.job := by
  simp only [Ctl.digestFinish, h]
  rfl

/-- Of a job that is not STOPPING a settling changes no file and no failure count. -/
theorem Ctl.settle_files_failures (h : (c.job n).state ≠ .stopping) :
    (c.settle n).files = c.files ∧ ((c.settle n).job n).failures = (c.job n).failures := by
  cases hs : (c.job n).state with
  | running | held =>
    have settled := Ctl.settle_runningOrHeld (c := c) (n := n) (by simp [hs])
    refine ⟨settled.files, ?_⟩
    rw [settled.job]
    split <;> rfl
  | suspending =>
    obtain ⟨job, files, -⟩ := Ctl.settle_suspends hs rfl
    exact ⟨files, by rw [job]⟩
  | stopping => exact (h hs).elim
  | free | opened | suspended | faulted | ended =>
    rw [Ctl.settle_still (by simp [hs])]
    exact ⟨by simp, by rw [Ctl.dropStaleWait_job]⟩

/-- A release changes no more of a job than it counts. -/
theorem Ctl.testRelease_leads_any {M : CardNo → Prop} (c : Ctl) (x : SlabNo) :
    Ctl.Leads (fun _ => True) M c (c.testRelease x) := by
  obtain ⟨m, hm, hr, e⟩ | e := c.testRelease_cases x
  · rw [e]; exact Ctl.releaseCounted_leads trivial ⟨hm, .inl hr⟩
  · rw [e]; exact .refl c

theorem Ctl.sourceDigested_keeps (h : (c.job n).state ≠ .stopping) :
    (c.sourceDigested x n).files = c.files ∧ (c.sourceDigested x n).digest = c.digest
      ∧ ((c.job n).failures = 0 → ((c.sourceDigested x n).job n).failures = 0) := by
  have released : Ctl.Leads (fun _ => True) (fun _ => True) c
      ((c.modSlab x fun s => { s with digested := true }).testRelease x) :=
    (Ctl.Consequence.digested x).leads.trans (Ctl.testRelease_leads_any _ x)
  obtain ⟨state, -⟩ := Job.core_fields (released.jobsKept.core n)
  obtain ⟨files, failures⟩ := Ctl.settle_files_failures (state ▸ h)
  refine ⟨files.trans (by simp), (Ctl.settle_digest _ n).trans (by simp), fun zero => failures.trans ?_⟩
  obtain e | e := released.jobsKept.failures n
  · exact e.trans zero
  · exact e

/-! ### The fold, case by case -/

theorem Acc.overFold_iff (acc : Acc) (m w : Nat) : acc.overFold m w = true ↔ w < acc.words + m := decide_eq_true_iff

theorem Ctl.foldSource_final (hf : c.file? r = some f)
    (h : f.result = .failed ∨ f.result = .unreadable ∨ f.result = .good ∧ (f.len + 1) / 2 < f.acc.words + m) :
    c.foldSource r m w a b = c := by
  simp only [Ctl.foldSource, hf, Acc.overFold_iff, FileRec.wordCount]
  obtain e | e | ⟨e, past⟩ := h
  · simp [e]
  · simp [e]
  · simp [e, past]

/-- The record with a partial of m words folded into its accumulator (R84). -/
def FileRec.folded (f : FileRec) (m t a b : Nat) : FileRec := { f with acc := f.acc.fold m t a b }

/-- The fold of a PENDING source: refused past W, taken in below it, and the end of the source at W. -/
theorem Ctl.foldSource_pending (hf : c.file? r = some f) (hp : f.result = .pending) :
    c.foldSource r m w a b =
      if (f.len + 1) / 2 < f.acc.words + m then c.sourceFail r .unreadable
      else
        let folded := c.modFile r fun g => g.folded m w a b
        if f.acc.words + m = (f.len + 1) / 2 then folded.sourceGood r else folded := by
  simp [Ctl.foldSource, hf, hp, Acc.overFold_iff, FileRec.wordCount, FileRec.folded]

end

end Sys2Proof.Machine

namespace Sys2Proof.Machine

/-! ## A source that becomes GOOD (R48) or UNREADABLE (R46, R47) -/

section
variable {c t u : Ctl} {n : CardNo} {x : SlabNo} {r : FileRef} {f : FileRec} {a b m w : Nat}

/-- A computation in hand goes on as it is, but for its discard mark, and every job stays in its state. -/
structure Ctl.UnitKept (c t : Ctl) : Prop where
  digest : t.digest = { c.digest with fifo := t.digest.fifo, discard := t.digest.discard }
  state : ∀ m, (t.job m).state = (c.job m).state

theorem Ctl.UnitKept.refl (c : Ctl) : c.UnitKept c := ⟨rfl, fun _ => rfl⟩

theorem Ctl.UnitKept.trans (h : c.UnitKept t) (g : t.UnitKept u) : c.UnitKept u := by
  refine ⟨?_, fun m => (g.state m).trans (h.state m)⟩
  have e := g.digest
  rw [h.digest] at e
  exact e

theorem Ctl.UnitKept.of_leads {N M : CardNo → Prop} (h : Ctl.Leads N M c t) (digest : t.digest = c.digest) :
    c.UnitKept t := ⟨by rw [digest], fun m => (Job.core_fields (h.jobsKept.core m)).1⟩

/-- The record that a change of records names. -/
theorem Ctl.modFile_file_self {k : FileRec → FileRec} (hf : c.file? r = some f) (ref : ∀ f, (k f).ref = f.ref) :
    (c.modFile r k).file? r = some (k f) := by
  rw [Ctl.modFile_file _ _ _ _ ref, hf, Option.map_some, if_pos rfl]

/-- The record of a source that is GOOD, with what is stored of its copies compared (R48, R104). -/
def FileRec.foundGood (f : FileRec) : FileRec := FileRec.compare { f with result := .good }

theorem FileRec.foundGood_ref (f : FileRec) : f.foundGood.ref = f.ref := FileRec.compare_ref _

/-- The source of file r is found GOOD, and its job's failure count is 0 (R48). -/
def Ctl.sourceFoundGood (c : Ctl) (r : FileRef) : Ctl :=
  (c.modFile r FileRec.foundGood).modJob r.job fun j => { j with failures := 0 }

theorem Ctl.sourceGood_eq (c : Ctl) (r : FileRef) : c.sourceGood r = (c.sourceFoundGood r).testComplete r := rfl

theorem Ctl.sourceFoundGood_leads : Ctl.Leads (fun _ => True) (fun _ => True) c (c.sourceFoundGood r) := by
  have marked : Ctl.Leads (fun _ => True) (fun _ => True) c (c.modFile r FileRec.foundGood) :=
    Ctl.modFile_leads trivial FileRec.foundGood_ref
  exact marked.trans (Ctl.counts_leads (f := fun j => { j with failures := 0 }) trivial (fun _ => rfl) fun _ => .inr rfl)

theorem Ctl.sourceGood_unitKept : c.UnitKept (c.sourceGood r) := by
  rw [Ctl.sourceGood_eq]
  exact .of_leads (Ctl.sourceFoundGood_leads.trans (Ctl.testComplete_leads trivial trivial _))
    (Ctl.testComplete_digest ..)

theorem Ctl.sourceGood_failures : ((c.sourceGood r).job r.job).failures = 0 := by
  have tested : Ctl.Leads (fun _ => True) (fun _ => True) (c.sourceFoundGood r) (c.sourceGood r) :=
    Ctl.testComplete_leads trivial trivial _
  obtain e | e := tested.jobsKept.failures r.job
  · rw [e, Ctl.sourceFoundGood, Ctl.modJob_job]
  · exact e

theorem Ctl.sourceGood_record (hf : c.file? r = some f) {g : FileRec} (hg : (c.sourceGood r).file? r = some g) :
    g.result = .good ∧ g.acc = f.acc ∧ g.dests = f.foundGood.dests := by
  have found : (c.sourceFoundGood r).file? r = some f.foundGood := Ctl.modFile_file_self hf FileRec.foundGood_ref
  rw [Ctl.sourceGood_eq] at hg
  obtain ⟨k, hk, same, -⟩ := (Ctl.RecordKept.testComplete (c.sourceFoundGood r) r).record g hg
  obtain rfl := Option.some.inj (found.symm.trans hk)
  rw [same]
  exact ⟨rfl, rfl, rfl⟩

/-- The record of a source that is UNREADABLE: a READING file is DRAINING (R46). -/
def FileRec.foundUnreadable (f : FileRec) : FileRec :=
  { f with result := .unreadable, state := if f.state = .reading then .draining else f.state }

/-- The source of file r is found UNREADABLE, and the next file is taken up (R46, R42). -/
def Ctl.sourceFoundUnreadable (c : Ctl) (r : FileRef) : Ctl :=
  ((c.modFile r FileRec.foundUnreadable).promote r.job).dropStaleWait r.job

/-- The work of file r has left the drives and the digest unit (R47, R79, R152). -/
def Ctl.fileWithdrawn (c : Ctl) (r : FileRef) : Ctl :=
  let xs := c.slabsWhere fun s => s.isFilledOfFile r
  xs.foldl Ctl.withdrawDigest
    (eachDrive (fun c d => c.withdrawFile d r) (xs.foldl (fun c x => c.modSlab x Slab.keepInFlight) c))

/-- The results of file r that are not final are SKIPPED (R47). -/
def Ctl.resultsSkipped (c : Ctl) (r : FileRef) : Ctl :=
  c.modFile r fun f => f.closeResults (c.job r.job).verify (fun _ => true) .skipped

/-- The source failure under R46, in its parts. -/
theorem Ctl.sourceFail_unreadable (hf : c.file? r = some f) (hp : f.result = .pending) :
    ∃ xs, c.sourceFail r .unreadable =
      (((((c.sourceFoundUnreadable r).fileWithdrawn r).resultsSkipped r).testReleases xs).testComplete r).pumpAll := by
  refine ⟨(c.sourceFoundUnreadable r).slabsWhere fun s => s.isFilledOfFile r, ?_⟩
  simp only [Ctl.sourceFail, hf, Option.any_some, hp, beq_self_eq_true, if_true]
  rfl

theorem Ctl.fileWithdrawn_withdrawsWork (c : Ctl) (r : FileRef) : c.WithdrawsWork (c.fileWithdrawn r) := by
  have each (t : Ctl) : t.WithdrawsWork (eachDrive (fun c d => c.withdrawFile d r) t) :=
    (((Ctl.WithdrawsWork.withdrawFile).trans .withdrawFile).trans .withdrawFile).trans .withdrawFile
  exact ((Ctl.WithdrawsWork.foldl (fun _ _ => .modSlab) _ c).trans (each _)).trans
    (.foldl (fun _ _ => .withdrawDigest) _ _)

theorem Ctl.sourceFoundUnreadable_leads : Ctl.Leads (fun _ => True) (fun _ => True) c (c.sourceFoundUnreadable r) := by
  have marked : Ctl.Leads (fun _ => True) (fun _ => True) c (c.modFile r FileRec.foundUnreadable) :=
    Ctl.modFile_leads trivial fun _ => rfl
  exact (marked.trans (Ctl.promote_leads trivial trivial _)).trans Ctl.dropStaleWait_leads

theorem Ctl.fileWithdrawn_verify :
    (((c.sourceFoundUnreadable r).fileWithdrawn r).job n).verify = (c.job n).verify := by
  rw [Ctl.job_of_jobs ((c.sourceFoundUnreadable r).fileWithdrawn_withdrawsWork r).jobs]
  obtain ⟨-, -, -, -, -, -, -, -, verify, -⟩ :=
    Job.core_fields ((Ctl.sourceFoundUnreadable_leads (c := c) (r := r)).jobsKept.core n)
  exact verify

theorem Ctl.sourceFail_unitKept (hf : c.file? r = some f) (hp : f.result = .pending) :
    c.UnitKept (c.sourceFail r .unreadable) := by
  obtain ⟨xs, e⟩ := Ctl.sourceFail_unreadable hf hp
  have before : c.UnitKept (c.sourceFoundUnreadable r) :=
    .of_leads Ctl.sourceFoundUnreadable_leads ((Ctl.dropStaleWait_digest ..).trans (Ctl.promoteRun_digest ..))
  have withdrawn : Ctl.UnitKept (c.sourceFoundUnreadable r) ((c.sourceFoundUnreadable r).fileWithdrawn r) := by
    have work := (c.sourceFoundUnreadable r).fileWithdrawn_withdrawsWork r
    exact ⟨work.digest, fun m => by rw [Ctl.job_of_jobs work.jobs]⟩
  have skipped (t : Ctl) : t.UnitKept (t.resultsSkipped r) := ⟨rfl, fun _ => rfl⟩
  have released (t : Ctl) : t.UnitKept (t.testReleases xs) :=
    .of_leads (M := fun _ => True) (foldl_leads Ctl.testRelease_leads_any xs t) (Ctl.testReleases_digest t xs)
  have tested (t : Ctl) : t.UnitKept (t.testComplete r) :=
    .of_leads (N := fun _ => True) (M := fun _ => True) (Ctl.testComplete_leads trivial trivial t)
      (Ctl.testComplete_digest t r)
  have pumped (t : Ctl) : t.UnitKept t.pumpAll :=
    .of_leads (N := fun _ => True) (M := fun _ => True) t.pumpAll_leads t.pumpAll_digest
  rw [e]
  exact ((((before.trans withdrawn).trans (skipped _)).trans (released _)).trans (tested _)).trans (pumped _)

theorem FileRec.state_ne_reading {f g : FileRec} (h : f.state ≠ .reading)
    (hg : g.state = f.state ∨ g.isComplete = true) : g.state ≠ .reading := by
  obtain e | e := hg
  · rwa [e]
  · intro reading
    simp [FileRec.isComplete, reading] at e

/-- What an UNREADABLE source leaves of its record, where names are distinct. -/
theorem Ctl.sourceFail_record (nodup : (c.files.map (·.ref)).Nodup) (hf : c.file? r = some f) (hp : f.result = .pending)
    (hq : f.state ≠ .queued) {g : FileRec} (hg : (c.sourceFail r .unreadable).file? r = some g) :
    g.result = .unreadable ∧ g.acc = f.acc ∧ g.state ≠ .reading
      ∧ g.dests = (f.closeResults (c.job r.job).verify (fun _ => true) .skipped).dests := by
  have found : (c.modFile r FileRec.foundUnreadable).file? r = some f.foundUnreadable :=
    Ctl.modFile_file_self hf fun _ => rfl
  have taken : f.foundUnreadable.state ≠ .queued ∧ f.foundUnreadable.state ≠ .reading := by
    simp only [FileRec.foundUnreadable]
    split
    · simp
    · next h => exact ⟨hq, h⟩
  obtain ⟨xs, e⟩ := Ctl.sourceFail_unreadable hf hp
  have early : Ctl.RecordKept r (c.modFile r FileRec.foundUnreadable) ((c.sourceFoundUnreadable r).fileWithdrawn r) := by
    have promoted : Ctl.RecordKept r (c.modFile r FileRec.foundUnreadable)
        ((c.modFile r FileRec.foundUnreadable).promote r.job) := by
      refine .promoteRun _ _ _ (Ctl.modFile_nodup nodup fun _ => rfl) fun k hk => ?_
      obtain rfl := Option.some.inj (found.symm.trans hk)
      exact taken.1
    exact (promoted.trans (.of_files (Ctl.dropStaleWait_files ..))).trans
      (.of_files ((c.sourceFoundUnreadable r).fileWithdrawn_withdrawsWork r).files)
  have late : (((c.sourceFoundUnreadable r).fileWithdrawn r).resultsSkipped r).RecordKept r
      (c.sourceFail r .unreadable) := by
    rw [e]
    exact ((Ctl.RecordKept.of_files (Ctl.testReleases_files ..)).trans (.testComplete _ r)).trans
      (.of_files (Ctl.pumpAll_files _))
  obtain ⟨h, hh, gh, sh⟩ := late.record g hg
  rw [Ctl.resultsSkipped, Ctl.modFile_file _ _ _ _ fun f => FileRec.closeResults_ref f _ _ _,
    Ctl.fileWithdrawn_verify] at hh
  obtain ⟨k, hk, rfl⟩ := Option.map_eq_some_iff.1 hh
  obtain ⟨p, hp', kp, sk⟩ := early.record k hk
  obtain rfl := Option.some.inj (found.symm.trans hp')
  rw [if_pos rfl] at gh sh
  exact ⟨by rw [gh, kp]; rfl, by rw [gh, kp]; rfl, FileRec.state_ne_reading (FileRec.state_ne_reading taken.2 sk) sh,
    by rw [gh, kp]; rfl⟩

/-- The results that are not final, by the verify mode (R47). -/
theorem FileRec.closeResults_skipped (f : FileRec) (v : VerifyMode) :
    (f.closeResults v (fun _ => true) .skipped).dests = f.dests.map fun e =>
      if e.result = .pending ∨ (e.result = .written ∧ v = .readback) then { e with result := .skipped } else e := by
  refine List.map_congr_left fun e _ => ?_
  cases e.result <;> cases v <;> simp [DestResult.isFinal]

theorem Ctl.foldSource_unitKept : c.UnitKept (c.foldSource r m w a b) := by
  have folded : c.UnitKept (c.modFile r fun g => { g with acc := g.acc.fold m w a b }) := ⟨rfl, fun _ => rfl⟩
  unfold Ctl.foldSource
  split
  · exact .refl c
  · next f hf =>
    split
    · exact .refl c
    · split
      · split
        · next hp => exact Ctl.sourceFail_unitKept hf hp
        · exact .refl c
      · simp only
        split
        · exact folded.trans Ctl.sourceGood_unitKept
        · exact folded

/-- Settles O16: each fold leaves the unit idle and the job in its state, and what follows it touches no file. -/
theorem sourceFoldIsAppliedRefusedOrDiscarded : Obligations.SourceFoldIsAppliedRefusedOrDiscarded := by
  intro s x r f fresh running busy target found going sums m acc w v
  obtain ⟨c, hc⟩ : ∃ c, c = s.ctl.unitDone sums.1 sums.2 := ⟨_, rfl⟩
  obtain ⟨u, hu⟩ : ∃ u, u = if s.ctl.digest.discard then c else c.foldSource r m s.ctl.digest.t sums.1 sums.2 := ⟨_, rfl⟩
  have idle : c.digest.busy = none ∧ c.digest.target = none ∧ c.digest.fifo = s.ctl.digest.fifo := by
    rw [hc]
    exact ⟨rfl, rfl, rfl⟩
  have jobs (n : CardNo) : c.job n = s.ctl.job n := by rw [hc]; rfl
  have here : c.file? r = some f := by rw [hc]; exact found
  have mode : v = (c.job r.job).verify := by rw [jobs]
  have folded : (c.modFile r fun g => g.folded m s.ctl.digest.t sums.1 sums.2).file? r = some { f with acc := acc } :=
    Ctl.modFile_file_self (k := fun g => g.folded m s.ctl.digest.t sums.1 sums.2) here fun _ => rfl
  have names : (c.files.map (·.ref)).Nodup := by rw [hc]; exact fresh.1
  have kept : c.UnitKept u := by
    rw [hu]
    split
    · exact .refl c
    · exact Ctl.foldSource_unitKept
  have state : (u.job r.job).state ≠ .stopping := by rwa [kept.state, jobs]
  obtain ⟨files, digest, failures⟩ := Ctl.sourceDigested_keeps (x := x) state
  refine ⟨_, execDigestComputationEnd_eq running busy rfl, ?_⟩
  dsimp only
  rw [Ctl.digestFinish_source target, ← hc, ← hu]
  simp only [Ctl.file_of_files files, digest]
  refine ⟨by rw [kept.digest]; exact idle.1, by rw [kept.digest]; exact idle.2.1, fun discarded => ?_, fun applied => ?_⟩
  · rw [if_pos discarded] at hu
    rw [hu]
    exact ⟨here, idle.2.2⟩
  · rw [if_neg (by simp [applied])] at hu
    refine ⟨fun final => ?_, fun pending below => ?_, fun pending whole => ?_, fun pending past taken g hg => ?_⟩
    · rw [hu, Ctl.foldSource_final here final]
      exact here
    · rw [hu, Ctl.foldSource_pending here pending, if_neg below.le.not_gt, if_neg below.ne]
      exact folded
    · rw [Ctl.foldSource_pending here pending, if_neg whole.not_gt, if_pos whole] at hu
      refine ⟨failures (hu ▸ Ctl.sourceGood_failures), fun g hg => ?_⟩
      rw [hu] at hg
      exact Ctl.sourceGood_record folded hg
    · rw [hu, Ctl.foldSource_pending here pending, if_pos past] at hg
      rw [← FileRec.closeResults_skipped, mode]
      exact Ctl.sourceFail_record names here pending taken hg

end

end Sys2Proof.Machine

namespace Sys2Proof.Machine

/-! ## A verify slab that is freed, and what settles then (R92, R71) -/

section
variable {N M : CardNo → Prop} {c t : Ctl} {n : CardNo} {d : DriveNo} {x y : SlabNo} {r : FileRef}

/-- No consequence makes a slab FILLED. -/
theorem Ctl.Consequence.not_filled (h : c.Consequence N M t) (hy : (c.slab y).state ≠ .filled) :
    (t.slab y).state ≠ .filled := by
  have changed (x : SlabNo) (g : Slab → Slab) (hg : ∀ s : Slab, (g s).state = s.state ∨ (g s).state = .free) :
      ((c.modSlab x g).slab y).state ≠ .filled := by
    rw [Ctl.modSlab_slab_ite]
    split
    · next e =>
      obtain same | free := hg (c.slab x)
      · rw [same, ← e]; exact hy
      · rw [free]; decide
    · exact hy
  cases h with
  | port h =>
    obtain kept | ⟨-, -, r, sp, e⟩ := h.slab y
    · rw [kept.fields.2.1]; exact hy
    · simp [e, spanSlab]
  | rest | counts | files | withdrawn => exact hy
  | @release n x xs hn hj hx hne hs =>
    show (xs[y]).state ≠ .filled
    by_cases e : y = x
    · subst e
      obtain e | ⟨⟨filling, -⟩, -⟩ := hs
      · rw [e]; decide
      · rw [filling]; decide
    · rw [hne y e]; exact hy
  | unpend | digested | unwritten => exact changed _ _ fun _ => .inl rfl
  | unverify => exact changed _ _ fun _ => .inr rfl

theorem Ctl.Leads.not_filled (h : Ctl.Leads N M c t) (hy : (c.slab y).state ≠ .filled) : (t.slab y).state ≠ .filled :=
  h.keeps (P := fun a => (a.slab y).state ≠ .filled) hy fun _ _ ha hs => hs.not_filled ha

/-- A slab that a reader's request is granted is FILLING. -/
theorem Ctl.raiseSource_not_filled (hy : (c.slab y).state ≠ .filled) : ((c.raiseSource n).slab y).state ≠ .filled := by
  unfold Ctl.raiseSource
  split
  · next stands =>
    obtain ⟨-, e⟩ | ⟨-, x, -, e⟩ | ⟨-, -, e⟩ := c.raise_cases n .source <;> rw [e]
    · exact hy
    · have reading : (c.readingFile n).isSome = true := by
        simp only [Ctl.sourceRequest, Bool.and_eq_true] at stands
        obtain ⟨⟨⟨⟨⟨-, unread⟩, -⟩, -⟩, -⟩, -⟩ := stands
        exact Option.isSome_of_any unread
      have granted := Ctl.grant_grantedTo (x := x) (u := .source) fun _ => reading
      by_cases same : y = x
      · have filling : ((c.grant n .source x).slab x).state = .filling := congrArg Prod.fst granted.use
        simp [same, filling]
      · rw [granted.others y same]; exact hy
    · exact hy
  · exact hy

theorem Ctl.settle_not_filled (hy : (c.slab y).state ≠ .filled) : ((c.settle n).slab y).state ≠ .filled := by
  have still {t : Ctl} (h : t.slabs = c.slabs) : (t.slab y).state ≠ .filled := by rwa [Ctl.slab_of_slabs h]
  cases hs : (c.job n).state with
  | running =>
    by_cases ends : c.endCondition n = true
    · rw [Ctl.settle_ends ends]
      exact still (by simp)
    · rw [Ctl.settle_running hs (Bool.eq_false_iff.2 ends)]
      exact Ctl.raiseSource_not_filled (still (by simp))
  | held =>
    by_cases ends : c.endCondition n = true
    · rw [Ctl.settle_ends ends]
      exact still (by simp)
    · rw [Ctl.settle_held hs (Bool.eq_false_iff.2 ends)]
      exact still (by simp)
  | suspending =>
    obtain ⟨-, -, -, slabs, -⟩ := Ctl.settle_suspends hs rfl
    exact still slabs
  | stopping =>
    obtain ⟨⟨w, lead, -, slabs⟩, -⟩ := Ctl.settle_stops (M := fun _ => True) hs
    rw [Ctl.slab_of_slabs slabs]
    exact lead.not_filled hy
  | free | opened | suspended | faulted | ended =>
    rw [Ctl.settle_still (by simp [hs])]
    exact still (by simp)

/-- The verify slab of d is FREE, and its port takes what is ready for it. -/
def Ctl.verifyFreed (c : Ctl) (d : DriveNo) : Ctl := (c.freeVerifySlab d).pump d

/-- What follows the fold of a verify slab: its slab is freed, its port takes work, and a job may settle. -/
inductive Ctl.EndsVerify (d : DriveNo) (c : Ctl) : Ctl → Prop
  | freed : c.EndsVerify d (c.verifyFreed d)
  | settled (n : CardNo) : c.EndsVerify d ((c.verifyFreed d).settle n)

theorem Ctl.digestFinish_verify {a b : Nat} (h : c.digest.target = some (.verify d)) :
    Ctl.EndsVerify d
      (if c.digest.discard then c.unitDone a b else (c.unitDone a b).foldVerify d c.digest.m c.digest.t a b)
      (c.digestFinish x a b) := by
  simp only [Ctl.digestFinish, h]
  cases (c.slab x).file with
  | none => exact .freed
  | some r => exact .settled r.job

theorem Ctl.verifyFreed_not_filled : ((c.verifyFreed d).slab (verifySlab d)).state ≠ .filled := by
  have free : ((c.freeVerifySlab d).slab (verifySlab d)).state ≠ .filled := by
    rw [Ctl.freeVerifySlab, Ctl.modSlab_slab]
    decide
  exact Ctl.Leads.not_filled (N := fun _ => True) (M := fun _ => True) (Ctl.pump_leads _ d) free

namespace Ctl.EndsVerify

theorem digest (h : Ctl.EndsVerify d c t) : t.digest = c.digest := by
  have freed : (c.verifyFreed d).digest = c.digest := Ctl.pump_digest _ d
  cases h with
  | freed => exact freed
  | settled n => exact (Ctl.settle_digest _ n).trans freed

theorem record (h : Ctl.EndsVerify d c t) : c.RecordKept r t := by
  have freed : c.RecordKept r (c.verifyFreed d) := .of_files (Ctl.pump_files _ d)
  cases h with
  | freed => exact freed
  | settled n => exact freed.trans (.settle _ n)

theorem drive (h : Ctl.EndsVerify d c t) : t.drive d = (c.verifyFreed d).drive d := by
  cases h with
  | freed => rfl
  | settled n => exact Ctl.drive_of_drives (Ctl.settle_drives _ n) d

theorem not_filled (h : Ctl.EndsVerify d c t) : (t.slab (verifySlab d)).state ≠ .filled := by
  cases h with
  | freed => exact Ctl.verifyFreed_not_filled
  | settled n => exact Ctl.settle_not_filled Ctl.verifyFreed_not_filled

end Ctl.EndsVerify

end

end Sys2Proof.Machine

namespace Sys2Proof.Machine

/-! ## The verify context while its port takes work (R98, R99, R101) -/

section
variable {N M : CardNo → Prop} {c t : Ctl} {d : DriveNo} {r : FileRef} {k : Context}

/-- Port d reads back the file of context k, with k's accumulator and from k's next byte offset on. -/
def Ctl.ReadsBack (d : DriveNo) (k : Context) (c : Ctl) : Prop :=
  ∃ k', (c.drive d).context = some k' ∧ k'.file = k.file ∧ k'.acc = k.acc ∧ k'.nextOffset = k.nextOffset

/-- A port that takes work may take the context's next span in hand, but folds nothing. -/
theorem Ctl.ReadsBack.portStep (h : c.ReadsBack d k) (hs : c.PortStep d t) : t.ReadsBack d k := by
  have same (e : (t.drive d).context = (c.drive d).context) : t.ReadsBack d k := by
    unfold Ctl.ReadsBack
    rwa [e]
  cases hs with
  | verify r none' =>
    obtain ⟨k', hk', -⟩ := h
    rw [none'] at hk'
    cases hk'
  | stageNext | stageOldest => exact same (by rw [Ctl.modDrive_drive])
  | staged g hl =>
    have port := Ctl.startWrite_port (c.modDrive d fun p => { p with staged := none }) d g.slab g.block g.first
      (by simpa using hl)
    exact same (port.2.2.1.trans (by rw [Ctl.modDrive_drive]))
  | next x b hl =>
    have port := c.startWrite_port d x b false hl
    exact same port.2.2.1
  | oldest x hl =>
    have port := Ctl.startWrite_port (c.modDrive d fun p => { p with writeQueue := p.writeQueue.erase x }) d x
      (firstBlock (c.slab x).offset) true (by simpa using hl)
    exact same (port.2.2.1.trans (by rw [Ctl.modDrive_drive]))
  | readBack hl hv =>
    have issued : (((c.takeSpan d).issueReadBack d).drive d).context = ((c.takeSpan d).drive d).context := by
      obtain e | ⟨start, count, e⟩ := (c.takeSpan d).issueReadBack_cases d <;> rw [e]
      rw [Ctl.modDrive_drive]
      rfl
    obtain ⟨-, k1, f, hk1, hf, ⟨fresh, -⟩ | ⟨sp, inHand, -⟩⟩ := (c.verifyReady_iff d).1 hv
    · obtain ⟨k', hk', file, acc, offset⟩ := h
      obtain rfl := Option.some.inj (hk1.symm.trans hk')
      refine ⟨k1.holding (k1.spanAt f), ?_, file, acc, offset⟩
      rw [issued, Ctl.takeSpan_none hk1 hf fresh, Ctl.modSlab_drive, Ctl.modDrive_drive]
    · exact same (issued.trans (by rw [Ctl.takeSpan_some hk1 inHand]))

/-- File r is neither read back by port d nor waits for it there. -/
def Ctl.ReadsNoMore (d : DriveNo) (r : FileRef) (c : Ctl) : Prop :=
  (∀ k, (c.drive d).context = some k → k.file ≠ r) ∧ r ∉ (c.drive d).verifyQueue

theorem Ctl.ReadsNoMore.leads (h : c.ReadsNoMore d r) (hl : Ctl.Leads N M c t) : t.ReadsNoMore d r := by
  refine hl.keeps h fun a b ⟨context, queue⟩ hs => ?_
  obtain e | eff | gone := hs.drive d
  · exact ⟨e ▸ context, e ▸ queue⟩
  · refine ⟨fun k hk => ?_, fun hr => queue (eff.verifyQueue_sublist.subset hr)⟩
    obtain ⟨k0, hk0, e⟩ | ⟨waits, -⟩ := eff.context_file hk
    · rw [e]; exact context k0 hk0
    · exact fun e => queue (e ▸ waits)
  · refine ⟨fun k hk => ?_, fun hr => queue (gone.verifyQueue.subset hr)⟩
    obtain e | e := gone.context
    · exact context k (e ▸ hk)
    · rw [e] at hk; cases hk

end

end Sys2Proof.Machine

namespace Sys2Proof.Machine

/-! ## The end of the computation of a verify slab (R92, R101, R104) -/

section
variable {c t : Ctl} {d : DriveNo} {r : FileRef} {k : Context} {f : FileRec} {a b m w : Nat}

/-- The record with its entry for port d UNREADABLE where it was WRITTEN: a verify fold is refused (R87). -/
def FileRec.copyUnreadable (f : FileRec) (d : DriveNo) : FileRec :=
  f.modDest d fun e => if e.result = .written then { e with result := .unreadable } else e

/-- The record with a verify digest stored for port d, and compared if the source is GOOD (R101, R104). -/
def FileRec.copyDigested (f : FileRec) (d : DriveNo) (acc : Acc) : FileRec :=
  FileRec.compare (f.modDest d fun e => { e with verA := acc.a, verB := acc.b, stored := true })

/-- The context of d ends on a change k of file r's record, and the file is tested for completion. -/
def Ctl.contextEnds (c : Ctl) (d : DriveNo) (r : FileRef) (k : FileRec → FileRec) : Ctl :=
  ((c.modFile r k).modDrive d fun p => { p with context := none }).testComplete r

/-- The fold of a verify slab: refused past W, the end of the context at W, and below it the next span may follow. -/
theorem Ctl.foldVerify_eq (hk : (c.drive d).context = some k) (hf : c.file? k.file = some f) :
    c.foldVerify d m w a b =
      if (f.len + 1) / 2 < k.acc.words + m then c.contextEnds d k.file fun g => g.copyUnreadable d
      else if k.acc.words + m = (f.len + 1) / 2 then
        c.contextEnds d k.file fun g => g.copyDigested d (k.acc.fold m w a b)
      else c.modDrive d fun p => { p with context := some { k with acc := k.acc.fold m w a b, span := none } } := by
  simp only [Ctl.foldVerify, Ctl.contextFile, hk, Option.bind_some, hf, Acc.overFold_iff, FileRec.wordCount]
  rfl

theorem Ctl.foldVerify_digest : (c.foldVerify d m w a b).digest = c.digest := by
  unfold Ctl.foldVerify
  split
  · split
    · exact Ctl.testComplete_digest ..
    · simp only
      split
      · exact Ctl.testComplete_digest ..
      · rfl
  · rfl

/-- A context that ends leaves its port to other files, if the file does not wait there again. -/
theorem Ctl.contextEnds_readsNoMore (kr : FileRec → FileRec) (hq : r ∉ (c.drive d).verifyQueue) :
    ((c.contextEnds d r kr).verifyFreed d).ReadsNoMore d r := by
  have ended : ((c.modFile r kr).modDrive d fun p => { p with context := none }).ReadsNoMore d r := by
    unfold Ctl.ReadsNoMore
    rw [Ctl.modDrive_drive]
    exact ⟨fun k hk => (nomatch hk), hq⟩
  have run : Ctl.Leads (fun _ => True) (fun _ => True)
      ((c.modFile r kr).modDrive d fun p => { p with context := none }) ((c.contextEnds d r kr).verifyFreed d) :=
    ((Ctl.testComplete_leads trivial trivial _).trans (Ctl.Consequence.unverify d).leads).trans (Ctl.pump_leads _ d)
  exact ended.leads run

/-- The record of the file that a context ends on, as far as the file has not retired. -/
theorem Ctl.contextEnds_record {kr : FileRec → FileRec} (ref : ∀ f, (kr f).ref = f.ref) (hf : c.file? r = some f)
    (h : Ctl.EndsVerify d (c.contextEnds d r kr) t) {g : FileRec} (hg : t.file? r = some g) :
    g.dests = (kr f).dests := by
  have kept : Ctl.RecordKept r ((c.modFile r kr).modDrive d fun p => { p with context := none }) t :=
    (Ctl.RecordKept.testComplete _ r).trans h.record
  obtain ⟨p, hp, same, -⟩ := kept.record g hg
  obtain rfl := Option.some.inj ((Ctl.modFile_file_self hf ref).symm.trans hp)
  rw [same]

theorem FileRec.copyUnreadable_ref (f : FileRec) (d : DriveNo) : (f.copyUnreadable d).ref = f.ref := rfl

theorem FileRec.copyUnreadable_dests (f : FileRec) (d : DriveNo) :
    (f.copyUnreadable d).dests = f.dests.map fun e =>
      if e.port = d ∧ e.result = .written then { e with result := .unreadable } else e := by
  refine List.map_congr_left fun e _ => ?_
  rw [ite_and]

theorem FileRec.copyDigested_dests (f : FileRec) (d : DriveNo) (acc : Acc) :
    (f.copyDigested d acc).dests = f.dests.map fun e =>
      let e := if e.port = d then { e with verA := acc.a, verB := acc.b, stored := true } else e
      if f.result = .good ∧ e.result = .written ∧ e.stored = true then
        { e with result := if f.acc.a = e.verA ∧ f.acc.b = e.verB then .verified else .mismatch }
      else e := by
  by_cases good : f.result = .good
  · simp only [FileRec.copyDigested, FileRec.compare, FileRec.modDest, good, if_true, true_and, List.map_map]
    rfl
  · simp only [FileRec.copyDigested, FileRec.compare, FileRec.modDest, good, if_false, false_and]

theorem FileRec.copyDigested_ref (f : FileRec) (d : DriveNo) (acc : Acc) : (f.copyDigested d acc).ref = f.ref :=
  FileRec.compare_ref _

/-- Settles O17: each fold of the context, and that neither the slab's release nor what settles touches what it leaves. -/
theorem verifyFoldIsAppliedRefusedOrDiscarded : Obligations.VerifyFoldIsAppliedRefusedOrDiscarded := by
  intro s x d fresh running busy target
  obtain ⟨sums, hsums⟩ : ∃ sums, sums = partialDigest (wordsOf (readBytes s.dram (65536 * x.val) (s.ctl.slab x).len)) :=
    ⟨_, rfl⟩
  obtain ⟨c, hc⟩ : ∃ c, c = s.ctl.unitDone sums.1 sums.2 := ⟨_, rfl⟩
  obtain ⟨u, hu⟩ : ∃ u, u = if s.ctl.digest.discard then c
    else c.foldVerify d s.ctl.digest.m s.ctl.digest.t sums.1 sums.2 := ⟨_, rfl⟩
  have ends : Ctl.EndsVerify d u (s.ctl.digestFinish x sums.1 sums.2) := by
    rw [hu, hc]
    exact Ctl.digestFinish_verify target
  have idle : u.digest.busy = none := by
    have done : c.digest.busy = none := by rw [hc]; rfl
    rw [hu]
    split
    · exact done
    · rw [Ctl.foldVerify_digest]; exact done
  refine ⟨_, execDigestComputationEnd_eq running busy hsums, by rw [ends.digest]; exact idle, ends.not_filled,
    fun discarded q f g hf hg => ?_, fun k f applied hk hf hq => ?_⟩
  · rw [if_pos discarded, hc] at hu
    subst hu
    obtain ⟨p, hp, same, -⟩ := ends.record.record g hg
    obtain rfl := Option.some.inj (hf.symm.trans hp)
    rw [same]
    exact ⟨rfl, rfl⟩
  · rw [← hsums]
    intro sums' m acc w left
    have hk' : (c.drive d).context = some k := by rw [hc]; exact hk
    have hf' : c.file? k.file = some f := by rw [hc]; exact hf
    have hq' : k.file ∉ (c.drive d).verifyQueue := by rw [hc]; exact hq
    rw [if_neg (by simp [applied]), Ctl.foldVerify_eq hk' hf'] at hu
    have left_of (kr : FileRec → FileRec) (e : u = c.contextEnds d k.file kr) : left := by
      intro k' hk'
      rw [ends.drive, e] at hk'
      exact (Ctl.contextEnds_readsNoMore kr hq').1 k' hk'
    refine ⟨fun below => ?_, fun whole => ?_, fun past => ?_⟩
    · rw [if_neg below.le.not_gt, if_neg below.ne] at hu
      have reads : (u.freeVerifySlab d).ReadsBack d { k with acc := acc, span := none } :=
        ⟨_, by rw [hu]; simp [Ctl.freeVerifySlab]; rfl, rfl, rfl, rfl⟩
      have pumped : (u.verifyFreed d).ReadsBack d { k with acc := acc, span := none } :=
        Ctl.pump_induction reads fun _ _ h step => h.portStep step
      refine ⟨?_, fun g hg => ?_⟩
      · obtain ⟨k', context, file, folded, offset⟩ := pumped
        exact ⟨k', by rw [ends.drive]; exact context, file, folded, offset⟩
      · obtain ⟨p, hp, same, -⟩ := ends.record.record g hg
        rw [hu] at hp
        obtain rfl := Option.some.inj (hf'.symm.trans hp)
        rw [same]
    · rw [if_neg whole.not_gt, if_pos whole] at hu
      refine ⟨left_of _ hu, fun g hg => ?_⟩
      rw [hu] at ends
      rw [Ctl.contextEnds_record (fun f => f.copyDigested_ref d _) hf' ends hg, FileRec.copyDigested_dests]
      rfl
    · rw [if_pos past] at hu
      refine ⟨left_of _ hu, fun g hg => ?_⟩
      rw [hu] at ends
      rw [Ctl.contextEnds_record (fun f => f.copyUnreadable_ref d) hf' ends hg, FileRec.copyUnreadable_dests]

end

end Sys2Proof.Machine

/-! # Proofs: verification and card clearance (05)

First what every event makes of the marks and of the lamp of a card port, in two parts: what comes before jobs settle,
which never sets a cleared flag and takes no job into or out of ENDED, and the settling, in which a job that enters ENDED is
assessed once for good. Then LAMP_SET, the outcome of a file, and the end of a read-back. -/

namespace Sys2Proof.Machine

/-! ## What comes before jobs settle -/

/-- What the lamp and the clearance of a card port depend on, but for the lamp. -/
def CardPort.record (p : CardPort) : CardState × Serial × Bool × Bool × Bool × Release :=
  (p.state, p.serial, p.cleared, p.residue, p.unclean, p.lampMode)

theorem CardPort.record_fields {p q : CardPort} (h : q.record = p.record) :
    q.state = p.state ∧ q.serial = p.serial ∧ q.cleared = p.cleared ∧ q.residue = p.residue ∧ q.unclean = p.unclean
      ∧ q.lampMode = p.lampMode := by
  simpa only [CardPort.record, Prod.mk.injEq] using h

/-- The same with the pattern that the lamp shows. -/
def CardPort.face (p : CardPort) : (CardState × Serial × Bool × Bool × Bool × Release) × Pattern := (p.record, p.pattern)

theorem CardPort.face_fields {p q : CardPort} (h : q.face = p.face) : q.record = p.record ∧ q.pattern = p.pattern := by
  simpa only [CardPort.face, Prod.mk.injEq] using h

theorem CardPort.SameButLamp.record {p q : CardPort} (h : p.SameButLamp q) : q.record = p.record := by
  rw [h]
  rfl

/-- The lamp of port n, in AUTO mode, shows the pattern of R111's table. -/
def Ctl.LampRight (c : Ctl) (n : CardNo) : Prop := (c.card n).lampMode = .auto → (c.card n).pattern = c.lampAuto n

/-- What is left out of account: whether records of ports may change, and the ports whose lamps are still to be worked
out. -/
structure Exempt where
  marked : Prop
  late : CardNo → Prop

/-- Nothing is left out. -/
def Exempt.none : Exempt := ⟨False, fun _ => False⟩

/-- Records of ports may change. -/
def Exempt.records : Exempt := ⟨True, fun _ => False⟩

/-- The lamp of port n, too, is still to be worked out. -/
def Exempt.dark (e : Exempt) (n : CardNo) : Exempt := ⟨e.marked, fun m => e.late m ∨ m = n⟩

/-- From c to t no cleared flag is set and no job enters or leaves ENDED; ports keep their records and their lamps stay
right, but for those left out. -/
structure Ctl.Quiet (e : Exempt) (c t : Ctl) : Prop where
  record : ¬e.marked → ∀ m, (t.card m).record = (c.card m).record
  cleared : ∀ m, (t.card m).cleared = true → (c.card m).cleared = true
  ended : ∀ m, (t.job m).state = .ended ↔ (c.job m).state = .ended
  lamp : ∀ m, ¬e.late m → c.LampRight m → t.LampRight m

section
variable {c t u : Ctl} {n m : CardNo} {e : Exempt}

theorem Ctl.lampAuto_of_record (card : (t.card m).record = (c.card m).record) (job : (t.job m).state = (c.job m).state) :
    t.lampAuto m = c.lampAuto m := by
  obtain ⟨state, -, cleared, residue, unclean, -⟩ := CardPort.record_fields card
  simp only [Ctl.lampAuto, state, cleared, residue, unclean, job]

theorem Ctl.LampRight.of_face (h : c.LampRight m) (card : (t.card m).face = (c.card m).face)
    (job : (t.job m).state = (c.job m).state) : t.LampRight m := by
  obtain ⟨record, pattern⟩ := CardPort.face_fields card
  obtain ⟨-, -, -, -, -, mode⟩ := CardPort.record_fields record
  intro auto
  rw [pattern, Ctl.lampAuto_of_record record job]
  exact h (mode ▸ auto)

theorem CardPort.show_pattern (p : CardPort) (q : Pattern) : (p.show q).pattern = q := by
  unfold CardPort.show
  split
  · assumption
  · rfl

/-- A lamp that has been worked out is right (R111). -/
theorem Ctl.lampUpdate_right (c : Ctl) (n : CardNo) : (c.lampUpdate n).LampRight n := by
  have record := (c.lampUpdate_card n).record
  obtain ⟨-, -, -, -, -, mode⟩ := CardPort.record_fields record
  intro auto
  rw [Ctl.lampAuto_of_record record (by rw [Ctl.job_of_jobs (c.lampUpdate_jobs n)])]
  rw [mode] at auto
  rw [Ctl.lampUpdate, if_pos auto, Ctl.modCard_card, CardPort.show_pattern]

theorem Ctl.Quiet.trans (h : c.Quiet e t) (g : t.Quiet e u) : c.Quiet e u :=
  ⟨fun hm m => (g.record hm m).trans (h.record hm m), fun m hm => h.cleared m (g.cleared m hm),
    fun m => (g.ended m).trans (h.ended m), fun m hm hl => g.lamp m hm (h.lamp m hm hl)⟩

end

end Sys2Proof.Machine

namespace Sys2Proof.Machine

/-! ### Whether a job record is ENDED -/

theorem Job.holdIfRunning_ended (j : Job) : j.holdIfRunning.state = .ended ↔ j.state = .ended := by
  unfold Job.holdIfRunning
  split
  · next run => simp [run]
  · rfl

theorem Job.releaseIfEmpty_ended (j : Job) (r : ReleaseCause) : (j.releaseIfEmpty r).state = .ended ↔ j.state = .ended := by
  unfold Job.releaseIfEmpty
  split
  · next held => simp [held.1]
  · rfl

theorem Job.dropped_ended (j : Job) (d : DriveNo) : (j.dropped d).state = .ended ↔ j.state = .ended := by
  unfold Job.dropped
  simp only
  split
  · exact Job.releaseIfEmpty_ended _ _
  · rfl

theorem Job.runOrHold_not_ended (j : Job) : j.runOrHold ≠ .ended := by
  unfold Job.runOrHold
  split <;> exact JobState.noConfusion

theorem Job.not_ended_of_active {j : Job} (h : j.isActive = true) : j.state ≠ .ended := by
  intro ended
  simp [Job.isActive, ended] at h

theorem Exempt.ne_of_late {e : Exempt} {n m : CardNo} (hn : e.late n) (hm : ¬e.late m) : m ≠ n := by
  rintro rfl
  exact hm hn

namespace Ctl.Quiet

section
variable {e : Exempt} {a c t : Ctl} {n : CardNo} {d : DriveNo} {x : SlabNo} {r : FileRef} {f : FileRec}

theorem refl (c : Ctl) : Quiet e c c := ⟨fun _ _ => rfl, fun _ h => h, fun _ => .rfl, fun _ _ h => h⟩

theorem ite {p : Prop} [Decidable p] {u : Ctl} (ht : p → Quiet e a t) (hu : ¬p → Quiet e a u) :
    Quiet e a (if p then t else u) := by
  split
  · next h => exact ht h
  · next h => exact hu h

theorem foldl {α : Type} {g : Ctl → α → Ctl} (hg : ∀ c y, Quiet e a c → Quiet e a (g c y)) (l : List α)
    (h : Quiet e a c) : Quiet e a (l.foldl g c) := by
  induction l generalizing c with
  | nil => exact h
  | cons y l ih => exact ih (hg c y h)

theorem eachDrive {g : Ctl → DriveNo → Ctl} (hg : ∀ c d, Quiet e a c → Quiet e a (g c d))
    (h : Quiet e a c) : Quiet e a (Machine.eachDrive g c) := hg _ _ (hg _ _ (hg _ _ (hg _ _ h)))

theorem eachJob {g : Ctl → CardNo → Ctl} (hg : ∀ c n, Quiet e a c → Quiet e a (g c n))
    (h : Quiet e a c) : Quiet e a (Machine.eachJob g c) :=
  hg _ _ (hg _ _ (hg _ _ (hg _ _ (hg _ _ (hg _ _ (hg _ _ (hg _ _ h)))))))

/-! ### Single updates -/

/-- No port changes its face, and no job its state. -/
theorem faces (h : Quiet e a c) (cards : ∀ m, (t.card m).face = (c.card m).face)
    (jobs : ∀ m, (t.job m).state = (c.job m).state) : Quiet e a t := by
  have record (m : CardNo) := (CardPort.face_fields (cards m)).1
  refine h.trans ⟨fun _ => record, fun m hm => ?_, fun m => by rw [jobs], fun m _ hl => hl.of_face (cards m) (jobs m)⟩
  obtain ⟨-, -, cleared, -⟩ := CardPort.record_fields (record m)
  exact cleared ▸ hm

/-- Neither card ports nor jobs change. -/
theorem same (h : Quiet e a c) (cards : t.cards = c.cards) (jobs : t.jobs = c.jobs) : Quiet e a t :=
  h.faces (fun m => by rw [Ctl.card_of_cards cards]) fun m => by rw [Ctl.job_of_jobs jobs]

theorem modDrive {g : DrivePort → DrivePort} (h : Quiet e a c) : Quiet e a (c.modDrive d g) := h.same rfl rfl

theorem modSlab {g : Slab → Slab} (h : Quiet e a c) : Quiet e a (c.modSlab x g) := h.same rfl rfl

theorem modDigest {g : Digest → Digest} (h : Quiet e a c) : Quiet e a (c.modDigest g) := h.same rfl rfl

theorem modFile {g : FileRec → FileRec} (h : Quiet e a c) : Quiet e a (c.modFile r g) := h.same rfl rfl

theorem setFiles {fs : List FileRec} (h : Quiet e a c) : Quiet e a { c with files := fs } := h.same rfl rfl

theorem setWait {u : Option SlabUse} (h : Quiet e a c) : Quiet e a (c.setWait n u) := h.same rfl rfl

theorem setFileDoneWaiting {w : Bool} (h : Quiet e a c) : Quiet e a (c.setFileDoneWaiting n w) := h.same rfl rfl

theorem pushEntry {k : OutEntry} (h : Quiet e a c) : Quiet e a (c.pushEntry k) := h.same rfl rfl

theorem pushNotice {s : Subject} {p : List Byte} (h : Quiet e a c) : Quiet e a (c.pushNotice s p) := h.same rfl rfl

/-- A change of a card port that leaves its face. -/
theorem modCard {g : CardPort → CardPort} (h : Quiet e a c)
    (hg : ∀ p, (g p).face = p.face := by exact fun _ => rfl) : Quiet e a (c.modCard n g) := by
  refine h.faces (fun m => ?_) fun _ => rfl
  by_cases same : m = n
  · subst same
    rw [Ctl.modCard_card, hg]
  · rw [Ctl.modCard_card_ne _ _ same]

/-- A change of a card port that is left out. -/
theorem changePort {g : CardPort → CardPort} (h : Quiet e a c) (marked : e.marked) (late : e.late n)
    (hg : (g (c.card n)).cleared = true → (c.card n).cleared = true) : Quiet e a (c.modCard n g) := by
  have other {m : CardNo} (hm : m ≠ n) : (c.modCard n g).card m = c.card m := Ctl.modCard_card_ne c g hm
  refine h.trans ⟨fun hm => (hm marked).elim, fun m hm => ?_, fun _ => .rfl, fun m hm hl => ?_⟩
  · by_cases same : m = n
    · subst same
      rw [Ctl.modCard_card] at hm
      exact hg hm
    · rwa [other same] at hm
  · exact hl.of_face (by rw [other (Exempt.ne_of_late late hm)]) rfl

/-- A change of a job record whose port's lamp is left out. -/
theorem changeJob {g : Job → Job} (h : Quiet e a c) (late : e.late n)
    (hg : (g (c.job n)).state = .ended ↔ (c.job n).state = .ended) : Quiet e a (c.modJob n g) := by
  refine h.trans ⟨fun _ _ => rfl, fun _ hm => hm, fun m => ?_, fun m hm hl => hl.of_face rfl ?_⟩
  · rw [Ctl.modJob_job_ite]
    split
    · next same => rw [hg, same]
    · rfl
  · rw [Ctl.modJob_job_ne _ _ (Exempt.ne_of_late late hm)]

/-- A job is counted as its work goes on. -/
theorem countJob {g : Job → Job} (h : Quiet e a c) (hg : ∀ j, (g j).state = j.state := by exact fun _ => rfl) :
    Quiet e a (c.modJob n g) := by
  refine h.faces (fun _ => rfl) fun m => ?_
  rw [Ctl.modJob_job_ite]
  split
  · next same => rw [hg, same]
  · rfl

theorem setLink {p : PortId} {l : Link} (h : Quiet e a c) : Quiet e a (c.setLink p l) := by
  cases p with
  | card n => exact h.modCard (g := fun q => { q with link := l })
  | drive d => exact h.modDrive (g := fun q => { q with link := l })

/-! ### Notices, lamps, marks, job records -/

theorem notifyPort {p : PortId} (h : Quiet e a c) : Quiet e a (c.notifyPort p) := h.same (by simp) (by simp)

theorem notifyJob (h : Quiet e a c) : Quiet e a (c.notifyJob n) := h.same (by simp) (by simp)

theorem notifyProgress (h : Quiet e a c) : Quiet e a (c.notifyProgress n) := h.same (by simp) (by simp)

theorem lineFault {k : LineFault} (h : Quiet e a c) : Quiet e a (c.lineFault k) :=
  .ite (fun _ => h.same rfl rfl) fun _ => h.same rfl rfl

/-- A lamp that is worked out again is right, the others stay as they were. -/
theorem lampUpdate (h : Quiet e a c) : Quiet e a (c.lampUpdate n) := by
  have jobs (m : CardNo) := Ctl.job_of_jobs (c.lampUpdate_jobs n) m
  have record (m : CardNo) : ((c.lampUpdate n).card m).record = (c.card m).record := by
    by_cases same : m = n
    · exact same ▸ (c.lampUpdate_card n).record
    · rw [Ctl.lampUpdate_card_ne _ same]
  refine h.trans ⟨fun _ => record, fun m hm => ?_, fun m => by rw [jobs], fun m _ hl => ?_⟩
  · obtain ⟨-, -, cleared, -⟩ := CardPort.record_fields (record m)
    exact cleared ▸ hm
  · by_cases same : m = n
    · exact same ▸ c.lampUpdate_right n
    · exact hl.of_face (by rw [Ctl.lampUpdate_card_ne _ same]) (by rw [jobs])

/-- A lamp may be left out. -/
theorem dark (h : Quiet e a c) : Quiet (e.dark n) a c :=
  ⟨h.record, h.cleared, h.ended, fun m hm => h.lamp m fun late => hm (.inl late)⟩

/-- A lamp that is right need not be left out. -/
theorem lit (h : Quiet (e.dark n) a c) (right : c.LampRight n) : Quiet e a c := by
  refine ⟨h.record, h.cleared, h.ended, fun m hm hl => ?_⟩
  by_cases same : m = n
  · exact same ▸ right
  · exact h.lamp m (fun late => late.elim hm same) hl

theorem workedOut (h : Quiet (e.dark n) a c) : Quiet e a (c.lampUpdate n) := h.lampUpdate.lit (c.lampUpdate_right n)

/-- Marks of a port whose record may change (R110); the cleared flag is not among those set. -/
theorem setMarks {p q u : Bool} (h : Quiet e a c) (marked : e.marked) (hp : p = true → (c.card n).cleared = true) :
    Quiet e a (c.setMarks n p q u) := by
  refine .ite (fun _ => h) fun _ => notifyPort (workedOut (h.dark.changePort marked (.inr rfl) hp))

theorem dropWaitUnlessRunning (h : Quiet e a c) : Quiet e a (c.dropWaitUnlessRunning n) :=
  .ite (fun _ => h.setWait) fun _ => h

theorem dropStaleWait (h : Quiet e a c) : Quiet e a (c.dropStaleWait n) := .ite (fun _ => h.setWait) fun _ => h

/-- A change of a job record to or from no ENDED (R111). -/
theorem updJob {g : Job → Job} (h : Quiet e a c) (hg : (g (c.job n)).state = .ended ↔ (c.job n).state = .ended) :
    Quiet e a (c.updJob n g) := by
  have changed := (((h.dark (n := n)).changeJob (.inr rfl) hg).dropWaitUnlessRunning (n := n)).workedOut
  exact .ite (fun _ => changed) fun _ => changed.notifyJob

/-- A job that has not ended takes another state. -/
theorem changeState {g : Job → Job} (h : Quiet e a c) (hn : (c.job n).state ≠ .ended)
    (hg : (g (c.job n)).state ≠ .ended) : Quiet e a (c.updJob n g) := h.updJob (iff_of_false hg hn)

/-! ### Slabs (03) -/

theorem cardRead {i k : Nat} (h : Quiet e a c) : Quiet e a (c.cardRead n i k) := h.modCard

theorem cardIdentify (h : Quiet e a c) : Quiet e a (c.cardIdentify n) := h.modCard

theorem driveIssue {k : TxnKind} {i j : Nat} (h : Quiet e a c) : Quiet e a (c.driveIssue d k i j) := h.modDrive

theorem issueSpanRead (h : Quiet e a c) : Quiet e a (c.issueSpanRead n) := by
  unfold Ctl.issueSpanRead
  split
  · exact h
  · simp only
    split
    · exact h
    · split
      · exact h
      · exact h.modCard.cardRead

theorem grant {u : SlabUse} (h : Quiet e a c) : Quiet e a (c.grant n u x) := by
  cases u with
  | source =>
    simp only [Ctl.grant]
    cases hf : c.readingFile n with
    | none =>
      simp only [Ctl.grantSource, hf]
      exact h.setWait
    | some f =>
      rw [Ctl.grantSource_eq hf]
      exact issueSpanRead (modCard (h.same rfl rfl))
  | scan => exact cardRead (modCard (h.same rfl rfl))

theorem raise {u : SlabUse} (h : Quiet e a c) : Quiet e a (c.raise n u) := by
  obtain ⟨-, eq⟩ | ⟨-, x, -, eq⟩ | ⟨-, -, eq⟩ := c.raise_cases n u <;> rw [eq]
  · exact h
  · exact h.grant
  · exact h.setWait

theorem raiseSource (h : Quiet e a c) : Quiet e a (c.raiseSource n) := .ite (fun _ => h.raise) fun _ => h

theorem offer (h : Quiet e a c) : Quiet e a (c.offer x) := by
  obtain ⟨w, ⟨n, u, -, -, -, eq⟩ | eq⟩ := Ctl.offerRun_cases 8 c x <;> rw [Ctl.offer, eq]
  · exact grant (h.same rfl rfl)
  · exact h.same rfl rfl

theorem freePoolSlab (h : Quiet e a c) : Quiet e a (c.freePoolSlab x) := h.modSlab.offer

theorem releaseCounted (h : Quiet e a c) : Quiet e a (c.releaseCounted n x) :=
  h.modSlab.countJob.notifyProgress.offer

theorem testRelease (h : Quiet e a c) : Quiet e a (c.testRelease x) := by
  obtain ⟨n, -, -, eq⟩ | eq := c.testRelease_cases x <;> rw [eq]
  · exact h.releaseCounted
  · exact h

theorem testReleases {l : List SlabNo} (h : Quiet e a c) : Quiet e a (c.testReleases l) :=
  h.foldl (fun _ _ h => h.testRelease) l

theorem purgeDest {l : List SlabNo} (h : Quiet e a c) : Quiet e a (c.purgeDest d l) :=
  (h.foldl (fun _ _ h => h.modSlab) l).testReleases

theorem fifoPush (h : Quiet e a c) : Quiet e a (c.fifoPush x) := h.modDigest

theorem fifoRemove (h : Quiet e a c) : Quiet e a (c.fifoRemove x) := h.modDigest

theorem markDiscard (h : Quiet e a c) : Quiet e a (c.markDiscard x) := .ite (fun _ => h.modDigest) fun _ => h

theorem withdrawDigest (h : Quiet e a c) : Quiet e a (c.withdrawDigest x) :=
  .ite (fun _ => h.fifoRemove.modSlab) fun _ => h.markDiscard

theorem freeVerifySlab (h : Quiet e a c) : Quiet e a (c.freeVerifySlab d) := h.modSlab

/-! ### Drive ports (07) -/

theorem portStep (h : Quiet e a c) (s : c.PortStep d t) : Quiet e a t := by
  obtain ⟨⟨ds, xs, rfl⟩, -⟩ := s.workOnly
  exact h.same rfl rfl

theorem pump (h : Quiet e a c) : Quiet e a (c.pump d) := Ctl.pump_induction h fun _ _ h s => h.portStep s

theorem pumpAll (h : Quiet e a c) : Quiet e a c.pumpAll := h.eachDrive fun _ _ h => h.pump

theorem choose (h : Quiet e a c) : Quiet e a (c.choose d) := by
  obtain eq | s := c.choose_step d
  · rwa [eq]
  · exact h.portStep s

theorem releaseVerifySlab (h : Quiet e a c) : Quiet e a (c.releaseVerifySlab d) := by
  simp only [Ctl.releaseVerifySlab]
  split
  · exact h
  · exact .ite (fun _ => h.modDrive) fun _ => h.freeVerifySlab
  · exact .ite (fun _ => h.fifoRemove.freeVerifySlab) fun _ => h.markDiscard

theorem abandonContext (h : Quiet e a c) : Quiet e a (c.abandonContext d) :=
  .ite (fun _ => h.releaseVerifySlab.modDrive) fun _ => h

theorem leaveWriting (h : Quiet e a c) : Quiet e a (c.leaveWriting d) := by
  unfold Ctl.leaveWriting
  split
  · exact h
  · exact h.modDrive.modSlab

theorem closeWriting {p : Bool} (h : Quiet e a c) : Quiet e a (c.closeWriting d p) := by
  unfold Ctl.closeWriting
  split
  · exact h
  · exact .ite (fun _ => h.leaveWriting.modSlab) fun _ => h.leaveWriting

theorem endWriting {p : Bool} (h : Quiet e a c) : Quiet e a (c.endWriting d p) := by
  unfold Ctl.endWriting
  split
  · exact h
  · exact h.closeWriting.testRelease

theorem withdraw {s : Slab → Bool} {r : FileRef → Bool} {p : Bool} (h : Quiet e a c) :
    Quiet e a (c.withdraw d s r p) := by
  rw [Ctl.withdraw_eq]
  have abandoned : Quiet e a ((c.modDrive d fun q => q.filtered (fun x => s (c.slab x)) r).abandonOf d r) :=
    .ite (fun _ => h.modDrive.abandonContext) fun _ => h.modDrive
  exact .ite (fun _ => abandoned.closeWriting) fun _ => abandoned

theorem promptDrive (h : Quiet e a c) : Quiet e a (Ctl.promptDrive n c d) := by
  have unstaged : Quiet e a (Ctl.unstage n c d) := by
    unfold Ctl.unstage
    split
    · exact .ite (fun _ => h.modDrive) fun _ => h
    · exact h
  rw [Ctl.promptDrive_eq]
  unfold Ctl.putBackVerify
  split
  · exact .ite (fun _ => unstaged.abandonContext.modDrive) fun _ => unstaged
  · exact unstaged

theorem dropWork (h : Quiet e a c) : Quiet e a (c.dropWork d) := by
  have emptied : Quiet e a (((c.modDrive d fun p => { p with staged := none }).endWriting d false).modDrive d
      fun p => { p with writeQueue := [] }) := h.modDrive.endWriting.modDrive
  unfold Ctl.dropWork
  exact modDrive (ite (fun _ => emptied.freeVerifySlab) fun _ => emptied.abandonContext)

theorem requeueWrites {l : List CardNo} (h : Quiet e a c) : Quiet e a (c.requeueWrites d l) := h.modDrive.purgeDest

theorem requeueVerifies {l : List CardNo} (h : Quiet e a c) : Quiet e a (c.requeueVerifies d l) := h.same rfl rfl

theorem endEntries (h : Quiet e a c) : Quiet e a (Ctl.endEntries r c d) :=
  .ite (fun _ => h) fun _ => h.modDrive.purgeDest.pump

/-! ### Files (02) -/

theorem retire {o : FileOutcome} (h : Quiet e a c) : Quiet e a (c.retire f o) := by
  have left : Quiet e a { c with
      files := c.files.filter (fun g => g.ref != f.ref), fileDoneTurn := f.ref.job } := h.same rfl rfl
  have retired : Quiet e a (c.retired f o) := left.pushEntry.countJob
  rw [Ctl.retire_eq]
  exact retired.eachDrive fun _ _ h => h.endEntries

theorem retireRun (k : Nat) (h : Quiet e a c) : Quiet e a (c.retireRun k n) := by
  induction k generalizing c with
  | zero => exact h
  | succ k ih =>
    simp only [Ctl.retireRun]
    split
    · exact h.setFileDoneWaiting
    · split
      · exact .ite (fun _ => ih h.retire) fun _ => h.setFileDoneWaiting
      · exact h.setFileDoneWaiting

theorem testRetire (h : Quiet e a c) : Quiet e a (c.testRetire n) := h.retireRun _

theorem testComplete (h : Quiet e a c) : Quiet e a (c.testComplete r) := by
  unfold Ctl.testComplete
  split
  · exact h
  · exact .ite (fun _ => h.modFile.testRetire) fun _ => h

theorem testCompletes {l : List FileRef} (h : Quiet e a c) : Quiet e a (c.testCompletes l) :=
  h.foldl (fun _ _ h => h.testComplete) l

theorem sourceGood (h : Quiet e a c) : Quiet e a (c.sourceGood r) := by
  have counted := (h.modFile (r := r) (g := fun f => FileRec.compare { f with result := .good })).countJob (n := r.job)
    (g := fun j => { j with failures := 0 })
  exact counted.testComplete

theorem promoteRun (k : Nat) (h : Quiet e a c) : Quiet e a (c.promoteRun k n) := by
  induction k generalizing c with
  | zero => exact h
  | succ k ih =>
    simp only [Ctl.promoteRun]
    refine .ite (fun _ => ?_) fun _ => h
    split
    · exact h
    · exact .ite (fun _ => ih h.modFile.countJob.testComplete) fun _ => h.modFile

theorem promote (h : Quiet e a c) : Quiet e a (c.promote n) := h.promoteRun _

/-! ### The job unit (01) -/

theorem drainSlab (h : Quiet e a c) : Quiet e a (Ctl.drainSlab n c x) :=
  .ite (fun _ => h.releaseCounted) fun _ => h.freePoolSlab

theorem drainedStop (h : Quiet e a c) : Quiet e a (c.drainedStop n) :=
  testRetire (setFiles (h.foldl (fun _ _ h => h.drainSlab) _))

theorem enterStopping {k : EndReason} (h : Quiet e a c) (hn : (c.job n).state ≠ .ended) :
    Quiet e a (c.enterStopping n k) :=
  (((h.changeState hn JobState.noConfusion).eachDrive fun _ _ h => h.withdraw).foldl
    (fun _ _ h => h.withdrawDigest) _).testReleases.pumpAll

theorem fault {k : FaultCause} (h : Quiet e a c) (hn : (c.job n).state ≠ .ended) : Quiet e a (c.fault n k) :=
  (h.changeState hn JobState.noConfusion).pumpAll

theorem cardGone (h : Quiet e a c) : Quiet e a (c.cardGone n) :=
  .ite (fun _ => h.updJob (Job.holdIfRunning_ended _)) fun _ => h

theorem cardReturned (h : Quiet e a c) : Quiet e a (c.cardReturned n) := by
  refine .ite (fun active => ?_) fun _ => h
  refine .ite (fun _ => ?_) fun _ => .ite (fun _ => h) fun _ =>
    h.fault (Job.not_ended_of_active (Bool.and_eq_true _ _ ▸ active).1)
  split
  · exact h.updJob (Job.releaseIfEmpty_ended _ _)
  · exact h.updJob .rfl

theorem dropDest (h : Quiet e a c) (hn : (c.job n).state ≠ .ended) : Quiet e a (c.dropDest n d) := by
  have dropped : Quiet e c (c.destDropped n d) := purgeDest (withdraw ((refl c).updJob (Job.dropped_ended _ d)))
  have closed : Quiet e c ((c.destDropped n d).resultsDropped n d) := dropped.setFiles
  rw [Ctl.dropDest_eq]
  have tested := closed.testCompletes
    (l := ((((c.destDropped n d).resultsDropped n d).queue n).map (·.ref)))
  exact h.trans (pump (ite (fun _ => tested.enterStopping (mt (tested.ended n).1 hn)) fun _ => tested))

theorem holdDest (h : Quiet e a c) : Quiet e a (c.holdDest n d) := setFiles (h.updJob (Job.holdIfRunning_ended _))

theorem driveGoneFor (h : Quiet e a c) : Quiet e a (Ctl.driveGoneFor d c n) := by
  refine .ite (fun active => ?_) fun _ => h
  split
  · exact h.dropDest (Job.not_ended_of_active (Bool.and_eq_true _ _ ▸ active).1)
  · exact h.holdDest

theorem driveReturnedFor (h : Quiet e a c) : Quiet e a (Ctl.driveReturnedFor d c n) := by
  refine .ite (fun _ => ?_) fun _ => h
  split
  · exact h.updJob (Job.releaseIfEmpty_ended _ _)
  · exact h.updJob .rfl

theorem countFailure (h : Quiet e a c) : Quiet e a (c.countFailure n) := by
  have counted : Quiet e a (c.modJob n fun j => { j with failures := min 3 (j.failures + 1) }) := h.countJob
  refine .ite (fun third => counted.fault fun ended => ?_) fun _ => counted
  obtain ⟨-, state⟩ := third
  rw [ended] at state
  simp at state

theorem sourceFail {k : SourceResult} (h : Quiet e a c) : Quiet e a (c.sourceFail r k) := by
  have failed : Quiet e a (c.modFile r fun f =>
      { f with result := k, state := if f.state = .reading then .draining else f.state }) := h.modFile
  refine .ite (fun _ => ?_) fun _ => h
  have counted := Quiet.ite (p := k = .failed) (fun _ => failed.countFailure (n := r.job)) fun _ => failed
  have withdrawn := ((counted.promote (n := r.job)).dropStaleWait (n := r.job)).foldl
    (g := fun c x => c.modSlab x Slab.keepInFlight) (fun _ _ h => h.modSlab)
  exact (((withdrawn _).eachDrive fun _ _ h => h.withdraw).foldl (fun _ _ h => h.withdrawDigest)
    _).modFile.testReleases.testComplete.pumpAll

/-! ### The ends of WRITEs and of read-backs (07) -/

theorem writeDone {k : Nat} (h : Quiet e a c) : Quiet e a (c.writeDone d n r k) := by
  have written := (h.modFile (r := r) (g := fun f => f.modDest d fun e => { e with
    bytesWritten := e.bytesWritten + k
    result := if e.bytesWritten + k = f.len then .written else e.result })).endWriting (d := d) (p := true)
  refine .ite (fun _ => ?_) fun _ => written
  split
  · exact written.modDrive
  · exact written.testComplete

theorem writeFails (h : Quiet e a c) : Quiet e a (c.writeFails d r) := by
  simp only [Ctl.writeFails]
  exact testComplete (purgeDest (withdraw h.modFile.leaveWriting))

theorem writeClose {w : Writing} {k : Flight} {b : Bool} (h : Quiet e a c) : Quiet e a (c.writeClose d w k b) := by
  simp only [Ctl.writeClose]
  split
  · exact .ite (fun _ => h.endWriting) fun _ => .ite (fun _ => .ite (fun _ => h.endWriting) fun _ =>
      .ite (fun _ => h.modDrive) fun _ => h.writeDone) fun _ => h.writeFails
  · exact h.endWriting

theorem retry {k : Flight} (h : Quiet e a c) : Quiet e a (c.retry d k) := h.modDrive.driveIssue

theorem readBackFails (h : Quiet e a c) : Quiet e a (c.readBackFails d r) :=
  h.freeVerifySlab.modFile.modDrive.testComplete

theorem readBackGood {k : Context} {sp : Span} {g : Flight} (h : Quiet e a c) : Quiet e a (c.readBackGood d k sp g) :=
  .ite (fun _ => h.modDrive) fun _ => h.modSlab.fifoPush.modDrive

/-! ### The digest unit (04) -/

theorem digestBegin (h : Quiet e a c) : Quiet e a c.digestBegin := by
  unfold Ctl.digestBegin
  split
  · exact h.modDigest
  · exact h

theorem foldSource {m w i j : Nat} (h : Quiet e a c) : Quiet e a (c.foldSource r m w i j) := by
  unfold Ctl.foldSource
  split
  · exact h
  · exact .ite (fun _ => h) fun _ => .ite (fun _ => .ite (fun _ => h.sourceFail) fun _ => h) fun _ =>
      .ite (fun _ => h.modFile.sourceGood) fun _ => h.modFile

theorem foldVerify {m w i j : Nat} (h : Quiet e a c) : Quiet e a (c.foldVerify d m w i j) := by
  unfold Ctl.foldVerify
  split
  · exact .ite (fun _ => h.modFile.modDrive.testComplete) fun _ =>
      .ite (fun _ => h.modFile.modDrive.testComplete) fun _ => h.modDrive
  · exact h

/-! ### The reader (6.5) -/

theorem ladderStep {k : Flight} (h : Quiet e a c) : Quiet e a (c.ladderStep n k) :=
  cardRead (ite (fun _ => h.modCard) fun _ => h.modCard.notifyPort)

theorem closeAttempts {k : Attempt} (h : Quiet e a c) : Quiet e a (c.closeAttempts n k) := h.modCard

theorem dropReader (h : Quiet e a c) : Quiet e a (c.dropReader n) := by
  unfold Ctl.dropReader
  split
  · exact h
  · exact h.modCard.freePoolSlab

theorem readFails (h : Quiet e a c) : Quiet e a (c.readFails n x) := by
  unfold Ctl.readFails
  split
  · exact h.dropReader
  · exact h.dropReader.sourceFail

theorem fillSlab (h : Quiet e a c) : Quiet e a (c.fillSlab n x f) := by
  simp only [Ctl.fillSlab]
  refine eachDrive (g := Ctl.placeEntry n x) (fun _ _ h => .ite (fun _ => h.modDrive) fun _ => h) (fifoPush ?_)
  exact h.same rfl rfl

theorem spanComplete (h : Quiet e a c) : Quiet e a (c.spanComplete n x) := by
  simp only [Ctl.spanComplete]
  split
  · exact h
  · next f _ =>
    have read := ((h.fillSlab (n := n) (x := x) (f := f)).modCard (n := n) (g := fun p => { p with reader := none })).modFile
      (r := f.ref) (g := fun g => { g with
        readOffset := g.readOffset + (c.slab x).len
        state := if f.readOffset + (c.slab x).len == f.len then .draining else g.state })
    exact pumpAll (ite (fun _ => read.countJob.testComplete.promote) fun _ => read.countJob)

/-! ### Residue scans (09) and card ports (06) -/

theorem dropScanSlab (h : Quiet e a c) : Quiet e a (c.dropScanSlab n) := by
  unfold Ctl.dropScanSlab
  split
  · exact h
  · exact h.modCard.freePoolSlab

theorem scanEnd {o : ScanOutcome} {i k : Nat} (h : Quiet e a c) (marked : e.marked) :
    Quiet e a (c.scanEnd n o i k) := by
  have told := Quiet.ite (p := o = .found) (fun _ => h.setMarks (n := n) (p := false) (q := true)
    (u := (c.card n).unclean) marked Bool.noConfusion) fun _ => h
  simp only [Ctl.scanEnd]
  exact modCard (ite (fun _ => told.pushNotice) fun _ => told)

theorem scanBreak {o : ScanOutcome} (h : Quiet e a c) (marked : e.marked) : Quiet e a (c.scanBreak n o) :=
  h.dropScanSlab.scanEnd marked

theorem nextChunk (h : Quiet e a c) : Quiet e a (c.nextChunk n) := raise h.modCard

theorem scanReadEnd {k : Flight} {o : TxnOutcome} (h : Quiet e a c) (marked : e.marked) :
    Quiet e a (c.scanReadEnd n k o) := by
  refine .ite (fun _ => h.closeAttempts.scanBreak marked) fun _ => ?_
  split
  · exact h.closeAttempts.modSlab.modCard
  · exact .ite (fun _ => h.ladderStep) fun _ => h.closeAttempts.dropScanSlab.scanEnd marked
  · exact h.closeAttempts.dropScanSlab.scanEnd marked

theorem examinationEnd {i : Option Nat} (h : Quiet e a c) (marked : e.marked) :
    Quiet e a (c.examinationEnd n i) := by
  unfold Ctl.examinationEnd
  split
  · exact h.modCard.dropScanSlab.scanEnd marked
  · exact .ite (fun _ => h.modCard.dropScanSlab.nextChunk) fun _ => h.modCard.dropScanSlab.scanEnd marked

theorem examinePart {m : List Host.Cell} (h : Quiet e a c) : Quiet e a (Ctl.examinePart m c n) := by
  simp only [Ctl.examinePart]
  split
  · exact modCard (h.same (t := { c with freeDraws := c.freeDraws + 1 }) rfl rfl)
  · exact h

theorem stopScan {m : List Host.Cell} (h : Quiet e a c) (marked : e.marked) : Quiet e a (Ctl.stopScan m c n) := by
  unfold Ctl.stopScan
  split
  · exact h
  · exact h
  · exact h.setWait.scanBreak marked
  · exact h.modCard
  · exact h.examinePart.scanBreak marked

/-- A port that enters another state has its lamp worked out again (R111). -/
theorem cardIdentifying (h : Quiet e a c) (marked : e.marked) : Quiet e a (c.cardIdentifying n) :=
  workedOut (notifyPort (cardIdentify (h.dark.changePort marked (.inr rfl) fun hc => hc)))

end

end Ctl.Quiet

end Sys2Proof.Machine

namespace Sys2Proof.Machine

/-! ## What settles (R8, R107) -/

/-- The four conditions of clearance hold of port n and its job (R107). -/
def Ctl.ConditionsMet (c : Ctl) (n : CardNo) : Prop :=
  (c.job n).endReason = .complete ∧ (c.job n).clean = true
    ∧ ((c.card n).state = .ready ∧ (c.card n).serial = (c.job n).serial) ∧ (c.card n).residue = false

/-- The job of port n is ENDED, and its clearance has been evaluated (R107). -/
structure Ctl.Assessed (c : Ctl) (n : CardNo) : Prop where
  ended : (c.job n).state = .ended
  met : c.ConditionsMet n → (c.card n).cleared = true ∧ (c.card n).unclean = false
  unmet : ¬c.ConditionsMet n → (c.card n).cleared = false ∧ (c.card n).unclean = true

/-- From c to t port n is settled: an ENDED job stays as it is, with the record of its port, and one that enters ENDED is
assessed. -/
structure Ctl.SettledAt (c t : Ctl) (n : CardNo) : Prop where
  still : (c.job n).state = .ended → t.job n = c.job n ∧ (t.card n).record = (c.card n).record
  enters : (c.job n).state ≠ .ended →
    (t.job n).state ≠ .ended ∧ ((t.card n).cleared = true → (c.card n).cleared = true) ∨ t.Assessed n
  lamp : c.LampRight n → t.LampRight n

/-- Every port is settled. -/
def Ctl.Settled (c t : Ctl) : Prop := ∀ n, c.SettledAt t n

section
variable {c t u : Ctl} {n : CardNo}

theorem Ctl.clearable_iff : c.clearable n = true ↔ c.ConditionsMet n := by
  simp [Ctl.clearable, Ctl.ConditionsMet, and_assoc]

theorem Ctl.conditionsMet_of_record {p : CardPort} (hp : (c.card n).record = p.record) :
    c.ConditionsMet n ↔ (c.job n).endReason = .complete ∧ (c.job n).clean = true
      ∧ (p.state = .ready ∧ p.serial = (c.job n).serial) ∧ p.residue = false := by
  obtain ⟨state, serial, -, residue, -⟩ := CardPort.record_fields hp
  rw [Ctl.ConditionsMet, state, serial, residue]

theorem Ctl.Assessed.of_same (h : c.Assessed n) (job : t.job n = c.job n) (card : (t.card n).record = (c.card n).record) :
    t.Assessed n := by
  have same : t.ConditionsMet n ↔ c.ConditionsMet n := by
    rw [Ctl.conditionsMet_of_record card, job]
    rfl
  obtain ⟨-, -, cleared, -, unclean, -⟩ := CardPort.record_fields card
  refine ⟨job ▸ h.ended, fun met => ?_, fun unmet => ?_⟩ <;> rw [cleared, unclean]
  · exact h.met (same.1 met)
  · exact h.unmet (mt same.2 unmet)

theorem Ctl.SettledAt.refl (c : Ctl) (n : CardNo) : c.SettledAt c n := ⟨fun _ => ⟨rfl, rfl⟩, fun h => .inl ⟨h, id⟩, id⟩

theorem Ctl.SettledAt.trans (h : c.SettledAt t n) (g : t.SettledAt u n) : c.SettledAt u n := by
  refine ⟨fun ended => ?_, fun going => ?_, fun right => g.lamp (h.lamp right)⟩
  · obtain ⟨job, card⟩ := h.still ended
    obtain ⟨job', card'⟩ := g.still (job ▸ ended)
    exact ⟨job'.trans job, card'.trans card⟩
  · obtain ⟨going', cleared⟩ | assessed := h.enters going
    · exact (g.enters going').imp_left fun ⟨going'', cleared'⟩ => ⟨going'', cleared ∘ cleared'⟩
    · obtain ⟨job, card⟩ := g.still assessed.ended
      exact .inr (assessed.of_same job card)

theorem Ctl.Settled.refl (c : Ctl) : c.Settled c := fun n => .refl c n

theorem Ctl.Settled.trans (h : c.Settled t) (g : t.Settled u) : c.Settled u := fun n => (h n).trans (g n)

/-- Of a port whose job and card do not change nothing is to settle. -/
theorem Ctl.SettledAt.of_same (job : t.job n = c.job n) (card : t.card n = c.card n) : c.SettledAt t n :=
  ⟨fun _ => ⟨job, by rw [card]⟩, fun going => .inl ⟨job ▸ going, fun h => card ▸ h⟩,
    fun right => right.of_face (by rw [card]) (by rw [job])⟩

/-- What is quiet, and keeps the records of ENDED jobs, settles. -/
theorem Ctl.Quiet.settledAt (h : c.Quiet .none t) (still : (c.job n).state = .ended → t.job n = c.job n) :
    c.SettledAt t n :=
  ⟨fun ended => ⟨still ended, h.record id n⟩, fun going => .inl ⟨mt (h.ended n).1 going, h.cleared n⟩, h.lamp n id⟩

/-! ### The end of a job -/

/-- Clearance sets the cleared flag and the unclean-end mark by the four conditions, and leaves the rest of the port but its
lamp. -/
theorem Ctl.evaluateClearance_card (c : Ctl) (n : CardNo) :
    { c.card n with cleared := c.clearable n, unclean := !c.clearable n }.SameButLamp ((c.evaluateClearance n).card n) := by
  simp only [Ctl.evaluateClearance]
  split
  · next met =>
    rw [met]
    exact Ctl.setMarks_card c n true (c.card n).residue false
  · next unmet =>
    rw [Bool.eq_false_iff.2 unmet]
    exact Ctl.setMarks_card c n false (c.card n).residue true

/-- A job that enters ENDED is assessed (R107, R106). -/
theorem Ctl.endJob_assessed (c : Ctl) (n : CardNo) (r : EndReason) : (c.endJob n r).Assessed n := by
  let k := (c.modJob n fun j => j.endedBy r).dropWaitUnlessRunning n
  have split : c.endJob n r = ((k.evaluateClearance n).lampUpdate n).notifyJob n := rfl
  have card : ((c.endJob n r).card n).record = { k.card n with cleared := k.clearable n, unclean := !k.clearable n }.record := by
    rw [split, Ctl.card_of_cards (Ctl.notifyJob_cards _ _), (Ctl.lampUpdate_card _ n).record,
      (k.evaluateClearance_card n).record]
  have job : (c.endJob n r).job n = k.job n := by
    rw [split]
    exact Ctl.job_of_jobs (by simp) n
  have met : (c.endJob n r).ConditionsMet n ↔ k.clearable n = true := by
    rw [Ctl.clearable_iff, Ctl.conditionsMet_of_record card, job]
    rfl
  obtain ⟨-, -, cleared, -, unclean, -⟩ := CardPort.record_fields card
  refine ⟨by rw [Ctl.endJob_job]; rfl, fun h => ?_, fun h => ?_⟩
  · rw [cleared, unclean, met.1 h]
    exact ⟨rfl, rfl⟩
  · rw [cleared, unclean, Bool.eq_false_iff.2 (mt met.2 h)]
    exact ⟨rfl, rfl⟩

theorem Ctl.endJob_right (c : Ctl) (n : CardNo) (r : EndReason) : (c.endJob n r).LampRight n := by
  rw [Ctl.endJob]
  exact (Ctl.lampUpdate_right _ n).of_face (by rw [Ctl.card_of_cards (Ctl.notifyJob_cards _ _)])
    (by rw [Ctl.job_of_jobs (Ctl.notifyJob_jobs _ _)])

/-- The end of a job that has not ended settles every port. -/
theorem Ctl.endJob_settled (going : (c.job n).state ≠ .ended) (r : EndReason) : c.Settled (c.endJob n r) := by
  intro m
  by_cases same : m = n
  · subst same
    exact ⟨fun ended => (going ended).elim, fun _ => .inr (c.endJob_assessed m r), fun _ => c.endJob_right m r⟩
  · exact .of_same (c.endJob_job_ne r same) (c.endJob_card_ne r same)

/-! ### The settling of a job -/

/-- A job that settles ends after what is quiet, or is quiet altogether. -/
theorem Ctl.settle_ends_or_quiet (c : Ctl) (n : CardNo) :
    c.Quiet .none (c.settle n)
      ∨ ∃ u r, c.Quiet .none u ∧ (u.job n).state ≠ .ended ∧ c.settle n = u.endJob n r := by
  have dropped : c.Quiet .none (c.dropStaleWait n) := (Quiet.refl c).dropStaleWait
  simp only [Ctl.settle]
  split
  · next run =>
    split
    · exact .inr ⟨_, _, dropped, by rw [run]; exact JobState.noConfusion, rfl⟩
    · exact .inl dropped.raiseSource
  · next held =>
    split
    · exact .inr ⟨_, _, dropped, by rw [held]; exact JobState.noConfusion, rfl⟩
    · exact .inl dropped
  · next suspending =>
    refine .inl (.ite (fun _ => dropped.changeState ?_ JobState.noConfusion) fun _ => dropped)
    rw [suspending]
    exact JobState.noConfusion
  · next stopping =>
    split
    · have drained := (Quiet.refl (e := .none) (c.dropStaleWait n)).drainedStop (n := n)
      rw [Ctl.drainStop_eq]
      split
      · refine .inr ⟨_, _, dropped.trans drained, mt (drained.ended n).1 ?_, rfl⟩
        rw [stopping]
        exact JobState.noConfusion
      · exact .inl (dropped.trans drained)
    · exact .inl dropped
  · exact .inl dropped

/-- An ENDED job does not settle any further, whichever job does. -/
theorem Ctl.settle_job_ended {m : CardNo} (ended : (c.job m).state = .ended) : (c.settle n).job m = c.job m := by
  by_cases same : m = n
  · subst same
    rw [Ctl.settle_still (by simp [ended]), Ctl.dropStaleWait_job]
  · exact ((c.settle_job n).2.1 m same).1

/-- A job that settles leaves every port settled. -/
theorem Ctl.settle_settled (c : Ctl) (n : CardNo) : c.Settled (c.settle n) := by
  obtain quiet | ⟨u, r, quiet, going, ends⟩ := c.settle_ends_or_quiet n
  · exact fun m => quiet.settledAt fun ended => Ctl.settle_job_ended ended
  · intro m
    have last := Ctl.endJob_settled going r m
    rw [← ends] at last
    refine (quiet.settledAt fun ended => ?_).trans last
    have kept := (last.still ((quiet.ended m).2 ended)).1
    exact kept.symm.trans (Ctl.settle_job_ended ended)

theorem Ctl.settleAll_settled (c : Ctl) : c.Settled (eachJob Ctl.settle c) :=
  eachJob_keeps (P := c.Settled) (.refl c) fun t m h => h.trans (t.settle_settled m)

end

end Sys2Proof.Machine

namespace Sys2Proof.Machine

/-! ## What an event makes of marks and lamps -/

/-- From a to t, after what is quiet but for records of ports, jobs settle. -/
def Ctl.Closes (a t : Ctl) : Prop := ∃ u, a.Quiet .records u ∧ u.Settled t

theorem Ctl.Quiet.closes {a c : Ctl} (h : a.Quiet .records c) : a.Closes c := ⟨c, h, .refl c⟩

theorem Ctl.Quiet.settle {a c : Ctl} {n : CardNo} (h : a.Quiet .records c) : a.Closes (c.settle n) :=
  ⟨c, h, c.settle_settled n⟩

theorem Ctl.Quiet.settleAll {a c : Ctl} (h : a.Quiet .records c) : a.Closes (Machine.eachJob Ctl.settle c) :=
  ⟨c, h, c.settleAll_settled⟩

namespace Ctl.Closes

section
variable {a c t : Ctl} {n : CardNo} {d : DriveNo} {x : SlabNo} {r : FileRef} {f : Flight} {o : TxnOutcome} {cap : Nat}
  {ser : Serial}

theorem ite {p : Prop} [Decidable p] {u : Ctl} (ht : p → Closes a t) (hu : ¬p → Closes a u) :
    Closes a (if p then t else u) := by
  split
  · next h => exact ht h
  · next h => exact hu h

/-- A job whose end condition holds ends (R8). -/
theorem endJob {k : EndReason} (h : a.Quiet .records c) (going : (c.job n).state ≠ .ended) : Closes a (c.endJob n k) :=
  ⟨c, h, Ctl.endJob_settled going k⟩

/-! ### Events at a card port (06) -/

theorem readerEnd {q : Reader} (h : a.Quiet .records c) : Closes a (c.readerEnd n q f o) := by
  refine Quiet.settle (.ite (fun _ => ?_) fun _ => h.closeAttempts.dropReader)
  split
  · have read := (h.closeAttempts (n := n) (k := .success)).modCard (n := n)
      (g := fun p => { p with reader := some { q with next := q.next + f.count } })
    exact .ite (fun _ => read.issueSpanRead) fun _ => read.spanComplete
  · exact .ite (fun _ => h.ladderStep) fun _ => h.closeAttempts.readFails
  · exact h.closeAttempts.readFails

/-- A port whose state or serial changes, with its lamp still to be worked out. -/
theorem changeDark {g : CardPort → CardPort} (h : a.Quiet .records c)
    (hg : ∀ p, (g p).cleared = p.cleared := by exact fun _ => rfl) :
    a.Quiet (Exempt.records.dark n) (c.modCard n g) :=
  h.dark.changePort trivial (.inr rfl) fun hc => hg _ ▸ hc

theorem cardIdentified (h : a.Quiet .records c) : Closes a (c.cardIdentified n o cap ser) := by
  refine .ite (fun _ => ?_) fun _ => .ite (fun _ => h.modCard.cardIdentify.closes) fun _ => ?_
  · exact (changeDark h).cardReturned.notifyPort.workedOut.settle
  · exact (changeDark h).notifyPort.workedOut.closes

theorem cardTxnEnd (h : a.Quiet .records c) : Closes a (c.cardTxnEnd n f o cap ser) := by
  unfold Ctl.cardTxnEnd
  split
  · exact cardIdentified h
  · split
    · exact readerEnd h
    · exact .ite (fun _ => h.closes) fun _ => (h.scanReadEnd trivial).closes
  · exact h.closes

theorem cardRemoved (h : a.Quiet .records c) : Closes a (c.cardRemoved n) := by
  have waited := h.setWait (n := n) (u := none)
  have abandoned := Quiet.ite (p := (c.card n).link.flight.isSome = true)
    (fun _ => waited.modCard (n := n) (g := fun p => { p with link := p.link.assertReset })) fun _ => waited
  simp only [Ctl.cardRemoved]
  refine Quiet.settle (.ite (fun _ => ?_) fun _ => Quiet.scanBreak ?_ trivial)
  all_goals
    exact ((changeDark abandoned).dropReader.dropScanSlab.setMarks trivial Bool.noConfusion).notifyPort.workedOut.cardGone

theorem cardSample {b : Bool} (h : a.Quiet .records c) : Closes a (c.cardSample n b) := by
  have counted : a.Quiet .records (c.modCard n fun p =>
      if b then { p with highRun := min c.debounce (p.highRun + 1), lowRun := 0 }
      else { p with lowRun := min c.debounce (p.lowRun + 1), highRun := 0 }) := h.modCard (by cases b <;> exact fun _ => rfl)
  simp only [Ctl.cardSample]
  split
  · exact .ite (fun _ => (changeDark counted).notifyPort.workedOut.closes) fun _ => counted.closes
  · exact .ite (fun _ => .ite (fun _ => (counted.cardIdentifying trivial).closes) fun _ => counted.closes) fun _ =>
      .ite (fun _ => cardRemoved counted) fun _ => counted.closes
  all_goals exact .ite (fun _ => cardRemoved counted) fun _ => counted.closes

theorem cardLow {m : List Host.Cell} (h : a.Quiet .records c) : Closes a (Ctl.cardLow m c n) :=
  cardSample (.ite (fun _ => h.examinePart) fun _ => h)

/-! ### Events at a drive port (07) -/

theorem driveGone (h : a.Quiet .records c) : Closes a (c.driveGone d) := (h.eachJob fun _ _ h => h.driveGoneFor).settleAll

theorem driveLost {k : TxnKind} (h : a.Quiet .records c) : Closes a (c.driveLost d k o) :=
  driveGone h.modDrive.dropWork.modDrive.notifyPort

theorem driveAbsent (h : a.Quiet .records c) : Closes a (c.driveAbsent d) := by
  have gone := h.modDrive (d := d) (g := fun p => { p with
    state := .absent, highRun := 0, lowRun := 0, link := if p.link.flight.isSome then p.link.assertReset else p.link })
  have dropped := Quiet.ite (p := ((c.drive d).state == .ready) = true) (fun _ => gone.dropWork (d := d)) fun _ => gone
  have told := (dropped.modDrive (d := d) (g := fun p => { p with capacity := 0, serial := zeroSerial, attempts := 0 })
    ).notifyPort (p := .drive d)
  exact .ite (fun _ => driveGone told) fun _ => told.closes

theorem driveReady (h : a.Quiet .records c) : Closes a (c.driveReady d cap ser) :=
  (h.modDrive.eachJob fun _ _ h => h.driveReturnedFor).requeueWrites.choose.requeueVerifies.pump.notifyPort.settleAll

theorem driveIdentified (h : a.Quiet .records c) : Closes a (c.driveIdentified d o cap ser) :=
  .ite (fun _ => driveReady h) fun _ => .ite (fun _ => h.modDrive.driveIssue.closes) fun _ => h.modDrive.notifyPort.closes

theorem settleOwner {s : Slab} (h : a.Quiet .records c) : Closes a (c.settleOwner s) := by
  unfold Ctl.settleOwner
  split
  · exact h.settle
  · exact h.closes

theorem writeEnd (h : a.Quiet .records c) : Closes a (c.writeEnd d f o) := by
  unfold Ctl.writeEnd
  split
  · exact h.pump.closes
  · split
    · exact .ite (fun _ => h.retry.closes) fun _ => driveLost h
    · exact settleOwner h.modDrive.writeClose.pump

theorem readBackEnd (h : a.Quiet .records c) : Closes a (c.readBackEnd d f o) := by
  refine .ite (fun _ => ?_) fun _ => ?_
  · split
    · exact h.freeVerifySlab.modDrive.pump.settle
    · exact h.freeVerifySlab.modDrive.pump.closes
  · split
    · exact h.pump.closes
    · split
      · exact .ite (fun _ => h.retry.closes) fun _ => driveLost h
      · exact h.modDrive.readBackGood.pump.settle
      · exact h.modDrive.readBackFails.pump.settle
      · exact h.pump.closes

theorem driveTxnEnd (h : a.Quiet .records c) : Closes a (c.driveTxnEnd d f o cap ser) := by
  unfold Ctl.driveTxnEnd
  split
  · exact driveIdentified h
  · exact writeEnd h
  · exact readBackEnd h

theorem driveSample {b : Bool} (h : a.Quiet .records c) : Closes a (c.driveSample d b) := by
  have counted : a.Quiet .records (c.modDrive d fun p =>
      if b then { p with highRun := min c.debounce (p.highRun + 1), lowRun := 0 }
      else { p with lowRun := min c.debounce (p.lowRun + 1), highRun := 0 }) := h.modDrive
  simp only [Ctl.driveSample]
  split
  · exact .ite (fun _ => counted.modDrive.notifyPort.closes) fun _ => counted.closes
  · exact .ite (fun _ => .ite (fun _ => counted.modDrive.driveIssue.notifyPort.closes) fun _ => counted.closes) fun _ =>
      .ite (fun _ => driveAbsent counted) fun _ => counted.closes
  all_goals exact .ite (fun _ => driveAbsent counted) fun _ => counted.closes

/-! ### The links (08) and the digest unit (04) -/

theorem endTxn {p : PortId} (h : a.Quiet .records c) : Closes a (c.endTxn p f o cap ser) := by
  cases p with
  | card n => exact cardTxnEnd h.setLink
  | drive d => exact driveTxnEnd h.setLink

theorem statusRecord {p : PortId} {i j : Byte} {k : Option (BitVec 48 × Serial)} {b : BitVec 16}
    (h : a.Quiet .records c) : Closes a (c.statusRecord p i j k b) := by
  unfold Ctl.statusRecord
  split
  · exact h.closes
  · exact .ite (fun _ => h.closes) fun _ => endTxn h

theorem linkTimeout {p : PortId} (h : a.Quiet .records c) : Closes a (c.linkTimeout p) := by
  unfold Ctl.linkTimeout
  split
  · exact h.closes
  · exact endTxn h

theorem linkResetEnds {p : PortId} (h : a.Quiet .records c) : Closes a (c.linkResetEnds p) := by
  refine .ite (fun _ => ?_) fun _ => h.closes
  cases p with
  | card n => exact .ite (fun _ => h.setLink.cardIdentify.closes) fun _ => h.setLink.closes
  | drive d => exact .ite (fun _ => h.setLink.driveIssue.closes) fun _ => h.setLink.closes

theorem digestFinish {i j : Nat} (h : a.Quiet .records c) : Closes a (c.digestFinish x i j) := by
  simp only [Ctl.digestFinish]
  split
  · exact Quiet.settle (Quiet.testRelease (Quiet.modSlab (.ite (fun _ => h.modDigest) fun _ => h.modDigest.foldSource)))
  · have folded : ∀ {d : DriveNo} {u : Digest → Digest} {b : Bool} {m w : Nat}, a.Quiet .records
        (((if b = true then c.modDigest u else (c.modDigest u).foldVerify d m w i j).freeVerifySlab d).pump d) :=
      Quiet.pump (Quiet.freeVerifySlab (.ite (fun _ => h.modDigest) fun _ => h.modDigest.foldVerify))
    split
    · exact folded.settle
    · exact folded.closes
  · exact h.modDigest.closes

/-! ### The control line (10) -/

theorem faultAtMost (h : a.Quiet .records c) (k : c.FaultAtMost t) : a.Quiet .records t := by
  obtain rfl | ⟨k, rfl⟩ := k
  · exact h
  · exact h.lineFault

theorem afterLeaving {k : OutEntry} (h : a.Quiet .records c) : Closes a (c.afterLeaving k) := by
  unfold Ctl.afterLeaving
  split
  · exact (h.same (t := { c with linkFault := { c.linkFault with count := 0 } }) rfl rfl).closes
  · split
    · exact h.closes
    · exact h.testRetire.settle
  · exact h.closes

/-! ### Requests of jobs (01) -/

theorem startJob (h : a.Quiet .records c) (going : (c.job n).state ≠ .ended) : Closes a (c.startJob n) :=
  (h.changeState going (Job.runOrHold_not_ended _)).promote.settle

theorem evaluateEnd (h : a.Quiet .records c) : Closes a (c.evaluateEnd n) := by
  refine .ite (fun ends => endJob h fun ended => ?_) fun _ => h.closes
  obtain ⟨state, -⟩ := (Ctl.endCondition_iff c n).1 ends
  rw [ended] at state
  simp at state

theorem closeJob (h : a.Quiet .records c) : Closes a (c.closeJob n) :=
  .ite (fun _ => h.closes) fun _ => evaluateEnd h.countJob

theorem suspendJob {m : SuspendMode} (h : a.Quiet .records c) (going : (c.job n).state ≠ .ended) :
    Closes a (c.suspendJob n m) := by
  have suspending := h.changeState (g := fun j => { j with state := .suspending, suspend := (c.job n).modeAfter m })
    going JobState.noConfusion
  refine .ite (fun _ => h.closes) fun _ => Quiet.settle (.ite (fun _ => ?_) fun _ => suspending)
  exact (suspending.eachDrive fun _ _ h => h.promptDrive).pumpAll

theorem resumeHeld (h : a.Quiet .records c) : Closes a (c.resumeHeld n) := by
  unfold Ctl.resumeHeld
  refine Quiet.settle (h.updJob ?_)
  exact Job.releaseIfEmpty_ended _ _

theorem resumeSuspended (h : a.Quiet .records c) (going : (c.job n).state ≠ .ended) : Closes a (c.resumeSuspended n) :=
  (h.changeState going (Job.runOrHold_not_ended _)).pumpAll.promote.settle

theorem stopJob (h : a.Quiet .records c) (going : (c.job n).state ≠ .ended) : Closes a (c.stopJob n) :=
  .ite (fun _ => h.closes) fun _ => (h.enterStopping going).settle

theorem clearJob (h : a.Quiet .records c) (going : (c.job n).state ≠ .ended) : Closes a (c.clearJob n) := by
  simp only [Ctl.clearJob]
  refine (h.changeState going ?_).promote.pumpAll.settle
  split
  · exact JobState.noConfusion
  · exact Job.runOrHold_not_ended _

theorem joinFile {q : FileAddReq} (h : a.Quiet .records c) : a.Quiet .records (c.joinFile n q) := by
  have joined : a.Quiet .records { c with files := c.files ++ [c.newFile n q], nextFile := c.nextFile + 1 } :=
    h.same rfl rfl
  unfold Ctl.joinFile
  exact joined.countJob

/-- The port of an opened job loses its marks, and its lamp is worked out again (R5, R108). -/
theorem openJob {k : OpenReq} (h : a.Quiet .records c) (free : (c.job n).state = .free) : Closes a (c.openJob n k) := by
  have opened : a.Quiet (Exempt.records.dark n) (c.modJob n fun _ => c.openedJob n k) :=
    h.dark.changeJob (.inr rfl) (iff_of_false JobState.noConfusion (by rw [free]; exact JobState.noConfusion))
  exact (opened.setMarks trivial Bool.noConfusion).workedOut.notifyPort.notifyJob.closes

/-! ### LAMP_SET (R113) -/

/-- Under HOST no pattern is asked of a lamp; under AUTO it is worked out again. -/
theorem setLamp {m : Release} {b : Byte} (h : a.Quiet .records c) : a.Quiet .records (c.setLamp n m b) := by
  unfold Ctl.setLamp
  split
  · exact (changeDark h).workedOut
  · have set := changeDark h (n := n) (g := fun p => match pattern? b with
      | some q => ({ p with lampMode := .host }).show q
      | none => { p with lampMode := .host }) fun p => by
        split
        · exact (CardPort.show_sameButLamp _ _).fields.1
        · rfl
    refine set.lit fun auto => ?_
    rw [Ctl.modCard_card] at auto
    split at auto
    · have shown := CardPort.show_sameButLamp { c.card n with lampMode := .host } ‹Pattern›
      obtain ⟨-, -, -, -, -, mode⟩ := CardPort.record_fields shown.record
      rw [mode] at auto
      cases auto
    · cases auto

end

end Ctl.Closes

end Sys2Proof.Machine

namespace Sys2Proof.Machine

/-! ## The lamps and the clearance over a step -/

/-- From c to t job n enters ENDED. -/
def Ctl.EntersEnded (c t : Ctl) (n : CardNo) : Prop := (c.job n).state ≠ .ended ∧ (t.job n).state = .ended

/-- From c to t the clearance of port n is by R107: its flag is set by nothing but an end with the four conditions met, and
an end sets the flag or the unclean-end mark by them. -/
structure Ctl.ClearanceRule (c t : Ctl) (n : CardNo) : Prop where
  sets : (c.card n).cleared = false → (t.card n).cleared = true →
    c.EntersEnded t n ∧ t.ConditionsMet n ∧ (t.card n).unclean = false
  met : c.EntersEnded t n → t.ConditionsMet n → (t.card n).cleared = true ∧ (t.card n).unclean = false
  unmet : c.EntersEnded t n → ¬t.ConditionsMet n → (t.card n).cleared = false ∧ (t.card n).unclean = true

/-- From c to t lamps stay right, and clearance is by the rule. -/
structure Ctl.Lawful (c t : Ctl) : Prop where
  lamps : c.LampsShown → t.LampsShown
  clearance : ∀ n, c.ClearanceRule t n

section
variable {c t u : Ctl} {n : CardNo}

theorem Ctl.Assessed.clearanceRule (h : t.Assessed n) (going : (c.job n).state ≠ .ended) : c.ClearanceRule t n := by
  refine ⟨fun _ set => ?_, fun _ => h.met, fun _ => h.unmet⟩
  by_cases met : t.ConditionsMet n
  · exact ⟨⟨going, h.ended⟩, met, (h.met met).2⟩
  · rw [(h.unmet met).1] at set
    cases set

/-- Where no cleared flag is set and no job enters ENDED, there is nothing for R107 to rule. -/
theorem Ctl.ClearanceRule.of_calm (cleared : (t.card n).cleared = true → (c.card n).cleared = true)
    (ended : (t.job n).state = .ended → (c.job n).state = .ended) : c.ClearanceRule t n := by
  refine ⟨fun unset set => ?_, fun h => (h.1 (ended h.2)).elim, fun h => (h.1 (ended h.2)).elim⟩
  rw [cleared set] at unset
  cases unset

theorem Ctl.Lawful.of_eq (h : c.Lawful t) (cards : u.cards = t.cards) (jobs : u.jobs = t.jobs) : c.Lawful u := by
  have card := Ctl.card_of_cards cards
  have job := Ctl.job_of_jobs jobs
  refine ⟨fun shown m => LampRight.of_face (h.lamps shown m) (by rw [card]) (by rw [job]), fun m => ?_⟩
  obtain ⟨sets, met, unmet⟩ := h.clearance m
  refine ⟨?_, ?_, ?_⟩
  all_goals simpa only [Ctl.EntersEnded, Ctl.ConditionsMet, card, job]

/-- What closes is lawful. -/
theorem Ctl.Closes.lawful (h : c.Closes t) : c.Lawful t := by
  obtain ⟨u, quiet, settled⟩ := h
  refine ⟨fun shown m => (settled m).lamp (quiet.lamp m id (shown m)), fun m => ?_⟩
  obtain ⟨still, enters, -⟩ := settled m
  by_cases ended : (u.job m).state = .ended
  · obtain ⟨job, card⟩ := still ended
    obtain ⟨-, -, cleared, -⟩ := CardPort.record_fields card
    exact .of_calm (fun set => quiet.cleared m (cleared ▸ set)) fun _ => (quiet.ended m).1 ended
  · obtain ⟨going, cleared⟩ | assessed := enters ended
    · exact .of_calm (fun set => quiet.cleared m (cleared set)) fun h => (going h).elim
    · exact assessed.clearanceRule (mt (quiet.ended m).2 ended)

theorem Ctl.Lawful.refl (c : Ctl) : c.Lawful c := (Quiet.refl c).closes.lawful

/-- A record that is freed lets the lamp be worked out again (R31). -/
theorem Ctl.freeJob_lawful (c : Ctl) (n : CardNo) : c.Lawful (c.freeJob n) := by
  let k := (c.recordFreed n).lampUpdate n
  have lawful : c.Lawful k := by
    have others {m : CardNo} (hm : m ≠ n) : k.card m = c.card m ∧ k.job m = c.job m :=
      ⟨Ctl.lampUpdate_card_ne _ hm, (Ctl.job_of_jobs (Ctl.lampUpdate_jobs _ n) m).trans (Ctl.modJob_job_ne _ _ hm)⟩
    refine ⟨fun shown m => ?_, fun m => ?_⟩
    · by_cases same : m = n
      · exact same ▸ Ctl.lampUpdate_right _ n
      · exact LampRight.of_face (shown m) (by rw [(others same).1]) (by rw [(others same).2])
    · by_cases same : m = n
      · subst same
        have free : (k.job m).state = .free := by
          rw [Ctl.job_of_jobs (Ctl.lampUpdate_jobs _ m), Ctl.recordFreed, Ctl.modJob_job]
          rfl
        have cleared := ((c.recordFreed m).lampUpdate_card m).fields.1
        refine .of_calm (fun set => cleared ▸ set) fun ended => ?_
        rw [free] at ended
        cases ended
      · exact .of_calm (fun set => (others same).1 ▸ set) fun ended => (others same).2 ▸ ended
  rw [Ctl.freeJob_eq]
  exact lawful.of_eq (by simp [k]) (by simp [k])

theorem Ctl.resetValues_right (i j : Nat) (n : CardNo) : (Ctl.resetValues i j).LampRight n := by
  rw [Ctl.LampRight, Ctl.lampAuto, Ctl.resetValues_card]
  exact fun _ => rfl

/-- After a reset all lamps are right, no cleared flag is set and no job is ENDED (R188). -/
theorem Ctl.reset_lawful {i j : Nat} (cards : t.cards = (Ctl.resetValues i j).cards)
    (jobs : t.jobs = (Ctl.resetValues i j).jobs) : c.Lawful t := by
  have card (m : CardNo) := (Ctl.card_of_cards cards m).trans (Ctl.resetValues_card i j m)
  have job (m : CardNo) := (Ctl.job_of_jobs jobs m).trans (Ctl.resetValues_job i j m)
  refine ⟨fun _ m => (Ctl.resetValues_right i j m).of_face (by rw [Ctl.card_of_cards cards])
    (by rw [Ctl.job_of_jobs jobs]), fun m => .of_calm (fun set => ?_) fun ended => ?_⟩
  · rw [card] at set
    cases set
  · rw [job] at ended
    cases ended

end

/-! ### Requests -/

/-- A request that is answered with DONE is lawful. -/
def Ctl.AnswersLawfully (c : Ctl) (a : Answer) : Prop := ∀ t fields, a = .ok (t, fields) → c.Lawful t

namespace Ctl.AnswersLawfully

section
variable {c t : Ctl} {fields : List Byte}

theorem error {r : Reason} : c.AnswersLawfully (.error r) := fun _ _ h => nomatch h

theorem ok (h : c.Lawful t) : c.AnswersLawfully (.ok (t, fields)) := fun _ _ e => by
  cases e
  exact h

theorem closes (h : c.Closes t) : c.AnswersLawfully (.ok (t, fields)) := .ok h.lawful

theorem quiet (h : c.Quiet .records t) : c.AnswersLawfully (.ok (t, fields)) := .closes h.closes

theorem forJob {k : MsgKind} {b : Byte} {act : CardNo → Answer}
    (h : ∀ n, (c.job n).state.takes k = true → c.AnswersLawfully (act n)) : c.AnswersLawfully (c.forJob k b act) := by
  obtain ⟨-, e⟩ | ⟨n, -, ⟨takes, e⟩ | ⟨-, e⟩⟩ := c.forJob_cases k b act <;> rw [e]
  · exact error
  · exact h n takes
  · exact error

theorem jobRequest {k : MsgKind} {act : Ctl → CardNo → Answer} {l : List Byte}
    (h : ∀ n, (c.job n).state.takes k = true → c.AnswersLawfully (act c n)) :
    c.AnswersLawfully (Machine.jobRequest k act l c) := by
  unfold Machine.jobRequest
  split
  · exact forJob h
  · exact error

end

end Ctl.AnswersLawfully

/-- An ENDED job takes JOB_FREE and JOB_QUERY alone (1.3). -/
theorem JobState.not_ended_of_takes {x : JobState} {k : MsgKind} (h : x.takes k = true)
    (hk : k ≠ .jobFree ∧ k ≠ .jobQuery := by decide) : x ≠ .ended := by
  rintro rfl
  simp [JobState.takes, hk] at h

section
variable (l : List Byte) (c : Ctl)

theorem reqJobOpen_lawful : c.AnswersLawfully (reqJobOpen l c) := by
  unfold reqJobOpen
  split
  · split
    · exact .error
    · next h => exact .closes (.openJob (.refl c) (Ctl.free_of_checkOpen h))
  · exact .error

theorem reqFileAdd_lawful : c.AnswersLawfully (reqFileAdd l c) := by
  unfold reqFileAdd
  split
  · exact .error
  · refine .forJob fun n _ => ?_
    unfold Ctl.answerFile
    split
    · exact .error
    · exact .closes (Ctl.Closes.joinFile (.refl c)).promote.settle

theorem reqJobStart_lawful : c.AnswersLawfully (reqJobStart l c) := .jobRequest fun n takes => by
  unfold Ctl.answerStart
  split
  · exact .closes (.startJob (.refl c) (JobState.not_ended_of_takes takes))
  · exact .error

theorem reqJobClose_lawful : c.AnswersLawfully (reqJobClose l c) := .jobRequest fun _ _ => .closes (.closeJob (.refl c))

theorem reqJobSuspend_lawful : c.AnswersLawfully (reqJobSuspend l c) := by
  unfold reqJobSuspend
  split
  · refine .forJob fun n takes => ?_
    split
    · exact .error
    · exact .closes (.suspendJob (.refl c) (JobState.not_ended_of_takes takes))
  · exact .error

theorem reqJobResume_lawful : c.AnswersLawfully (reqJobResume l c) := .jobRequest fun n takes => by
  unfold Ctl.answerResume
  simp only
  split
  · split
    · exact .closes (.resumeHeld (.refl c))
    · exact .error
  · exact .closes (.resumeSuspended (.refl c) (JobState.not_ended_of_takes takes))

theorem reqJobDrop_lawful : c.AnswersLawfully (reqJobDrop l c) := by
  unfold reqJobDrop
  split
  · refine .forJob fun n takes => ?_
    unfold Ctl.answerDrop
    split
    · exact .error
    · exact .closes (.ite (fun _ => ((Ctl.Quiet.refl c).dropDest (JobState.not_ended_of_takes takes)).settle) fun _ =>
        (Ctl.Quiet.refl c).closes)
  · exact .error

theorem reqJobStop_lawful : c.AnswersLawfully (reqJobStop l c) := .jobRequest fun _ takes =>
  .closes (.stopJob (.refl c) (JobState.not_ended_of_takes takes))

theorem reqJobClear_lawful : c.AnswersLawfully (reqJobClear l c) := .jobRequest fun n takes => by
  unfold Ctl.answerClear
  split
  · exact .error
  · exact .closes (.clearJob (.refl c) (JobState.not_ended_of_takes takes))

theorem reqJobFree_lawful : c.AnswersLawfully (reqJobFree l c) := .jobRequest fun n _ => .ok (c.freeJob_lawful n)

theorem reqJobQuery_lawful : c.AnswersLawfully (reqJobQuery l c) := .jobRequest fun _ _ => .ok (.refl c)

theorem reqIdent_lawful : c.AnswersLawfully (reqIdent l c) := by
  unfold reqIdent
  split
  · exact .ok (.refl c)
  · exact .error

theorem reqPartReset_lawful : c.AnswersLawfully (reqPartReset l c) := by
  unfold reqPartReset
  split
  · exact .ok (.refl c)
  · exact .error

theorem reqNoticeSet_lawful : c.AnswersLawfully (reqNoticeSet l c) := by
  unfold reqNoticeSet
  split
  · exact .error
  · split
    · exact .error
    · exact .quiet ((Ctl.Quiet.refl c).same rfl rfl)

theorem reqPortQuery_lawful : c.AnswersLawfully (reqPortQuery l c) := by
  unfold reqPortQuery
  split
  · split
    · exact .error
    · exact .ok (.refl c)
  · exact .error

theorem reqLampSet_lawful : c.AnswersLawfully (reqLampSet l c) := by
  unfold reqLampSet
  split
  · split
    · exact .quiet (Ctl.Closes.setLamp (.refl c))
    · exact .error
  · exact .error

theorem reqScanStart_lawful : c.AnswersLawfully (reqScanStart l c) := by
  unfold reqScanStart
  split
  · unfold Ctl.answerScan
    split
    · split
      · exact .error
      · split
        · exact .error
        · exact .quiet (Ctl.Quiet.refl c).modCard.nextChunk
    · exact .error
  · exact .error

theorem reqScanStop_lawful (m : List Host.Cell) : c.AnswersLawfully (reqScanStop m l c) := by
  unfold reqScanStop
  split
  · split
    · exact .error
    · exact .quiet ((Ctl.Quiet.refl c).stopScan trivial)
  · exact .error

end

/-! ### Commands -/

section
variable (s : State)

theorem State.answer_lawful {f : RxFrame} {a : Answer} (h : s.ctl.AnswersLawfully a) :
    s.ctl.Lawful (s.answer f a).ctl := by
  match a with
  | .ok (t, fields) => exact (h t fields rfl).of_eq rfl rfl
  | .error _ => exact (Ctl.Lawful.refl s.ctl).of_eq rfl rfl

theorem State.request_lawful {k : MsgKind} {act : List Byte → Ctl → Answer}
    (h : ∀ l, s.ctl.AnswersLawfully (act l s.ctl)) : s.ctl.Lawful (s.request k act).ctl := by
  obtain ⟨f, -, e⟩ | e := s.request_cases k act <;> rw [e]
  · exact s.answer_lawful (h f.payload)
  · exact .refl _

theorem State.run_lawful {f : State → State} (h : s.ctl.Lawful (f s).ctl) : s.ctl.Lawful (s.run f).ctl := by
  unfold State.run
  split
  · exact .refl _
  · exact h

theorem State.runCtl_lawful {f : Ctl → Ctl} (h : s.ctl.Closes (f s.ctl)) : s.ctl.Lawful (s.runCtl f).ctl :=
  s.run_lawful h.lawful

theorem State.ite_lawful {p : Prop} [Decidable p] {t : State} (h : s.ctl.Lawful t.ctl) :
    s.ctl.Lawful (if p then t else s).ctl := by
  split
  · exact h
  · exact .refl _

theorem State.stays_lawful {p : Prop} [Decidable p] {t : State} (h : s.ctl.Lawful t.ctl) :
    s.ctl.Lawful (if p then s else t).ctl := by
  split
  · exact .refl _
  · exact h

theorem State.rxBytes_quiet {a : Ctl} (bytes : List RxByte) (h : a.Quiet .records s.ctl) :
    a.Quiet .records (bytes.foldl State.rxByte s).ctl := by
  induction bytes generalizing s with
  | nil => exact h
  | cons b bytes ih => exact ih _ (Ctl.Closes.faultAtMost h (s.rxByte_ctl b))

theorem State.transmit_lawful : s.ctl.Lawful s.transmit.ctl := by
  unfold State.transmit
  split
  · next e rest _ _ =>
    have left : s.ctl.Quiet .records (s.ctl.setOutq rest) := (Ctl.Quiet.refl s.ctl).same rfl rfl
    exact (Ctl.Closes.afterLeaving left).lawful
  · exact .refl _

theorem State.dataBlock_quiet {p : PortId} {q : Byte} {l : List Byte} {k : BitVec 16} :
    s.ctl.Quiet .records (s.dataBlock p q l k).ctl := by
  unfold State.dataBlock
  split
  · exact .refl _
  · simp only
    split
    · exact .refl _
    · split
      · simp only [State.placeBlock_ctl]
        exact (Ctl.Quiet.refl _).setLink
      · exact (Ctl.Quiet.refl _).setLink

theorem State.beginReset_lawful {c : Ctl} (r : ResetCtl) : c.Lawful (s.beginReset r).ctl :=
  Ctl.reset_lawful (i := s.ctl.rateCode) (j := s.ctl.debounce) rfl rfl

theorem State.release_lawful (r : ResetCtl) (p : StrapPins) : s.ctl.Lawful (s.release r p).ctl := by
  unfold State.release
  simp only
  split
  · exact .refl _
  · exact Ctl.reset_lawful (i := strapRate p) (j := strapDebounce p) rfl rfl

theorem State.sent_lawful : s.ctl.Lawful s.sent.ctl := by
  unfold State.sent
  split
  · exact .refl _
  · split
    · exact s.beginReset_lawful _
    · exact .refl _

end

theorem Ctl.Lawful.of_next {c : Ctl} {u t : State}
    (h : (Host.Outcome.next u : Host.Outcome State Fault Refusal) = .next t) (e : c.Lawful u.ctl) : c.Lawful t.ctl := by
  cases h
  exact e

section
open Ctl.Closes

/-- Every command keeps the lamps right and clears by the rule. -/
theorem exec_lawful {i : Instr} {s t : State} (h : exec i s = .next t) : s.ctl.Lawful t.ctl := by
  have start : s.ctl.Quiet .records s.ctl := .refl _
  cases i <;> refine .of_next h ?_
  -- the line
  case frameReceived bytes => exact s.run_lawful (s.rxBytes_quiet bytes start).closes.lawful
  case receiveGapTimeout => exact s.run_lawful (s.stays_lawful start.lineFault.closes.lawful)
  case transmitStart => exact s.run_lawful s.transmit_lawful
  case frameSent => exact s.run_lawful s.sent_lawful
  -- requests
  case badKindRequest =>
    split
    · exact s.stays_lawful (s.answer_lawful .error)
    · exact .refl _
  case partReset =>
    split
    · exact s.ite_lawful (s.answer_lawful (reqPartReset_lawful _ _))
    · exact .refl _
  case ident => exact s.request_lawful fun l => reqIdent_lawful l _
  case noticeSet => exact s.request_lawful fun l => reqNoticeSet_lawful l _
  case portQuery => exact s.request_lawful fun l => reqPortQuery_lawful l _
  case lampSet => exact s.request_lawful fun l => reqLampSet_lawful l _
  case jobOpen => exact s.request_lawful fun l => reqJobOpen_lawful l _
  case jobStart => exact s.request_lawful fun l => reqJobStart_lawful l _
  case fileAdd => exact s.request_lawful fun l => reqFileAdd_lawful l _
  case jobClose => exact s.request_lawful fun l => reqJobClose_lawful l _
  case jobSuspend => exact s.request_lawful fun l => reqJobSuspend_lawful l _
  case jobResume => exact s.request_lawful fun l => reqJobResume_lawful l _
  case jobDrop => exact s.request_lawful fun l => reqJobDrop_lawful l _
  case jobStop => exact s.request_lawful fun l => reqJobStop_lawful l _
  case jobClear => exact s.request_lawful fun l => reqJobClear_lawful l _
  case jobFree => exact s.request_lawful fun l => reqJobFree_lawful l _
  case jobQuery => exact s.request_lawful fun l => reqJobQuery_lawful l _
  case scanStart => exact s.request_lawful fun l => reqScanStart_lawful l _
  case scanStop => exact s.request_lawful fun l => reqScanStop_lawful l _ _
  -- resets
  case partResetTimerExpiry straps => exact s.ite_lawful (s.release_lawful _ _)
  case resetPinAssert => exact s.stays_lawful (s.beginReset_lawful _)
  case resetPinRelease straps => exact s.ite_lawful (s.release_lawful _ _)
  case supplyFail => exact s.stays_lawful (s.beginReset_lawful _)
  case supplyValid straps => exact s.ite_lawful (s.release_lawful _ _)
  -- links
  case linkResetExpiry port => exact s.runCtl_lawful (linkResetEnds start)
  case dataBlockReceived port seq data check => exact s.run_lawful s.dataBlock_quiet.closes.lawful
  case statusRecordReceived port seq code identity check => exact s.runCtl_lawful (statusRecord start)
  case linkTimeout port => exact s.runCtl_lawful (linkTimeout start)
  -- samples of PRESENT
  case cardInsertionBegin n => exact s.runCtl_lawful (.ite (fun _ => cardSample start) fun _ => start.closes)
  case cardSettled n => exact s.runCtl_lawful (.ite (fun _ => cardSample start) fun _ => start.closes)
  case cardRemoval n => exact s.runCtl_lawful (.ite (fun _ => cardLow start) fun _ => start.closes)
  case driveAttachBegin d => exact s.runCtl_lawful (.ite (fun _ => driveSample start) fun _ => start.closes)
  case driveSettled d => exact s.runCtl_lawful (.ite (fun _ => driveSample start) fun _ => start.closes)
  case driveAbsence d => exact s.runCtl_lawful (.ite (fun _ => driveSample start) fun _ => start.closes)
  case presentSample port high =>
    refine s.runCtl_lawful ?_
    cases port with
    | card n => exact .ite (fun _ => cardSample start) fun _ => cardLow start
    | drive d => exact driveSample start
  -- the units
  case digestStart => exact s.runCtl_lawful start.digestBegin.closes
  case digestComputationEnd =>
    refine s.runCtl_lawful ?_
    split
    · exact start.closes
    · exact digestFinish start
  case blankCheckEnd n =>
    refine s.runCtl_lawful ?_
    split
    · exact (start.examinationEnd trivial).closes
    · exact start.closes
  case lampBlinkToggle n =>
    refine s.runCtl_lawful (start.modCard fun p => ?_).closes
    unfold CardPort.toggle
    split <;> rfl

end

theorem step_lawful {s t : State} (h : step s = .next t) : s.ctl.Lawful t.ctl := by
  unfold step at h
  split at h
  · cases h
    exact .refl _
  · next c rest _ => exact exec_lawful (s := { s with pending := rest }) h

/-- Settles O11: what every command makes of marks and jobs is quiet, and then jobs settle by the rule of clearance. -/
theorem clearedOnlyAtACompleteEnd : Obligations.ClearedOnlyAtACompleteEnd := by
  intro s t n h
  obtain ⟨sets, met, unmet⟩ := (step_lawful h).clearance n
  exact ⟨sets, met, unmet⟩

/-! ## The lamps (R111, R112) -/

section
variable {c : Ctl} {n : CardNo}

/-- R111's table, first row: no card. -/
theorem Ctl.lampAuto_off (h : (c.card n).state = .empty ∨ (c.card n).state = .settling) : c.lampAuto n = .off := if_pos h

/-- The rows after the first, for a port that has a card. -/
theorem Ctl.lampAuto_card (empty : (c.card n).state ≠ .empty) (settling : (c.card n).state ≠ .settling) :
    c.lampAuto n =
      if (c.card n).cleared then .green
      else if (c.card n).state = .error ∨ (c.job n).state = .held ∨ (c.job n).state = .faulted ∨ (c.card n).unclean
        ∨ (c.card n).residue then .red
      else if (c.job n).state = .running ∨ (c.job n).state = .suspending ∨ (c.job n).state = .stopping then .amberBlink
      else .amber := by
  rw [Ctl.lampAuto, if_neg (not_or.2 ⟨empty, settling⟩)]

theorem Pattern.blinks_iff {q : Pattern} : q.blinks = true ↔ q = .amberBlink ∨ q = .redBlink := by
  cases q <;> simp [Pattern.blinks]

theorem CardPort.toggle_blinking {p : CardPort} (h : p.pattern = .amberBlink ∨ p.pattern = .redBlink) :
    p.toggle = { p with lit := !p.lit } := if_pos (Pattern.blinks_iff.2 h)

theorem CardPort.toggle_steady {p : CardPort} (amber : p.pattern ≠ .amberBlink) (red : p.pattern ≠ .redBlink) :
    p.toggle = p := if_neg (mt Pattern.blinks_iff.1 (not_or.2 ⟨amber, red⟩))

/-- LAMP_BLINK_TOGGLE changes one port alone (R112). -/
theorem exec_lampBlinkToggle {s : State} (running : s.inReset = false) :
    exec (.lampBlinkToggle n) s = .next { s with ctl := s.ctl.modCard n CardPort.toggle } := by
  rw [← s.runCtl_of_running (fun c => c.modCard n CardPort.toggle) running]
  rfl

end

/-- A port that is put back as it was leaves the state. -/
theorem Ctl.modCard_same {c : Ctl} {n : CardNo} {g : CardPort → CardPort} (h : g (c.card n) = c.card n) :
    c.modCard n g = c := by
  rw [Ctl.modCard, h, Ctl.card]
  congr 1
  exact Vector.set_getElem_self _

/-- Settles O31: the lamps over a step, the table row by row, and the toggle. -/
theorem lampsFollowTheTableAndBlink : Obligations.LampsFollowTheTableAndBlink := by
  refine ⟨fun s t shown h => (step_lawful h).lamps shown, fun n => ?_, fun c n => ?_, fun s n running => ?_⟩
  · exact (Ctl.resetValues_right 0 6 n).of_face rfl rfl
  · refine ⟨Ctl.lampAuto_off, fun empty settling => ?_⟩
    rw [Ctl.lampAuto_card empty settling]
    refine ⟨fun cleared => if_pos cleared, fun uncleared =>
      ⟨fun red => ?_, fun ready clean blank => ⟨fun busy => ?_, fun idle => ?_⟩⟩⟩
    · rw [if_neg (by simp [uncleared]), if_pos red]
    · rw [if_neg (by simp [uncleared]), if_neg ?_, if_pos busy]
      obtain job | job | job := busy <;> simp [ready, clean, blank, job]
    · rw [if_neg (by simp [uncleared]), if_neg ?_, if_neg ?_]
      all_goals obtain job | job | job | job := idle <;> simp [ready, clean, blank, job]
  · refine ⟨fun blinks => ?_, fun amber red => ?_⟩ <;> rw [exec_lampBlinkToggle running]
    · rw [Ctl.modCard, CardPort.toggle_blinking blinks]
    · rw [Ctl.modCard_same (CardPort.toggle_steady amber red)]

end Sys2Proof.Machine

namespace Sys2Proof.Machine

/-! ## LAMP_SET (R113, R112) -/

section
variable {s : State} {f : RxFrame} {port mode pat : Byte} {n : CardNo} {m : Release}

theorem CardPort.show_eq (p : CardPort) (q : Pattern) :
    p.show q = { p with pattern := q, lit := if q = p.pattern then p.lit else true } := by
  unfold CardPort.show
  by_cases same : p.pattern = q
  · subst same
    simp
  · rw [if_neg same, if_neg (Ne.symm same)]

theorem release_of_lt (h : 1 < mode.toNat) : release? mode = none := by
  have auto : mode ≠ 0 := by rintro rfl; simp at h
  have host : mode ≠ 1 := by rintro rfl; simp at h
  rw [release?, if_neg auto, if_neg host]

theorem pattern_of_code (q : Pattern) : pattern? q.code = some q := by cases q <;> rfl

theorem pattern_of_lt (h : 5 < pat.toNat) : pattern? pat = none := by
  have other (k : Byte) (hk : k.toNat ≤ 5) : pat ≠ k := by
    rintro rfl
    omega
  simp only [pattern?, if_neg (other 0 (by decide)), if_neg (other 1 (by decide)), if_neg (other 2 (by decide)),
    if_neg (other 3 (by decide)), if_neg (other 4 (by decide)), if_neg (other 5 (by decide))]

/-- A LAMP_SET that is taken answers what it parses to. -/
theorem exec_lampSet (taken : s.Takes .lampSet f) (payload : f.payload = [port, mode, pat]) :
    exec .lampSet s = .next (s.answer f (reqLampSet [port, mode, pat] s.ctl)) := by
  rw [exec_of_takes rfl taken, payload]

/-- A port number above 7 or a mode above 1 is refused (R113). -/
theorem reqLampSet_badField (h : 7 < port.toNat ∨ 1 < mode.toNat) (c : Ctl) :
    reqLampSet [port, mode, pat] c = .error .badField := by
  simp only [reqLampSet]
  split
  · next hn hm =>
    obtain h | h := h
    · rw [cardNo_of_lt h] at hn
      cases hn
    · rw [release_of_lt h] at hm
      cases hm
  · rfl

/-- A LAMP_SET of a port and a mode sets the lamp and tells its mode and pattern (R113). -/
theorem reqLampSet_sets (hn : port.toNat = n.val) (hm : release? mode = some m) (c : Ctl) :
    reqLampSet [port, mode, pat] c =
      .ok (c.setLamp n m pat, [m.code, ((c.setLamp n m pat).card n).pattern.code]) := by
  simp only [reqLampSet, cardNo_of_toNat hn, hm]

/-- Under AUTO the lamp shows the pattern of R111's table. -/
theorem Ctl.setLamp_auto (c : Ctl) (n : CardNo) (pat : Byte) :
    c.setLamp n .auto pat = c.modCard n fun p => { p with
      lampMode := .auto, pattern := c.lampAuto n, lit := if c.lampAuto n = p.pattern then p.lit else true } := by
  have table : (c.modCard n fun p => { p with lampMode := .auto }).lampAuto n = c.lampAuto n := by
    unfold Ctl.lampAuto
    rw [Ctl.modCard_card]
    rfl
  rw [Ctl.setLamp, Ctl.lampUpdate, if_pos (by rw [Ctl.modCard_card]), table, Ctl.modCard_modCard]
  exact congrArg (c.modCard n) (funext fun p => CardPort.show_eq _ _)

/-- Under HOST the lamp shows the pattern that is set. -/
theorem Ctl.setLamp_host (c : Ctl) (n : CardNo) (q : Pattern) :
    c.setLamp n .host q.code = c.modCard n fun p => { p with
      lampMode := .host, pattern := q, lit := if q = p.pattern then p.lit else true } := by
  simp only [Ctl.setLamp, pattern_of_code, CardPort.show_eq]

/-- Under HOST a value that names no pattern leaves the pattern shown. -/
theorem Ctl.setLamp_keep (h : 5 < pat.toNat) (c : Ctl) (n : CardNo) :
    c.setLamp n .host pat = c.modCard n fun p => { p with lampMode := .host } := by
  simp only [Ctl.setLamp, pattern_of_lt h]

/-- The state with the port that a LAMP_SET leaves, and the reply behind it. -/
theorem State.answer_setLamp {g : CardPort → CardPort} (set : s.ctl.setLamp n m pat = s.ctl.modCard n g) :
    s.answer f (.ok (s.ctl.setLamp n m pat, [m.code, ((s.ctl.setLamp n m pat).card n).pattern.code])) =
      ({ s with ctl := { s.ctl with cards := s.ctl.cards.set n (g (s.ctl.card n)) } } : State).doneOnly f
        [m.code, (g (s.ctl.card n)).pattern.code] := by
  rw [set, Ctl.modCard_card]
  rfl

end

/-- Settles O30: a LAMP_SET that names no port or mode is refused; the others set the port by their mode. -/
theorem lampSetSetsModeAndPattern : Obligations.LampSetSetsModeAndPattern := by
  intro s f port mode pat taken payload
  rw [exec_lampSet taken payload]
  refine ⟨fun bad => by rw [reqLampSet_badField bad, State.answer_error], fun n hn => ⟨?_, ?_, ?_⟩⟩
  · rintro rfl
    rw [reqLampSet_sets hn rfl, State.answer_setLamp (s.ctl.setLamp_auto n pat)]
    rfl
  · rintro q rfl rfl
    rw [reqLampSet_sets hn rfl, State.answer_setLamp (s.ctl.setLamp_host n q)]
    rfl
  · rintro rfl high
    rw [reqLampSet_sets hn rfl, State.answer_setLamp (Ctl.setLamp_keep high s.ctl n)]
    rfl

end Sys2Proof.Machine

namespace Sys2Proof.Machine

/-! ## The comparison, the outcome and the test for completion (R104, R54, R53) -/

section
variable {c : Ctl} {f : FileRec} {as bs : List FileRec}

/-- A destination entry after the comparison with accumulator acc of a GOOD source (R104). -/
def FileDest.compared (e : FileDest) (acc : Acc) : FileDest :=
  if e.result = .written ∧ e.stored = true then
    { e with result := if e.verA = acc.a ∧ e.verB = acc.b then .verified else .mismatch }
  else e

/-- The comparison of a GOOD file is the comparison of each of its entries. -/
theorem FileRec.compare_good (good : f.result = .good) :
    f.compare = { f with dests := f.dests.map fun e => e.compared f.acc } := by
  rw [FileRec.compare, if_pos good]
  simp only [FileDest.compared, eq_comm (a := f.acc.a), eq_comm (a := f.acc.b)]

/-- All results are final when none is PENDING and a WRITTEN copy is not to be read back (R53, 2.6). -/
theorem FileRec.allFinal_iff (f : FileRec) (v : VerifyMode) :
    f.allFinal v = true ↔
      f.result ≠ .pending ∧ ∀ e ∈ f.dests, e.result ≠ .pending ∧ (e.result = .written → v = .off) := by
  have final (r : DestResult) : r.isFinal v = true ↔ r ≠ .pending ∧ (r = .written → v = .off) := by
    cases r <;> simp [DestResult.isFinal]
  simp only [FileRec.allFinal, Bool.and_eq_true, bne_iff_ne, List.all_eq_true, final]

/-- A file that is COMPLETE already, or has a result that is not final, is left as it is. -/
theorem Ctl.testComplete_stays (found : c.file? f.ref = some f)
    (h : f.isComplete = true ∨ f.allFinal (c.job f.ref.job).verify = false) : c.testComplete f.ref = c := by
  simp only [Ctl.testComplete, found]
  refine if_neg fun both => ?_
  obtain ⟨incomplete, final⟩ := Bool.and_eq_true_iff.1 both
  obtain h | h := h
  · simp [h] at incomplete
  · simp [h] at final

/-- The test completes a file, and then tests the head of its job's queue. -/
theorem Ctl.testComplete_completes (found : c.file? f.ref = some f) (incomplete : f.isComplete = false)
    (final : f.allFinal (c.job f.ref.job).verify = true) :
    c.testComplete f.ref =
      (c.modFile f.ref fun g => { g with state := .complete (f.outcome (c.job f.ref.job)) }).testRetire f.ref.job := by
  simp [Ctl.testComplete, found, incomplete, final]

/-- A change of one record, on the table of the files. -/
theorem Ctl.modFile_files_at (nodup : (c.files.map (·.ref)).Nodup) (split : c.files = as ++ f :: bs)
    (k : FileRec → FileRec) : c.modFile f.ref k = { c with files := as ++ k f :: bs } := by
  rw [split, List.map_append, List.map_cons, List.nodup_middle, List.nodup_cons, List.mem_append] at nodup
  have other (l : List FileRec) (away : f.ref ∉ l.map (·.ref)) :
      l.map (fun g => if g.ref = f.ref then k g else g) = l := by
    conv_rhs => rw [← List.map_id l]
    exact List.map_congr_left fun g hg => if_neg fun e : g.ref = f.ref => away (e ▸ List.mem_map_of_mem hg)
  rw [Ctl.modFile, split, List.map_append, List.map_cons, if_pos rfl, other as fun h => nodup.1 (.inl h),
    other bs fun h => nodup.1 (.inr h)]

end

/-- Settles O18: the comparison entry by entry, the outcome by the count of good copies, and the test by what is final. -/
theorem digestsAndCopiesDecideTheOutcome : Obligations.DigestsAndCopiesDecideTheOutcome := by
  refine ⟨fun f => ⟨fun bad => if_neg bad, fun good => ?_, fun j => ⟨fun good enough => ?_, fun good few => ?_,
    fun failed => ?_⟩⟩, fun c r fresh => ⟨fun missing => ?_, fun f found => ?_⟩⟩
  · rw [FileRec.compare_good good]
    refine ⟨rfl, List.length_map _, fun i h h' => ?_⟩
    simp only [List.getElem_map]
    exact ⟨fun stored => if_pos stored, fun other => if_neg other⟩
  · exact (if_pos good).trans (if_pos enough)
  · exact (if_pos good).trans (if_neg few.not_ge)
  · refine if_neg fun good => ?_
    rw [good] at failed
    simp at failed
  · rw [Ctl.testComplete, missing]
  · obtain ⟨mem, rfl⟩ := Ctl.file_some found
    refine ⟨fun stays => Ctl.testComplete_stays found (stays.imp_right fun h => ?_), fun incomplete final => ?_⟩
    · exact Bool.eq_false_iff.2 fun final => h ((f.allFinal_iff _).1 final)
    · obtain ⟨as, bs, split⟩ := List.append_of_mem mem
      refine ⟨as, bs, split, ?_⟩
      rw [Ctl.testComplete_completes found incomplete ((f.allFinal_iff _).2 final), Ctl.modFile_files_at fresh.1 split]

end Sys2Proof.Machine

namespace Sys2Proof.Machine

/-! ## A drive port that takes work, and its verify slab (R98, R99, R147) -/

section
variable {c t : Ctl} {n : CardNo} {d : DriveNo} {y : SlabNo} {k : Context} {sp : Span}

/-- A port with a span in hand keeps its context as it takes work. -/
theorem Ctl.PortStep.context_of_span (h : c.PortStep d t) (hk : (c.drive d).context = some k) (hs : k.span = some sp) :
    (t.drive d).context = some k := by
  cases h with
  | verify r idle => simp [hk] at idle
  | stageNext | stageOldest => rw [Ctl.modDrive_drive]; exact hk
  | staged g hl =>
    obtain ⟨-, -, context, -⟩ := Ctl.startWrite_port (c.modDrive d fun p => { p with staged := none }) d g.slab g.block
      g.first (by simpa using hl)
    exact context.trans (by rw [Ctl.modDrive_drive]; exact hk)
  | next x b hl =>
    obtain ⟨-, -, context, -⟩ := c.startWrite_port d x b false hl
    exact context.trans hk
  | oldest x hl =>
    obtain ⟨-, -, context, -⟩ := Ctl.startWrite_port (c.modDrive d fun p => { p with writeQueue := p.writeQueue.erase x })
      d x (firstBlock (c.slab x).offset) true (by simpa using hl)
    exact context.trans (by rw [Ctl.modDrive_drive]; exact hk)
  | readBack =>
    rw [Ctl.takeSpan_some hk hs]
    obtain e | ⟨start, count, e⟩ := c.issueReadBack_cases d <;> rw [e]
    · exact hk
    · rw [Ctl.modDrive_drive]; exact hk

/-- The verify slab is taken only for a context without a span. -/
theorem Ctl.PortStep.slab_of_span (h : c.PortStep d t) (hk : (c.drive d).context = some k) (hs : k.span = some sp) :
    (c.slab y).KeptBut (t.slab y) := by
  cases h with
  | verify | stageNext | stageOldest => exact .refl _
  | staged | oldest => exact Ctl.startWrite_slab _ d _ _ _ y
  | next => exact c.startWrite_slab d _ _ _ y
  | readBack =>
    rw [Ctl.takeSpan_some hk hs]
    obtain e | ⟨start, count, e⟩ := c.issueReadBack_cases d <;> rw [e] <;> exact .refl _

/-- A port with a span in hand keeps its context and its verify slab as it takes work. -/
theorem Ctl.pump_of_span (hk : (c.drive d).context = some k) (hs : k.span = some sp) :
    ((c.pump d).drive d).context = some k ∧ (c.slab y).KeptBut ((c.pump d).slab y) :=
  Ctl.pump_induction (P := fun t => (t.drive d).context = some k ∧ (c.slab y).KeptBut (t.slab y)) ⟨hk, .refl _⟩
    fun _ _ ⟨context, slab⟩ step =>
      ⟨step.context_of_span context hs, slab.trans (step.slab_of_span context hs)⟩

/-- What a port that takes work leaves of the port's failures and of its loss. -/
structure DrivePort.Serves (p q : DrivePort) : Prop where
  state : q.state = p.state
  loss : q.loss = p.loss
  failed : p.failed = 0 → q.failed = 0
  readAbandoned : p.readAbandoned = false → q.readAbandoned = false

namespace DrivePort.Serves

theorem refl (p : DrivePort) : p.Serves p := ⟨rfl, rfl, id, id⟩

theorem trans {p q r : DrivePort} (h : p.Serves q) (g : q.Serves r) : p.Serves r :=
  ⟨g.state.trans h.state, g.loss.trans h.loss, g.failed ∘ h.failed, g.readAbandoned ∘ h.readAbandoned⟩

theorem startWrite (c : Ctl) (d : DriveNo) (x : SlabNo) (b : Nat) (first : Bool) :
    (c.drive d).Serves ((c.startWrite d x b first).drive d) := by
  cases hw : c.writeTxn d x b with
  | none => rw [Ctl.startWrite_none hw]; exact .refl _
  | some v =>
    rw [Ctl.startWrite_drive (start := v.1) (count := v.2) hw]
    exact ⟨rfl, rfl, fun _ => rfl, id⟩

/-- The span that a context takes in hand is all that changes at its port. -/
theorem takeSpan (c : Ctl) (d : DriveNo) : (c.drive d).Serves ((c.takeSpan d).drive d) := by
  unfold Ctl.takeSpan
  split
  · split
    · exact .refl _
    · dsimp only
      rw [Ctl.modSlab_drive, Ctl.modDrive_drive]
      exact ⟨rfl, rfl, id, id⟩
  · exact .refl _

theorem issueReadBack (c : Ctl) (d : DriveNo) : (c.drive d).Serves ((c.issueReadBack d).drive d) := by
  obtain e | ⟨start, count, e⟩ := c.issueReadBack_cases d <;> rw [e]
  · exact .refl _
  · rw [Ctl.modDrive_drive]; exact ⟨rfl, rfl, fun _ => rfl, fun _ => rfl⟩

theorem portStep (h : c.PortStep d t) : (c.drive d).Serves (t.drive d) := by
  have queued {g : DrivePort → DrivePort} (hg : ∀ p : DrivePort, p.Serves (g p)) :
      (c.drive d).Serves ((c.modDrive d g).drive d) := by
    rw [Ctl.modDrive_drive]
    exact hg _
  cases h with
  | verify | stageNext | stageOldest => exact queued fun _ => ⟨rfl, rfl, id, id⟩
  | staged | oldest =>
    refine trans ?_ (startWrite ..)
    exact queued fun _ => ⟨rfl, rfl, id, id⟩
  | next => exact startWrite ..
  | readBack => exact (takeSpan c d).trans (issueReadBack ..)

theorem pump (c : Ctl) (d : DriveNo) : (c.drive d).Serves ((c.pump d).drive d) :=
  Ctl.pump_induction (P := fun t => (c.drive d).Serves (t.drive d)) (.refl _) fun _ _ h step => h.trans (portStep step)

end DrivePort.Serves

/-- A reader's request is granted a slab of the pool, and takes no other. -/
theorem Ctl.raiseSource_verifySlab (hy : 508 ≤ y.val) : (c.raiseSource n).slab y = c.slab y := by
  unfold Ctl.raiseSource
  split
  · next stands =>
    obtain ⟨-, e⟩ | ⟨-, x, free, e⟩ | ⟨-, -, e⟩ := c.raise_cases n .source <;> rw [e]
    · have reading : (c.readingFile n).isSome = true := by
        simp only [Ctl.sourceRequest, Bool.and_eq_true] at stands
        obtain ⟨⟨⟨⟨⟨-, unread⟩, -⟩, -⟩, -⟩, -⟩ := stands
        exact Option.isSome_of_any unread
      obtain ⟨pool, -⟩ := c.lowestFree_spec x free
      refine (Ctl.grant_grantedTo fun _ => reading).others y ?_
      rintro rfl
      omega
    · rfl
  · rfl

/-- Of a job that is not STOPPING a settling leaves the verify slabs. -/
theorem Ctl.settle_verifySlab (h : (c.job n).state ≠ .stopping) (hy : 508 ≤ y.val) :
    (c.settle n).slab y = c.slab y := by
  have still {t : Ctl} (same : t.slabs = c.slabs) : t.slab y = c.slab y := Ctl.slab_of_slabs same y
  cases hs : (c.job n).state with
  | running =>
    by_cases ends : c.endCondition n = true
    · rw [Ctl.settle_ends ends]
      exact still (by simp)
    · rw [Ctl.settle_running hs (Bool.eq_false_iff.2 ends), Ctl.raiseSource_verifySlab hy]
      exact still (by simp)
  | held =>
    by_cases ends : c.endCondition n = true
    · rw [Ctl.settle_ends ends]
      exact still (by simp)
    · rw [Ctl.settle_held hs (Bool.eq_false_iff.2 ends)]
      exact still (by simp)
  | suspending =>
    obtain ⟨-, -, -, slabs, -⟩ := Ctl.settle_suspends hs rfl
    exact still slabs
  | stopping => exact (h hs).elim
  | free | opened | suspended | faulted | ended =>
    rw [Ctl.settle_still (by simp [hs])]
    exact still (by simp)

/-! ## The end of a read-back, outcome by outcome (R99, R100, R147, R148) -/

/-- What follows a read-back that ended with its span still in hand changes neither the context nor the verify slab. -/
theorem Ctl.pumped_settled_of_span (hk : (c.drive d).context = some k) (hs : k.span = some sp)
    (goes : (c.job n).state ≠ .stopping) :
    let t := (c.pump d).settle n
    (t.drive d).context = some k ∧ t.files = c.files ∧ t.digest = c.digest
      ∧ (c.slab (verifySlab d)).KeptBut (t.slab (verifySlab d)) := by
  intro t
  obtain ⟨context, slab⟩ := Ctl.pump_of_span (y := verifySlab d) hk hs
  have core := (Ctl.Leads.jobsKept (Ctl.pump_leads (N := fun _ => True) (M := fun _ => True) (c := c) d)).core n
  obtain ⟨state, -⟩ := Job.core_fields core
  have goes' : ((c.pump d).job n).state ≠ .stopping := state ▸ goes
  refine ⟨?_, (Ctl.settle_files_failures goes').1.trans (Ctl.pump_files ..),
    (Ctl.settle_digest ..).trans (Ctl.pump_digest ..), ?_⟩
  · rw [Ctl.drive_of_drives (Ctl.settle_drives _ n)]
    exact context
  · rw [Ctl.settle_verifySlab goes' (verifySlab_ge d)]
    exact slab

/-- A read-back READ ends once the link of its port is free again. -/
theorem Ctl.endTxn_readBack {f : Flight} {o : TxnOutcome} {cap : Nat} {ser : Serial} (hf : f.kind = .read) :
    c.endTxn (.drive d) f o cap ser =
      (c.modDrive d fun p => { p with link := (c.link (.drive d)).finish }).readBackEnd d f o := by
  simp only [Ctl.endTxn, Ctl.driveTxnEnd, hf, Ctl.setLink]

theorem TxnOutcome.sort_atOnce {o : TxnOutcome} (h : o.IsFailureAtOnce) : o.sort = .atOnce := by
  obtain rfl | rfl | rfl := h <;> rfl

/-- A READ that ends GOOD or fails at once leaves the port with no failed attempt. -/
theorem Ctl.readBackEnd_good {f : Flight} (goes : (c.drive d).readAbandoned = false) (hk : (c.drive d).context = some k)
    (hs : k.span = some sp) :
    c.readBackEnd d f .good =
      ((((c.modDrive d fun p => { p with failed := 0 }).readBackGood d k sp f).pump d).settle k.file.job) := by
  simp [Ctl.readBackEnd, goes, hk, hs, TxnOutcome.sort]

/-- A read-back that fails at once gives up the verify slab and ends the context. -/
theorem Ctl.readBackFails_eq (c : Ctl) (d : DriveNo) (r : FileRef) :
    c.readBackFails d r = (c.freeVerifySlab d).contextEnds d r fun g => g.copyUnreadable d := rfl

theorem Ctl.readBackEnd_atOnce {f : Flight} {o : TxnOutcome} (goes : (c.drive d).readAbandoned = false)
    (hk : (c.drive d).context = some k) (hs : k.span = some sp) (ho : o.IsFailureAtOnce) :
    c.readBackEnd d f o =
      ((((c.modDrive d fun p => { p with failed := 0 }).freeVerifySlab d).contextEnds d k.file fun g =>
        g.copyUnreadable d).pump d).settle k.file.job := by
  simp [Ctl.readBackEnd, goes, hk, hs, TxnOutcome.sort_atOnce ho, Ctl.readBackFails_eq]

/-- An abandoned READ frees the verify slab, its port takes work, and the job of the slab's file settles. -/
theorem Ctl.readBackEnd_abandoned {f : Flight} {o : TxnOutcome} (h : (c.drive d).readAbandoned = true) :
    Ctl.EndsVerify d (c.modDrive d fun p => { p with readAbandoned := false, failed := 0 }) (c.readBackEnd d f o) := by
  simp only [Ctl.readBackEnd, h, if_true]
  split
  · exact .settled _
  · exact .freed

/-- A GOOD read-back of a part of its span moves the next block on. -/
theorem Ctl.readBackGood_part {f : Flight} (h : k.nextBlock + f.count < endBlock sp.offset sp.len) :
    c.readBackGood d k sp f =
      c.modDrive d fun p => { p with context := some { k with nextBlock := k.nextBlock + f.count } } := by
  simp only [Ctl.readBackGood, if_pos h]

/-- A GOOD read-back of the rest of its span hands the verify slab to the digest unit. -/
theorem Ctl.readBackGood_whole {f : Flight} (h : endBlock sp.offset sp.len ≤ k.nextBlock + f.count) :
    c.readBackGood d k sp f =
      ((c.modSlab (verifySlab d) fun s => { s with state := .filled }).fifoPush (verifySlab d)).modDrive d fun p =>
        { p with
          context := some { k with nextBlock := k.nextBlock + f.count, nextOffset := k.nextOffset + sp.len } } := by
  simp only [Ctl.readBackGood, if_neg h.not_gt]

end

end Sys2Proof.Machine

namespace Sys2Proof.Machine

/-! ## What each end of a read-back leaves (R99, R100, R147, R148) -/

section
variable {c : Ctl} {d : DriveNo} {k : Context} {sp : Span} {f : Flight} {o : TxnOutcome} {r : FileRef}

/-- The port, the files, the digest unit and the verify slab after a GOOD read-back of a part of its span. -/
theorem Ctl.readBackEnd_part (goes : (c.drive d).readAbandoned = false) (hk : (c.drive d).context = some k)
    (hs : k.span = some sp) (job : (c.job k.file.job).state ≠ .stopping)
    (h : k.nextBlock + f.count < endBlock sp.offset sp.len) :
    let t := c.readBackEnd d f .good
    (t.drive d).context = some { k with nextBlock := k.nextBlock + f.count } ∧ t.files = c.files ∧ t.digest = c.digest
      ∧ (t.slab (verifySlab d)).state = (c.slab (verifySlab d)).state := by
  rw [Ctl.readBackEnd_good goes hk hs, Ctl.readBackGood_part h, Ctl.modDrive_modDrive]
  have held := congrArg DrivePort.context (c.modDrive_drive d fun p =>
    { p with failed := 0, context := some { k with nextBlock := k.nextBlock + f.count } })
  obtain ⟨context, files, digest, slab⟩ := Ctl.pumped_settled_of_span held hs job
  obtain ⟨-, state, -⟩ := slab.fields
  exact ⟨context, files, digest, state⟩

/-- With the span whole the verify slab has joined the digest FIFO. -/
theorem Ctl.readBackEnd_whole (goes : (c.drive d).readAbandoned = false) (hk : (c.drive d).context = some k)
    (hs : k.span = some sp) (job : (c.job k.file.job).state ≠ .stopping)
    (h : endBlock sp.offset sp.len ≤ k.nextBlock + f.count) :
    let t := c.readBackEnd d f .good
    let s := c.slab (verifySlab d)
    let s' := t.slab (verifySlab d)
    (t.drive d).context = some { k with nextBlock := k.nextBlock + f.count, nextOffset := k.nextOffset + sp.len }
      ∧ t.files = c.files ∧ t.digest = { c.digest with fifo := c.digest.fifo ++ [verifySlab d] }
      ∧ s'.state = .filled ∧ s'.file = s.file ∧ s'.offset = s.offset ∧ s'.len = s.len := by
  obtain ⟨u, hu⟩ : ∃ u, u = (c.modDrive d fun p => { p with failed := 0 }).readBackGood d k sp f := ⟨_, rfl⟩
  rw [Ctl.readBackEnd_good goes hk hs, ← hu]
  rw [Ctl.readBackGood_whole h] at hu
  have held : (u.drive d).context =
      some { k with nextBlock := k.nextBlock + f.count, nextOffset := k.nextOffset + sp.len } := by
    rw [hu, Ctl.modDrive_drive]
  have filled : u.slab (verifySlab d) = { c.slab (verifySlab d) with state := .filled } := by
    rw [hu]
    exact Ctl.modSlab_slab _ _ fun s => { s with state := .filled }
  have job' : (u.job k.file.job).state ≠ .stopping := by rwa [hu]
  obtain ⟨context, files, digest, slab⟩ := Ctl.pumped_settled_of_span held hs job'
  obtain ⟨-, state, -, file, offset, len, -⟩ := slab.fields
  rw [filled] at state file offset len
  refine ⟨context, files.trans ?_, digest.trans ?_, state, file, offset, len⟩ <;> rw [hu] <;> rfl

/-- A context that ends leaves its port to other files as the port takes work, if the file does not wait there again. -/
theorem Ctl.contextEnds_pump_readsNoMore (kr : FileRec → FileRec) (hq : r ∉ (c.drive d).verifyQueue) :
    ((c.contextEnds d r kr).pump d).ReadsNoMore d r := by
  have ended : ((c.modFile r kr).modDrive d fun p => { p with context := none }).ReadsNoMore d r := by
    unfold Ctl.ReadsNoMore
    rw [Ctl.modDrive_drive]
    exact ⟨fun k hk => (nomatch hk), hq⟩
  exact ended.leads (N := fun _ => True) (M := fun _ => True)
    ((Ctl.testComplete_leads trivial trivial _).trans (Ctl.pump_leads _ d))

/-- A read-back that fails at once: the context has left the file, the verify slab is not FILLED, and of the record, as far
as the file has not retired, a WRITTEN result of d is UNREADABLE. -/
theorem Ctl.readBackEnd_fails (goes : (c.drive d).readAbandoned = false) (hk : (c.drive d).context = some k)
    (hs : k.span = some sp) (hq : k.file ∉ (c.drive d).verifyQueue) (ho : o.IsFailureAtOnce) :
    let t := c.readBackEnd d f o
    (∀ k', (t.drive d).context = some k' → k'.file ≠ k.file) ∧ (t.slab (verifySlab d)).state ≠ .filled
      ∧ ∀ g g', c.file? k.file = some g → t.file? k.file = some g' → g'.dests = (g.copyUnreadable d).dests := by
  obtain ⟨u, hu⟩ : ∃ u, u = (c.modDrive d fun p => { p with failed := 0 }).freeVerifySlab d := ⟨_, rfl⟩
  rw [Ctl.readBackEnd_atOnce goes hk hs ho, ← hu]
  refine ⟨fun k' hk' => ?_, Ctl.settle_not_filled ?_, fun g g' hg hg' => ?_⟩
  · rw [Ctl.drive_of_drives (Ctl.settle_drives _ _)] at hk'
    have waits : k.file ∉ (u.drive d).verifyQueue := by
      rw [hu, Ctl.freeVerifySlab, Ctl.modSlab_drive, Ctl.modDrive_drive]
      exact hq
    exact (Ctl.contextEnds_pump_readsNoMore _ waits).1 k' hk'
  · have freed : (u.slab (verifySlab d)).state ≠ .filled := by
      rw [hu, Ctl.freeVerifySlab, Ctl.modSlab_slab]
      decide
    have ended : (((u.modFile k.file fun g => g.copyUnreadable d).modDrive d fun p => { p with context := none }).slab
        (verifySlab d)).state ≠ .filled := freed
    exact Ctl.Leads.not_filled (N := fun _ => True) (M := fun _ => True)
      ((Ctl.testComplete_leads trivial trivial _).trans (Ctl.pump_leads _ d)) ended
  · have here : u.file? k.file = some g := by rw [hu]; exact hg
    have kept : Ctl.RecordKept k.file
        ((u.modFile k.file fun g => g.copyUnreadable d).modDrive d fun p => { p with context := none })
        (((u.contextEnds d k.file fun g => g.copyUnreadable d).pump d).settle k.file.job) :=
      ((Ctl.RecordKept.testComplete _ _).trans (.of_files (Ctl.pump_files ..))).trans (.settle _ _)
    obtain ⟨p, hp, same, -⟩ := kept.record g' hg'
    obtain rfl := Option.some.inj
      ((Ctl.modFile_file_self here fun g => FileRec.copyUnreadable_ref g d).symm.trans hp)
    rw [same]

/-- A read-back whose context was abandoned, whatever its outcome. -/
theorem Ctl.readBackEnd_abandons (h : (c.drive d).readAbandoned = true) :
    let p := c.drive d
    let t := c.readBackEnd d f o
    let q := t.drive d
    q.readAbandoned = false ∧ q.failed = 0 ∧ q.state = p.state ∧ q.loss = p.loss
      ∧ (t.slab (verifySlab d)).state ≠ .filled
      ∧ ∀ r g g', c.file? r = some g → t.file? r = some g' → g'.dests = g.dests ∧ g'.result = g.result := by
  have ends := Ctl.readBackEnd_abandoned (f := f) (o := o) h
  obtain ⟨u, hu⟩ : ∃ u, u = c.modDrive d fun p => { p with readAbandoned := false, failed := 0 } := ⟨_, rfl⟩
  rw [← hu] at ends
  have port : (u.freeVerifySlab d).drive d = { c.drive d with readAbandoned := false, failed := 0 } := by
    rw [hu, Ctl.freeVerifySlab, Ctl.modSlab_drive, Ctl.modDrive_drive]
  have serves := DrivePort.Serves.pump (u.freeVerifySlab d) d
  rw [port, ← Ctl.verifyFreed, ← ends.drive] at serves
  refine ⟨serves.readAbandoned rfl, serves.failed rfl, serves.state, serves.loss, ends.not_filled,
    fun r g g' hg hg' => ?_⟩
  obtain ⟨g0, hg0, same, -⟩ := ends.record.record g' hg'
  rw [hu] at hg0
  obtain rfl := Option.some.inj (hg.symm.trans hg0)
  rw [same]
  exact ⟨rfl, rfl⟩

end

/-- Settles O59: each end of a read-back, told of the shared state in which the port's link is free again. -/
theorem readBacksEnd : Obligations.ReadBacksEnd := by
  intro c d f o cap ser _ read p t q
  obtain ⟨u, hu⟩ : ∃ u, u = c.modDrive d fun p => { p with link := (c.link (.drive d)).finish } := ⟨_, rfl⟩
  have ends : t = u.readBackEnd d f o := by rw [hu]; exact Ctl.endTxn_readBack read
  have port : u.drive d = { p with link := (c.link (.drive d)).finish } := by rw [hu, Ctl.modDrive_drive]
  have files (r : FileRef) : u.file? r = c.file? r := by rw [hu]; rfl
  refine ⟨fun k sp goes hk hs job hq => ?_, fun abandoned => ?_⟩
  · have goes' : (u.drive d).readAbandoned = false := by rw [port]; exact goes
    have hk' : (u.drive d).context = some k := by rw [port]; exact hk
    have hq' : k.file ∉ (u.drive d).verifyQueue := by rw [port]; exact hq
    have job' : (u.job k.file.job).state ≠ .stopping := by rw [hu]; exact job
    refine ⟨?_, ?_, fun fails => ?_⟩
    · rintro rfl part
      have done := Ctl.readBackEnd_part goes' hk' hs job' part
      rw [← ends, hu] at done
      exact done
    · rintro rfl whole
      have done := Ctl.readBackEnd_whole goes' hk' hs job' whole
      rw [← ends, hu] at done
      exact done
    · obtain ⟨left, slab, records⟩ := Ctl.readBackEnd_fails (f := f) goes' hk' hs hq' fails
      rw [← ends] at left slab records
      refine ⟨left, slab, fun g g' hg hg' => ?_⟩
      rw [records g g' ((files _).trans hg) hg', FileRec.copyUnreadable_dests]
  · obtain ⟨read, failed, state, loss, slab, records⟩ :=
      Ctl.readBackEnd_abandons (f := f) (o := o) (by rw [port]; exact abandoned)
    rw [← ends] at read failed state loss slab records
    rw [port] at state loss
    exact ⟨read, failed, state, loss, slab, fun r g g' hg => records r g g' ((files r).trans hg)⟩

end Sys2Proof.Machine

/-! # Proofs: card ports (06)

First what every event makes of the notices of ports, jobs and counters, told together with what it makes of the links and
the grades of the card ports. Then samples of PRESENT, the removal of a card, the end of an IDENTIFY, and the span read that
fills a slab. -/

namespace Sys2Proof.Machine

/-! ## What a port and a job show, and what waits about them -/

/-- The waiting notices of a subject. -/
def Ctl.about (c : Ctl) (x : Subject) : List OutEntry := c.outq.filter fun e => e.kind == .notice x

/-- Notices of subject x wait, and all of them have these contents. -/
def Ctl.AllTell (c : Ctl) (x : Subject) (p : List Byte) : Prop := c.about x ≠ [] ∧ ∀ e ∈ c.about x, e.payload = p

/-- The fields of a card port that its PORT_EVENT is made from (R132). -/
def CardPort.shown (p : CardPort) : CardState × Nat × Serial × Nat × Bool × Bool × Bool :=
  (p.state, p.capacity, p.serial, p.grade, p.cleared, p.residue, p.unclean)

/-- The fields of a drive port that its PORT_EVENT is made from (R153). -/
def DrivePort.shown (p : DrivePort) : DriveState × Nat × Serial × Option Loss := (p.state, p.capacity, p.serial, p.loss)

/-- Port p shows the same in c and t: for a card port its binding is part of it. -/
def Ctl.ShownSame (c t : Ctl) : PortId → Prop
  | .card n => (t.card n).shown = (c.card n).shown ∧ ((t.job n).state = .free ↔ (c.job n).state = .free)
  | .drive d => (t.drive d).shown = (c.drive d).shown

/-- The fields of a job record that its JOB_STATE is made from (R33). -/
def Job.told (j : Job) : (JobState × HoldSet × SuspendMode × FaultCause × EndReason) × Bool × ReleaseCause :=
  (j.noticed, j.closed, j.lastRelease)

/-- Notices of these subjects are accounted for: those of ports, jobs and counters. -/
def Subject.accounted : Subject → Bool
  | .portEvent _ | .jobState _ | .progress _ => true
  | _ => false

section
variable {a c t u : Ctl} {n m : CardNo} {d : DriveNo} {p : PortId} {x y : Subject}

theorem Job.noticed_fields {j j' : Job} (h : j'.noticed = j.noticed) :
    j'.state = j.state ∧ j'.holds = j.holds ∧ j'.suspend = j.suspend ∧ j'.faultCause = j.faultCause
      ∧ j'.endReason = j.endReason := by
  simpa only [Job.noticed, Prod.mk.injEq] using h

theorem Job.told_fields {j j' : Job} (h : j'.told = j.told) :
    j'.noticed = j.noticed ∧ j'.closed = j.closed ∧ j'.lastRelease = j.lastRelease := by
  simpa only [Job.told, Prod.mk.injEq] using h

theorem CardPort.shown_fields {p q : CardPort} (h : q.shown = p.shown) :
    q.state = p.state ∧ q.capacity = p.capacity ∧ q.serial = p.serial ∧ q.grade = p.grade ∧ q.cleared = p.cleared
      ∧ q.residue = p.residue ∧ q.unclean = p.unclean := by
  simpa only [CardPort.shown, Prod.mk.injEq] using h

theorem DrivePort.shown_fields {p q : DrivePort} (h : q.shown = p.shown) :
    q.state = p.state ∧ q.capacity = p.capacity ∧ q.serial = p.serial ∧ q.loss = p.loss := by
  simpa only [DrivePort.shown, Prod.mk.injEq] using h

/-- A lamp is not part of what a port shows. -/
theorem CardPort.show_shown (p : CardPort) (q : Pattern) : (p.show q).shown = p.shown ∧ (p.show q).link = p.link := by
  unfold CardPort.show
  split <;> exact ⟨rfl, rfl⟩

theorem Ctl.ShownSame.trans (h : c.ShownSame t p) (g : t.ShownSame u p) : c.ShownSame u p := by
  cases p with
  | card n => exact ⟨g.1.trans h.1, g.2.trans h.2⟩
  | drive d => exact Eq.trans g h

theorem Ctl.isBound_congr (h : (t.job n).state = .free ↔ (c.job n).state = .free) : t.isBound n = c.isBound n := by
  rw [Bool.eq_iff_iff]
  simp [Ctl.isBound, h]

/-- A port that shows the same has the same PORT_EVENT. -/
theorem Ctl.ShownSame.payload (h : c.ShownSame t p) : t.portEventPayload p = c.portEventPayload p := by
  cases p with
  | card n =>
    obtain ⟨shown, bound⟩ := h
    obtain ⟨state, capacity, serial, grade, cleared, residue, unclean⟩ := CardPort.shown_fields shown
    simp only [Ctl.portEventPayload, Ctl.cardEventPayload, state, capacity, serial, grade, cleared, residue, unclean,
      Ctl.isBound_congr bound]
  | drive d =>
    obtain ⟨state, capacity, serial, loss⟩ := DrivePort.shown_fields h
    simp only [Ctl.portEventPayload, Ctl.driveEventPayload, state, capacity, serial, loss]

theorem Ctl.jobStatePayload_of_told (h : (t.job n).told = (c.job n).told) : t.jobStatePayload n = c.jobStatePayload n := by
  obtain ⟨noticed, closed, last⟩ := Job.told_fields h
  obtain ⟨state, holds, suspend, fault, reason⟩ := Job.noticed_fields noticed
  simp only [Ctl.jobStatePayload, state, holds, suspend, fault, reason, closed, last]

/-! ### The queue -/

theorem Ctl.about_of_outq (h : t.outq = c.outq) (x : Subject) : t.about x = c.about x := by rw [Ctl.about, h, Ctl.about]

theorem Ctl.mem_about {e : OutEntry} : e ∈ c.about x ↔ e ∈ c.outq ∧ e.kind = .notice x := by
  simp [Ctl.about, List.mem_filter]

theorem Ctl.AllTell.tells {l : List Byte} (h : c.AllTell x l) : c.Tells x l := by
  obtain ⟨e, he⟩ := List.exists_mem_of_ne_nil _ h.1
  obtain ⟨mem, kind⟩ := Ctl.mem_about.1 he
  exact ⟨e, mem, kind, h.2 e he⟩

theorem Ctl.AllTell.of_about {l : List Byte} (h : c.AllTell x l) (same : t.about x = c.about x) : t.AllTell x l := by
  rw [Ctl.AllTell, same]
  exact h

/-- An update of a notice leaves those of other subjects. -/
theorem Ctl.pushNotice_about_ne (l : List Byte) (h : x ≠ y) : (c.pushNotice y l).about x = c.about x := by
  have other (e : OutEntry) (he : (e.kind == .notice y) = true) : (e.kind == .notice x) = false := by
    simp only [beq_iff_eq] at he
    simp [he, Ne.symm h]
  simp only [Ctl.about, Ctl.pushNotice_outq, coalesce]
  split
  · rw [List.filter_map]
    have kinds : ((fun e : OutEntry => e.kind == .notice x) ∘
        fun e => if e.kind = .notice y then { e with payload := l } else e) = fun e => e.kind == .notice x := by
      funext e
      simp only [Function.comp]
      split <;> rfl
    rw [kinds]
    refine (List.map_congr_left fun e he => ?_).trans (List.map_id _)
    obtain ⟨-, kind⟩ := List.mem_filter.1 he
    rw [if_neg, id]
    intro told
    rw [other e (by simpa using told)] at kind
    cases kind
  · rw [List.filter_append]
    simp [Ne.symm h]

/-- After an update of a notice all that wait of its subject have the new contents. -/
theorem Ctl.pushNotice_allTell (c : Ctl) (x : Subject) (l : List Byte) : (c.pushNotice x l).AllTell x l := by
  obtain ⟨e, mem, kind, -⟩ := coalesce_mem c.outq x l
  refine ⟨List.ne_nil_of_mem (Ctl.mem_about.2 ⟨mem, kind⟩), fun e he => ?_⟩
  obtain ⟨mem, kind⟩ := Ctl.mem_about.1 he
  simp only [Ctl.pushNotice_outq, coalesce] at mem
  split at mem
  · obtain ⟨e', -, rfl⟩ := List.mem_map.1 mem
    split
    · rfl
    · next other => rw [if_neg other] at kind; exact (other kind).elim
  · next none =>
    obtain old | new := List.mem_append.1 mem
    · exact (none (List.any_eq_true.2 ⟨e, old, by simpa using kind⟩)).elim
    · rw [List.mem_singleton.1 new]

/-- An update of a notice keeps the entries and their kinds in their places, and may add one at the tail. -/
theorem Ctl.pushNotice_kinds (c : Ctl) (x : Subject) (l : List Byte) :
    c.outq.map (·.kind) <+: (c.pushNotice x l).outq.map (·.kind) := by
  rw [Ctl.pushNotice_outq, coalesce]
  split
  · rw [List.map_map]
    have kinds : c.outq.map (·.kind) = c.outq.map ((·.kind) ∘
        fun e => if e.kind = .notice x then { e with payload := l } else e) := by
      refine List.map_congr_left fun e _ => ?_
      simp only [Function.comp]
      split <;> rfl
    rw [kinds]
  · rw [List.map_append]
    exact List.prefix_append _ _

end

end Sys2Proof.Machine

namespace Sys2Proof.Machine

/-! ## What an event reports

`Reports e a c`: on the way from a to c every change that a notice is queued for has been reported, but for what e names as
still to come. -/

/-- Job record j' is one that j has moved on to: another one to JOB_STATE, and not out of ENDED, nor back from SUSPENDED,
unless the job is freed. Nothing that settles leads back from there. -/
structure Job.Onward (j j' : Job) : Prop where
  moved : j'.noticed ≠ j.noticed
  ended : j'.state ≠ .free → j.state ≠ .ended
  suspended : j'.state = .suspending → j.state ≠ .suspended

/-- Of port p either nothing has changed and nothing was queued, or all that waits of it shows it as it stands. -/
def Ctl.PortReported (a c : Ctl) (p : PortId) : Prop :=
  a.notices.portEvent = true →
    (a.ShownSame c p ∧ c.about (.portEvent p) = a.about (.portEvent p)) ∨ c.AllTell (.portEvent p) (c.portEventPayload p)

/-- Of job n either nothing has changed that JOB_STATE is queued for and nothing was queued, or the job has moved on and all
that waits of it shows it as it stands. -/
def Ctl.JobReported (a c : Ctl) (n : CardNo) : Prop :=
  ((c.job n).noticed = (a.job n).noticed ∧ c.about (.jobState n) = a.about (.jobState n))
    ∨ ((a.job n).Onward (c.job n)
        ∧ (a.notices.jobState = true → c.AllTell (.jobState n) (c.jobStatePayload n)))

/-- A PROGRESS of job n waits that shows the count v of released slabs. -/
def Ctl.ShowsCount (c : Ctl) (n : CardNo) (v : Nat) : Prop :=
  ∃ i r b, c.Tells (.progress n) (BitVec.ofNat 8 n.val :: leBytes 4 i ++ leBytes 4 r ++ leBytes 8 b ++ leBytes 4 v)

/-- The count of job n's released slabs has risen one by one, and PROGRESS shows the last multiple it came to. -/
def Ctl.Counted (a c : Ctl) (n : CardNo) : Prop :=
  let count := fun (i : Nat) => ((a.job n).released + i) % 2 ^ 32
  let hits := fun (i : Nat) => count i % 2 ^ a.notices.step = 0
  ∃ m, (c.job n).released % 2 ^ 32 = count m
    ∧ (0 < a.notices.step → ∀ i, 1 ≤ i → i ≤ m → hits i → (∀ l, i < l → l ≤ m → ¬hits l) → c.ShowsCount n (count i))

/-- What is still to be reported: the ports whose PORT_EVENT is to come, the jobs whose JOB_STATE is to come, and the jobs
that may have moved on by now. -/
structure Due where
  ports : PortId → Prop
  jobs : CardNo → Prop
  moved : CardNo → Prop

/-- Nothing is to come, and no job has moved. -/
def Due.none : Due := ⟨fun _ => False, fun _ => False, fun _ => False⟩

def Due.port (e : Due) (p : PortId) : Due := { e with ports := fun q => e.ports q ∨ q = p }
def Due.job (e : Due) (n : CardNo) : Due :=
  { e with jobs := fun m => e.jobs m ∨ m = n, moved := fun m => e.moved m ∨ m = n }
def Due.move (e : Due) (n : CardNo) : Due := { e with moved := fun m => e.moved m ∨ m = n }
def Due.moveAll (e : Due) : Due := { e with moved := fun _ => True }

/-- Nothing is to come; any job may have moved. -/
def Due.settled : Due := Due.none.moveAll

/-- From a to c, but for what is due, ports, jobs and counts are reported while their notices are enabled, and nothing of
them waits anew while they are disabled; entries keep their places; no card link comes to carry a WRITE; and the grade of a
port that holds a card has not fallen in number. -/
structure Ctl.Reports (e : Due) (a c : Ctl) : Prop where
  notices : c.notices = a.notices
  kinds : a.outq.map (·.kind) <+: c.outq.map (·.kind)
  port : ∀ p, ¬e.ports p → a.PortReported c p
  portOff : a.notices.portEvent = false → ∀ p, c.about (.portEvent p) = a.about (.portEvent p)
  still : ∀ m, ¬e.moved m → (c.job m).noticed = (a.job m).noticed
  job : ∀ m, ¬e.jobs m → a.JobReported c m
  jobOff : a.notices.jobState = false → ∀ m, c.about (.jobState m) = a.about (.jobState m)
  count : ∀ m, (a.job m).state ≠ .free → (c.job m).state ≠ .free → a.Counted c m
  countOff : a.notices.step = 0 → ∀ m, c.about (.progress m) = a.about (.progress m)
  link : ∀ m, (c.card m).link.carries .write = true → (a.card m).link.carries .write = true
  grade : ∀ m, (c.card m).state = .empty ∨ (a.card m).grade ≤ (c.card m).grade

section
variable {a c t u : Ctl} {n m : CardNo} {d : DriveNo} {p : PortId} {x y : Subject} {j j' j'' : Job} {e : Due}

theorem Job.Onward.congr (h : j.Onward j') (same : j''.noticed = j'.noticed) : j.Onward j'' := by
  obtain ⟨state, -⟩ := Job.noticed_fields same
  exact ⟨same ▸ h.moved, state ▸ h.ended, state ▸ h.suspended⟩

theorem Job.Onward.of_still (h : j'.Onward j'') (same : j'.noticed = j.noticed) : j.Onward j'' := by
  obtain ⟨state, -⟩ := Job.noticed_fields same
  exact ⟨same ▸ h.moved, state ▸ h.ended, state ▸ h.suspended⟩

/-- A job that has not ended moves on to another state, but from SUSPENDED to SUSPENDING. -/
theorem Job.Onward.of_state (going : j.state ≠ .ended) (state : j'.state ≠ j.state)
    (back : j'.state = .suspending → j.state ≠ .suspended) : j.Onward j' :=
  ⟨fun h => state (Job.noticed_fields h).1, fun _ => going, back⟩

theorem Ctl.PortReported.same (h : a.PortReported c p) (shown : c.ShownSame t p)
    (queue : t.about (.portEvent p) = c.about (.portEvent p)) : a.PortReported t p := by
  intro on
  obtain ⟨shown', queue'⟩ | told := h on
  · exact .inl ⟨shown'.trans shown, queue.trans queue'⟩
  · rw [shown.payload]
    exact .inr (told.of_about queue)

theorem Ctl.JobReported.same (h : a.JobReported c n) (told : (t.job n).told = (c.job n).told)
    (queue : t.about (.jobState n) = c.about (.jobState n)) : a.JobReported t n := by
  obtain ⟨noticed, -⟩ := Job.told_fields told
  obtain ⟨noticed', queue'⟩ | ⟨onward, all⟩ := h
  · exact .inl ⟨noticed.trans noticed', queue.trans queue'⟩
  · rw [Ctl.JobReported, Ctl.jobStatePayload_of_told told]
    exact .inr ⟨onward.congr noticed, fun on => (all on).of_about queue⟩

theorem Ctl.ShowsCount.of_about {v : Nat} (h : c.ShowsCount n v) (queue : t.about (.progress n) = c.about (.progress n)) :
    t.ShowsCount n v := by
  obtain ⟨i, r, b, e, mem, kind, payload⟩ := h
  have mem' : e ∈ t.about (.progress n) := queue ▸ Ctl.mem_about.2 ⟨mem, kind⟩
  exact ⟨i, r, b, e, (Ctl.mem_about.1 mem').1, kind, payload⟩

theorem Ctl.Counted.same (h : a.Counted c n) (released : (t.job n).released = (c.job n).released)
    (queue : t.about (.progress n) = c.about (.progress n)) : a.Counted t n := by
  obtain ⟨m, count, shows⟩ := h
  exact ⟨m, released ▸ count, fun on i low high hit last => (shows on i low high hit last).of_about queue⟩

/-- One more slab is counted: its count is shown if it is a multiple, and else nothing new waits. -/
theorem Ctl.Counted.succ (h : a.Counted c n) (raised : (t.job n).released = ((c.job n).released + 1) % 2 ^ 32)
    (due : 0 < a.notices.step → (t.job n).released % 2 ^ a.notices.step = 0 → u.ShowsCount n (t.job n).released)
    (silent : 0 < a.notices.step → (t.job n).released % 2 ^ a.notices.step ≠ 0 →
      u.about (.progress n) = c.about (.progress n))
    (same : (u.job n).released = (t.job n).released) : a.Counted u n := by
  obtain ⟨m, count, shows⟩ := h
  have last : (t.job n).released = ((a.job n).released + (m + 1)) % 2 ^ 32 := by
    have was : (c.job n).released % 2 ^ 32 = ((a.job n).released + m) % 2 ^ 32 := count
    omega
  refine ⟨m + 1, by rw [same, last, Nat.mod_mod], fun on i low high hit none => ?_⟩
  simp only [last] at due silent
  by_cases top : i = m + 1
  · subst top
    exact due on hit
  · have old : i ≤ m := by omega
    exact (shows on i low old hit fun l above below => none l above (by omega)).of_about
      (silent on (none (m + 1) (by omega) le_rfl))

theorem Ctl.Counted.refl (c : Ctl) (n : CardNo) : c.Counted c n :=
  ⟨0, rfl, fun _ i low high => absurd (low.trans high) (by omega)⟩

theorem Ctl.ShownSame.refl (c : Ctl) (p : PortId) : c.ShownSame c p := by
  cases p
  · exact ⟨rfl, .rfl⟩
  · rfl

end

namespace Ctl.Reports

section
variable {e : Due} {a c t : Ctl} {n : CardNo} {d : DriveNo} {x : SlabNo} {r : FileRef} {f : FileRec} {p : PortId}

theorem refl (c : Ctl) : Reports e c c where
  notices := rfl
  kinds := List.prefix_rfl
  port p _ _ := .inl ⟨.refl c p, rfl⟩
  portOff _ _ := rfl
  still _ _ := rfl
  job _ _ := .inl ⟨rfl, rfl⟩
  jobOff _ _ := rfl
  count m _ _ := .refl c m
  countOff _ _ := rfl
  link _ h := h
  grade _ := .inr le_rfl

/-- More may be due. -/
theorem mono {e' : Due} (h : Reports e a c) (ports : ∀ p, e.ports p → e'.ports p) (jobs : ∀ m, e.jobs m → e'.jobs m)
    (moved : ∀ m, e.moved m → e'.moved m) : Reports e' a c :=
  { h with port := fun p hp => h.port p (mt (ports p) hp), still := fun m hm => h.still m (mt (moved m) hm),
           job := fun m hm => h.job m (mt (jobs m) hm) }

theorem move (h : Reports e a c) : Reports (e.move n) a c := h.mono (fun _ => id) (fun _ => id) fun _ => .inl

theorem moveAll (h : Reports e a c) : Reports e.moveAll a c := h.mono (fun _ => id) (fun _ => id) fun _ _ => trivial

theorem movedSettled (h : Reports (Due.none.move n) a c) : Reports .settled a c := h.moveAll

theorem settled (h : Reports .none a c) : Reports .settled a c := h.moveAll

theorem ite {q : Prop} [Decidable q] {u : Ctl} (ht : q → Reports e a t) (hu : ¬q → Reports e a u) :
    Reports e a (if q then t else u) := by
  split
  · next h => exact ht h
  · next h => exact hu h

theorem foldl {α : Type} {g : Ctl → α → Ctl} (hg : ∀ c y, Reports e a c → Reports e a (g c y)) (l : List α)
    (h : Reports e a c) : Reports e a (l.foldl g c) := by
  induction l generalizing c with
  | nil => exact h
  | cons y l ih => exact ih (hg c y h)

theorem eachDrive {g : Ctl → DriveNo → Ctl} (hg : ∀ c d, Reports e a c → Reports e a (g c d))
    (h : Reports e a c) : Reports e a (Machine.eachDrive g c) := hg _ _ (hg _ _ (hg _ _ (hg _ _ h)))

/-! ### Changes that need no notice -/

/-- Ports show the same and jobs have the same to tell; of what is accounted for the same waits, but for the counts. -/
theorem counting (h : Reports e a c) (notices : t.notices = c.notices)
    (kinds : c.outq.map (·.kind) <+: t.outq.map (·.kind)) (port : ∀ q, t.about (.portEvent q) = c.about (.portEvent q))
    (job : ∀ m, t.about (.jobState m) = c.about (.jobState m)) (cards : ∀ m, (t.card m).shown = (c.card m).shown)
    (links : ∀ m, (t.card m).link.carries .write = true → (c.card m).link.carries .write = true)
    (drives : ∀ d, (t.drive d).shown = (c.drive d).shown) (jobs : ∀ m, (t.job m).told = (c.job m).told)
    (count : ∀ m, a.Counted c m → a.Counted t m)
    (countOff : a.notices.step = 0 → ∀ m, t.about (.progress m) = c.about (.progress m)) : Reports e a t := by
  have noticed (m : CardNo) := (Job.told_fields (jobs m)).1
  have free (m : CardNo) : (t.job m).state = .free ↔ (c.job m).state = .free := by rw [(Job.noticed_fields (noticed m)).1]
  have shown (q : PortId) : c.ShownSame t q := by
    cases q with
    | card m => exact ⟨cards m, free m⟩
    | drive d => exact drives d
  refine ⟨notices.trans h.notices, h.kinds.trans kinds, fun q hq => (h.port q hq).same (shown q) (port q),
    fun off q => (port q).trans (h.portOff off q), fun m hm => (noticed m).trans (h.still m hm),
    fun m hm => (h.job m hm).same (jobs m) (job m), fun off m => (job m).trans (h.jobOff off m),
    fun m was is => count m (h.count m was (mt (free m).2 is)), fun off m => (countOff off m).trans (h.countOff off m),
    fun m carries => h.link m (links m carries), fun m => ?_⟩
  obtain ⟨state, -, -, grade, -⟩ := CardPort.shown_fields (cards m)
  rw [state, grade]
  exact h.grade m

/-- Ports show the same, jobs have the same to tell and to count, and of what is accounted for the same waits. -/
theorem quiet (h : Reports e a c) (notices : t.notices = c.notices) (kinds : c.outq.map (·.kind) <+: t.outq.map (·.kind))
    (about : ∀ y : Subject, y.accounted = true → t.about y = c.about y) (cards : ∀ m, (t.card m).shown = (c.card m).shown)
    (links : ∀ m, (t.card m).link.carries .write = true → (c.card m).link.carries .write = true)
    (drives : ∀ d, (t.drive d).shown = (c.drive d).shown)
    (jobs : ∀ m, (t.job m).told = (c.job m).told ∧ (t.job m).released = (c.job m).released) : Reports e a t :=
  h.counting notices kinds (fun _ => about _ rfl) (fun _ => about _ rfl) cards links drives (fun m => (jobs m).1)
    (fun m counted => counted.same (jobs m).2 (about _ rfl)) fun _ _ => about _ rfl

/-- Nothing of ports, jobs, queue and settings changes. -/
theorem same (h : Reports e a c) (cards : t.cards = c.cards) (drives : t.drives = c.drives) (jobs : t.jobs = c.jobs)
    (outq : t.outq = c.outq) (notices : t.notices = c.notices) : Reports e a t := by
  have card := Ctl.card_of_cards cards
  refine h.quiet notices (by rw [outq]) (fun y _ => Ctl.about_of_outq outq y) (fun m => by rw [card])
    (fun m carries => by rwa [card] at carries) (fun d => by rw [Ctl.drive_of_drives drives]) fun m => by
    rw [Ctl.job_of_jobs jobs]
    exact ⟨rfl, rfl⟩

/-- The queue changes in what is not accounted for. -/
theorem queued {q : List OutEntry} (h : Reports e a c) (kinds : c.outq.map (·.kind) <+: q.map (·.kind))
    (about : ∀ y : Subject, y.accounted = true → (c.setOutq q).about y = c.about y) : Reports e a (c.setOutq q) :=
  h.quiet rfl kinds about (fun _ => rfl) (fun _ => id) (fun _ => rfl) fun _ => ⟨rfl, rfl⟩

/-- The change g is mostly known from the goal alone: there its proof is a tactic block, which waits for the goal. -/
theorem modDrive {g : DrivePort → DrivePort} (h : Reports e a c)
    (hg : ∀ p, (g p).shown = p.shown) : Reports e a (c.modDrive d g) := by
  refine h.quiet rfl List.prefix_rfl (fun _ _ => rfl) (fun _ => rfl) (fun _ => id) (fun d' => ?_) fun _ => ⟨rfl, rfl⟩
  rw [Ctl.modDrive_drive_ite]
  split
  · next same => rw [hg, same]
  · rfl

theorem modSlab {g : Slab → Slab} (h : Reports e a c) : Reports e a (c.modSlab x g) := h.same rfl rfl rfl rfl rfl

theorem modDigest {g : Digest → Digest} (h : Reports e a c) : Reports e a (c.modDigest g) := h.same rfl rfl rfl rfl rfl

theorem modFile {g : FileRec → FileRec} (h : Reports e a c) : Reports e a (c.modFile r g) := h.same rfl rfl rfl rfl rfl

theorem setFiles {fs : List FileRec} (h : Reports e a c) : Reports e a { c with files := fs } := h.same rfl rfl rfl rfl rfl

theorem setWait {w : Option SlabUse} (h : Reports e a c) : Reports e a (c.setWait n w) := h.same rfl rfl rfl rfl rfl

theorem setFileDoneWaiting {w : Bool} (h : Reports e a c) : Reports e a (c.setFileDoneWaiting n w) :=
  h.same rfl rfl rfl rfl rfl

/-- A card port changes in what it does not show, and no WRITE comes to its link. -/
theorem changeUnshown {g : CardPort → CardPort} (h : Reports e a c) (hg : (g (c.card n)).shown = (c.card n).shown)
    (hl : (g (c.card n)).link.carries .write = true → (c.card n).link.carries .write = true) :
    Reports e a (c.modCard n g) := by
  have other {m : CardNo} (ne : m ≠ n) : (c.modCard n g).card m = c.card m := Ctl.modCard_card_ne c g ne
  refine h.quiet rfl List.prefix_rfl (fun _ _ => rfl) (fun m => ?_) (fun m carries => ?_) (fun _ => rfl) fun _ => ⟨rfl, rfl⟩
  · by_cases same : m = n
    · subst same
      rw [Ctl.modCard_card, hg]
    · rw [other same]
  · by_cases same : m = n
    · subst same
      rw [Ctl.modCard_card] at carries
      exact hl carries
    · rwa [other same] at carries

/-- A change that no card port shows, and that leaves the link. -/
theorem modCard {g : CardPort → CardPort} (h : Reports e a c) (hg : ∀ p, (g p).shown = p.shown ∧ (g p).link = p.link) :
    Reports e a (c.modCard n g) := h.changeUnshown (hg _).1 fun carries => (hg _).2 ▸ carries

/-- A job record changes in what is not told. -/
theorem changeUntold {g : Job → Job} (h : Reports e a c)
    (hg : (g (c.job n)).told = (c.job n).told ∧ (g (c.job n)).released = (c.job n).released) :
    Reports e a (c.modJob n g) := by
  refine h.quiet rfl List.prefix_rfl (fun _ _ => rfl) (fun _ => rfl) (fun _ => id) (fun _ => rfl) fun m => ?_
  rw [Ctl.modJob_job_ite]
  split
  · next same => exact same ▸ hg
  · exact ⟨rfl, rfl⟩

/-- A job is counted as its work goes on. -/
theorem countJob {g : Job → Job} (h : Reports e a c)
    (hg : ∀ j, (g j).told = j.told ∧ (g j).released = j.released) :
    Reports e a (c.modJob n g) := h.changeUntold (hg _)

/-- An entry that is not accounted for joins the queue. -/
theorem pushEntry {k : OutEntry} (h : Reports e a c) (hk : ∀ y : Subject, y.accounted = true → k.kind ≠ .notice y) :
    Reports e a (c.pushEntry k) := by
  refine h.queued (by rw [List.map_append]; exact List.prefix_append _ _) fun y hy => ?_
  simp [Ctl.about, List.filter_append, hk y hy]

/-- A notice that is not accounted for is queued or updated. -/
theorem pushNotice {s : Subject} {l : List Byte} (h : Reports e a c) (hs : s.accounted = false) :
    Reports e a (c.pushNotice s l) := by
  refine h.queued (c.pushNotice_kinds s l) fun y hy => Ctl.pushNotice_about_ne l ?_
  rintro rfl
  rw [hs] at hy
  cases hy

/-! ### Changes that are reported -/

/-- A card port that changes is due. -/
theorem changeCard {g : CardPort → CardPort} (h : Reports e a c)
    (hl : (g (c.card n)).link.carries .write = true → (c.card n).link.carries .write = true)
    (hg : (g (c.card n)).state = .empty ∨ (a.card n).grade ≤ (g (c.card n)).grade) :
    Reports (e.port (.card n)) a (c.modCard n g) := by
  have other {m : CardNo} (hm : m ≠ n) : (c.modCard n g).card m = c.card m := Ctl.modCard_card_ne c g hm
  refine { h with port := fun q hq => ?_, link := fun m carries => ?_, grade := fun m => ?_,
                  job := fun m hm => (h.job m hm).same rfl rfl, count := fun m was is => (h.count m was is).same rfl rfl }
  · obtain ⟨hq, ne⟩ := not_or.1 hq
    refine (h.port q hq).same ?_ rfl
    cases q with
    | card m => exact ⟨by rw [other fun same => ne (same ▸ rfl)], .rfl⟩
    | drive d => rfl
  · by_cases same : m = n
    · subst same
      rw [Ctl.modCard_card] at carries
      exact h.link m (hl carries)
    · rw [other same] at carries
      exact h.link m carries
  · by_cases same : m = n
    · subst same
      rw [Ctl.modCard_card]
      exact hg
    · rw [other same]
      exact h.grade m

/-- A drive port that changes is due. -/
theorem changeDrive {g : DrivePort → DrivePort} (h : Reports e a c) :
    Reports (e.port (.drive d)) a (c.modDrive d g) := by
  refine { h with port := fun q hq => ?_, job := fun m hm => (h.job m hm).same rfl rfl,
                  count := fun m was is => (h.count m was is).same rfl rfl }
  obtain ⟨hq, ne⟩ := not_or.1 hq
  refine (h.port q hq).same ?_ rfl
  cases q with
  | card m => exact ⟨rfl, .rfl⟩
  | drive d' =>
    rw [Ctl.ShownSame, Ctl.modDrive_drive_ite, if_neg]
    exact fun same => ne (same ▸ rfl)

/-- The PORT_EVENT of a port that is due (R132, R153). -/
theorem notifyPort (h : Reports (e.port p) a c) : Reports e a (c.notifyPort p) := by
  by_cases on : a.notices.portEvent = true
  · have told : c.notifyPort p = c.pushNotice (.portEvent p) (c.portEventPayload p) := by
      rw [Ctl.notifyPort, if_pos (h.notices ▸ on)]
    have about {y : Subject} (ne : y ≠ .portEvent p) :
        (c.pushNotice (.portEvent p) (c.portEventPayload p)).about y = c.about y := Ctl.pushNotice_about_ne _ ne
    rw [told]
    refine ⟨h.notices, h.kinds.trans (c.pushNotice_kinds _ _), fun q hq => ?_, fun off => absurd on (by simp [off]), h.still,
      fun m hm => (h.job m hm).same rfl (about (by simp)), fun off m => (about (by simp)).trans (h.jobOff off m),
      fun m was is => (h.count m was is).same rfl (about (by simp)),
      fun off m => (about (by simp)).trans (h.countOff off m), h.link, h.grade⟩
    by_cases same : q = p
    · subst same
      exact fun _ => .inr ((c.pushNotice_allTell _ _))
    · refine (h.port q (not_or.2 ⟨hq, same⟩)).same ?_ (about (by simpa using same))
      exact .refl c q
  · have silent : c.notifyPort p = c := by rw [Ctl.notifyPort, if_neg (h.notices ▸ on)]
    rw [silent]
    exact { h with port := fun q _ => fun on' => absurd on' on }

/-- A job that changes is due; it does not become FREE or cease to be, and its count stays. -/
theorem changeJob {g : Job → Job} (h : Reports e a c) (free : (g (c.job n)).state = .free ↔ (c.job n).state = .free)
    (released : (g (c.job n)).released = (c.job n).released) : Reports (e.job n) a (c.modJob n g) := by
  have other {m : CardNo} (hm : m ≠ n) : (c.modJob n g).job m = c.job m := Ctl.modJob_job_ne c g hm
  have free' (m : CardNo) : ((c.modJob n g).job m).state = .free ↔ (c.job m).state = .free := by
    by_cases same : m = n
    · subst same
      rw [Ctl.modJob_job, free]
    · rw [other same]
  refine { h with port := fun q hq => (h.port q hq).same ?_ rfl, still := fun m hm => ?_, job := fun m hm => ?_,
                  count := fun m was is => (h.count m was (mt (free' m).2 is)).same ?_ rfl }
  · cases q with
    | card m => exact ⟨rfl, free' m⟩
    | drive d => rfl
  · obtain ⟨hm, ne⟩ := not_or.1 hm
    rw [other ne]
    exact h.still m hm
  · obtain ⟨hm, ne⟩ := not_or.1 hm
    exact (h.job m hm).same (by rw [other ne]) rfl
  · by_cases same : m = n
    · subst same
      rw [Ctl.modJob_job, released]
    · rw [other same]

/-- A job that is due is reported. -/
theorem reportedJob (h : Reports (e.job n) a c) (reported : a.JobReported c n) : Reports (e.move n) a c := by
  refine { h with job := fun m hm => ?_ }
  by_cases same : m = n
  · exact same ▸ reported
  · exact h.job m (not_or.2 ⟨hm, same⟩)

/-- The binding of a port changes: the port is due and the job is due. Counts begin and end with it. -/
theorem bindJob {g : Job → Job} (h : Reports e a c) (free : (a.job n).state = .free ∨ (g (c.job n)).state = .free) :
    Reports ((e.job n).port (.card n)) a (c.modJob n g) := by
  have other {m : CardNo} (hm : m ≠ n) : (c.modJob n g).job m = c.job m := Ctl.modJob_job_ne c g hm
  refine { h with port := fun q hq => ?_, still := fun m hm => ?_, job := fun m hm => ?_, count := fun m was is => ?_ }
  · obtain ⟨hq, ne⟩ := not_or.1 hq
    refine (h.port q hq).same ?_ rfl
    cases q with
    | card m => exact ⟨rfl, by rw [other fun same => ne (same ▸ rfl)]⟩
    | drive d => rfl
  · obtain ⟨hm, ne⟩ := not_or.1 hm
    rw [other ne]
    exact h.still m hm
  · obtain ⟨hm, ne⟩ := not_or.1 hm
    exact (h.job m hm).same (by rw [other ne]) rfl
  · by_cases same : m = n
    · subst same
      rw [Ctl.modJob_job] at is
      exact (free.elim was is).elim
    · rw [other same] at is
      exact (h.count m was is).same (by rw [other same]) rfl

/-- The JOB_STATE of a job that is due (R33). -/
theorem notifyJob (h : Reports (e.job n) a c) (onward : (a.job n).Onward (c.job n)) :
    Reports (e.move n) a (c.notifyJob n) := by
  by_cases on : a.notices.jobState = true
  · have told : c.notifyJob n = c.pushNotice (.jobState n) (c.jobStatePayload n) := by
      rw [Ctl.notifyJob, if_pos (h.notices ▸ on)]
    have about {y : Subject} (ne : y ≠ .jobState n) :
        (c.pushNotice (.jobState n) (c.jobStatePayload n)).about y = c.about y := Ctl.pushNotice_about_ne _ ne
    rw [told]
    refine ⟨h.notices, h.kinds.trans (c.pushNotice_kinds _ _),
      fun q hq => (h.port q hq).same (.refl c q) (about (by simp)),
      fun off q => (about (by simp)).trans (h.portOff off q), h.still, fun m hm => ?_,
      fun off => absurd on (by simp [off]), fun m was is => (h.count m was is).same rfl (about (by simp)),
      fun off m => (about (by simp)).trans (h.countOff off m), h.link, h.grade⟩
    by_cases same : m = n
    · subst same
      exact .inr ⟨onward, fun _ => c.pushNotice_allTell _ _⟩
    · exact (h.job m (not_or.2 ⟨hm, same⟩)).same rfl (about (by simpa using same))
  · have silent : c.notifyJob n = c := by rw [Ctl.notifyJob, if_neg (h.notices ▸ on)]
    rw [silent]
    exact h.reportedJob (.inr ⟨onward, fun on' => absurd on' on⟩)

/-- A count that rises by one, and the PROGRESS it may lead to (R34). -/
theorem countReleased (h : Reports e a c) :
    Reports e a ((c.modJob n fun j => { j with released := (j.released + 1) % 2 ^ 32 }).notifyProgress n) := by
  obtain ⟨k, hk⟩ : ∃ k, k = c.modJob n fun j => { j with released := (j.released + 1) % 2 ^ 32 } := ⟨_, rfl⟩
  have raised : (k.job n).released = ((c.job n).released + 1) % 2 ^ 32 := by rw [hk, Ctl.modJob_job]
  have told (m : CardNo) : (k.job m).told = (c.job m).told := by
    rw [hk, Ctl.modJob_job_ite]
    split
    · next same => exact same ▸ rfl
    · rfl
  have others {m : CardNo} (ne : m ≠ n) : (k.job m).released = (c.job m).released := by rw [hk, Ctl.modJob_job_ne _ _ ne]
  have kept : c.outq = k.outq ∧ c.notices = k.notices ∧ c.cards = k.cards ∧ c.drives = k.drives := by
    rw [hk]
    exact ⟨rfl, rfl, rfl, rfl⟩
  obtain ⟨outq, notices, cards, drives⟩ := kept
  have about (y : Subject) : k.about y = c.about y := Ctl.about_of_outq outq.symm y
  have card (m : CardNo) : k.card m = c.card m := Ctl.card_of_cards cards.symm m
  have drive (d : DriveNo) : (k.drive d).shown = (c.drive d).shown := by rw [Ctl.drive_of_drives drives.symm]
  have settings : k.notices = a.notices := notices.symm.trans h.notices
  rw [← hk]
  by_cases hit : 0 < k.notices.step ∧ (k.job n).released % 2 ^ k.notices.step = 0
  · have other {y : Subject} (ne : y ≠ .progress n) :
        (k.pushNotice (.progress n) (k.progressPayload n)).about y = c.about y :=
      (Ctl.pushNotice_about_ne _ ne).trans (about y)
    rw [Ctl.notifyProgress, if_pos hit]
    refine h.counting notices.symm (outq ▸ k.pushNotice_kinds _ _) (fun _ => other (by simp)) (fun _ => other (by simp))
      (fun m => by rw [← card]; rfl) (fun m => by rw [← card]; exact id) drive told (fun m counted => ?_)
      fun off => absurd hit.1 (by rw [settings, off]; simp)
    by_cases same : m = n
    · subst same
      exact counted.succ raised (fun _ _ => ⟨_, _, _, (k.pushNotice_allTell _ _).tells⟩)
        (fun _ silent => absurd (settings ▸ hit.2) silent) rfl
    · exact counted.same (others same) (other (by simpa using same))
  · rw [Ctl.notifyProgress, if_neg hit]
    refine h.counting notices.symm (outq ▸ List.prefix_rfl) (fun _ => about _) (fun _ => about _)
      (fun m => by rw [card]) (fun m => by rw [card]; exact id) drive told (fun m counted => ?_) fun _ _ => about _
    by_cases same : m = n
    · subst same
      exact counted.succ raised (fun on due => absurd (settings ▸ ⟨on, due⟩) hit) (fun _ _ => about _) rfl
    · exact counted.same (others same) (about _)

end

end Ctl.Reports

end Sys2Proof.Machine

namespace Sys2Proof.Machine

/-- A link on which no WRITE is issued comes to carry none (R157). -/
theorem Link.carries_of_issue {l : Link} {k : TxnKind} {i j g q : Nat} (hk : k ≠ .write)
    (h : (l.issue k i j g q).carries .write = true) : l.carries .write = true :=
  (l.issue_carries k .write i j g q h).resolve_left fun same => hk same.symm

/-- Job record j passes to j' in the course of an event: the job is not freed, its flag and its count stay, and its last
release cause changes only with its state. -/
structure Job.Passes (j j' : Job) : Prop where
  bound : j'.state ≠ .free
  back : j'.state = .suspending → j.state ≠ .suspended
  closed : j'.closed = j.closed
  released : j'.released = j.released
  last : j'.lastRelease = j.lastRelease ∨ j'.state ≠ j.state

theorem Job.not_free_of_active {j : Job} (h : j.isActive = true) : j.state ≠ .free := by
  intro free
  simp [Job.isActive, free] at h

/-- What a passage keeps of a job record that stays in its state. -/
def Job.kept (j : Job) : JobState × Bool × Nat × ReleaseCause := (j.state, j.closed, j.released, j.lastRelease)

/-- A change of other fields is such a passage. -/
theorem Job.Passes.of_state {j j' : Job} (active : j.isActive = true) (same : j'.kept = j.kept) : j.Passes j' := by
  obtain ⟨state, closed, released, last⟩ : j'.state = j.state ∧ j'.closed = j.closed ∧ j'.released = j.released
      ∧ j'.lastRelease = j.lastRelease := by simpa only [Job.kept, Prod.mk.injEq] using same
  exact ⟨state ▸ Job.not_free_of_active active, fun h => by rw [← state, h]; exact JobState.noConfusion, closed, released,
    .inl last⟩

theorem Job.Passes.releaseIfEmpty {j j' : Job} (active : j.isActive = true) (same : j'.kept = j.kept) (r : ReleaseCause) :
    j.Passes (j'.releaseIfEmpty r) := by
  have passes := Job.Passes.of_state active same
  unfold Job.releaseIfEmpty
  split
  · next held =>
    have state : j'.state = j.state := congrArg (·.1) same
    refine ⟨JobState.noConfusion, fun h => (JobState.noConfusion h), passes.closed, passes.released, .inr ?_⟩
    rw [← state, held.1]
    exact JobState.noConfusion
  · exact passes

theorem Job.Passes.holdIfRunning {j j' : Job} (active : j.isActive = true) (same : j'.kept = j.kept) :
    j.Passes j'.holdIfRunning := by
  have passes := Job.Passes.of_state active same
  unfold Job.holdIfRunning
  split
  · have last : j'.lastRelease = j.lastRelease := congrArg (·.2.2.2) same
    exact ⟨JobState.noConfusion, fun h => (JobState.noConfusion h), passes.closed, passes.released, .inl last⟩
  · exact passes

theorem Job.dropped_passes {j : Job} (active : j.isActive = true) (d : DriveNo) : j.Passes (j.dropped d) := by
  unfold Job.dropped
  simp only
  split
  · exact Job.Passes.releaseIfEmpty active (by rfl) _
  · exact .of_state active (by rfl)

namespace Ctl.Reports

section
variable {e : Due} {a c t : Ctl} {n : CardNo} {d : DriveNo} {x : SlabNo} {r : FileRef} {f : FileRec} {p : PortId}

/-! ### Lamps, marks, job records -/

theorem lampUpdate (h : Reports e a c) : Reports e a (c.lampUpdate n) :=
  .ite (fun _ => h.modCard fun p => p.show_shown _) fun _ => h

/-- Marks that change are reported (R110). -/
theorem setMarks {i j k : Bool} (h : Reports e a c) : Reports e a (c.setMarks n i j k) := by
  refine .ite (fun _ => h) fun _ => notifyPort (lampUpdate (h.changeCard (fun carries => carries) ?_))
  exact h.grade n

theorem dropWaitUnlessRunning (h : Reports e a c) : Reports e a (c.dropWaitUnlessRunning n) :=
  .ite (fun _ => h.setWait) fun _ => h

theorem dropStaleWait (h : Reports e a c) : Reports e a (c.dropStaleWait n) := .ite (fun _ => h.setWait) fun _ => h

/-- A job record changes, and the job moves on (R33). -/
theorem moveJob {g : Job → Job} (h : Reports e a c) (free : (g (c.job n)).state = .free ↔ (c.job n).state = .free)
    (released : (g (c.job n)).released = (c.job n).released) (moved : (g (c.job n)).noticed ≠ (c.job n).noticed)
    (onward : (a.job n).Onward (g (c.job n))) : Reports (e.move n) a (c.updJob n g) := by
  have job : (((c.modJob n g).dropWaitUnlessRunning n).lampUpdate n).job n = g (c.job n) := by
    rw [Ctl.job_of_jobs (Ctl.lampUpdate_jobs _ n), Ctl.job_of_jobs (Ctl.dropWaitUnlessRunning_jobs _ n), Ctl.modJob_job]
  simp only [Ctl.updJob, job]
  rw [if_neg moved]
  refine (h.changeJob free released).dropWaitUnlessRunning.lampUpdate.notifyJob ?_
  rw [job]
  exact onward

/-- An active job that has not moved passes to another record (R33). -/
theorem passJob {g : Job → Job} (h : Reports e a c) (still : ¬e.moved n) (active : (c.job n).isActive = true)
    (passes : (c.job n).Passes (g (c.job n))) : Reports (e.move n) a (c.updJob n g) := by
  have free : (g (c.job n)).state = .free ↔ (c.job n).state = .free :=
    iff_of_false passes.bound (Job.not_free_of_active active)
  by_cases moved : (g (c.job n)).noticed = (c.job n).noticed
  · have last : (g (c.job n)).lastRelease = (c.job n).lastRelease :=
      passes.last.resolve_right fun ne => ne (Job.noticed_fields moved).1
    have job : (((c.modJob n g).dropWaitUnlessRunning n).lampUpdate n).job n = g (c.job n) := by
      rw [Ctl.job_of_jobs (Ctl.lampUpdate_jobs _ n), Ctl.job_of_jobs (Ctl.dropWaitUnlessRunning_jobs _ n), Ctl.modJob_job]
    simp only [Ctl.updJob, job]
    rw [if_pos moved]
    have told : (g (c.job n)).told = (c.job n).told := by rw [Job.told, moved, passes.closed, last, Job.told]
    exact (h.changeUntold ⟨told, passes.released⟩).dropWaitUnlessRunning.lampUpdate.move
  · have onward : (c.job n).Onward (g (c.job n)) := ⟨moved, fun _ => Job.not_ended_of_active active, passes.back⟩
    exact h.moveJob free passes.released moved (onward.of_still (h.still n still))

/-! ### Slabs (03) -/

theorem cardRead {i k : Nat} (h : Reports e a c) : Reports e a (c.cardRead n i k) :=
  h.changeUnshown rfl (Link.carries_of_issue (by simp))

theorem cardIdentify (h : Reports e a c) : Reports e a (c.cardIdentify n) :=
  h.changeUnshown rfl (Link.carries_of_issue (by simp))

theorem driveIssue {k : TxnKind} {i j : Nat} (h : Reports e a c) : Reports e a (c.driveIssue d k i j) :=
  h.modDrive fun _ => rfl

theorem issueSpanRead (h : Reports e a c) : Reports e a (c.issueSpanRead n) := by
  unfold Ctl.issueSpanRead
  split
  · exact h
  · simp only
    split
    · exact h
    · split
      · exact h
      · exact (h.modCard (by intro; exact ⟨rfl, rfl⟩)).cardRead

theorem grant {u : SlabUse} (h : Reports e a c) : Reports e a (c.grant n u x) := by
  cases u with
  | source =>
    simp only [Ctl.grant]
    cases hf : c.readingFile n with
    | none =>
      simp only [Ctl.grantSource, hf]
      exact h.setWait
    | some f =>
      rw [Ctl.grantSource_eq hf]
      exact issueSpanRead (modCard (h.same rfl rfl rfl rfl rfl) (by intro; exact ⟨rfl, rfl⟩))
  | scan => exact cardRead (modCard (h.same rfl rfl rfl rfl rfl) (by intro; exact ⟨rfl, rfl⟩))

theorem raise {u : SlabUse} (h : Reports e a c) : Reports e a (c.raise n u) := by
  obtain ⟨-, eq⟩ | ⟨-, x, -, eq⟩ | ⟨-, -, eq⟩ := c.raise_cases n u <;> rw [eq]
  · exact h
  · exact h.grant
  · exact h.setWait

theorem raiseSource (h : Reports e a c) : Reports e a (c.raiseSource n) := .ite (fun _ => h.raise) fun _ => h

theorem offer (h : Reports e a c) : Reports e a (c.offer x) := by
  obtain ⟨w, ⟨n, u, -, -, -, eq⟩ | eq⟩ := Ctl.offerRun_cases 8 c x <;> rw [Ctl.offer, eq]
  · exact grant (h.same rfl rfl rfl rfl rfl)
  · exact h.same rfl rfl rfl rfl rfl

theorem freePoolSlab (h : Reports e a c) : Reports e a (c.freePoolSlab x) := h.modSlab.offer

theorem releaseCounted (h : Reports e a c) : Reports e a (c.releaseCounted n x) := h.modSlab.countReleased.offer

theorem testRelease (h : Reports e a c) : Reports e a (c.testRelease x) := by
  obtain ⟨n, -, -, eq⟩ | eq := c.testRelease_cases x <;> rw [eq]
  · exact h.releaseCounted
  · exact h

theorem testReleases {l : List SlabNo} (h : Reports e a c) : Reports e a (c.testReleases l) :=
  h.foldl (fun _ _ h => h.testRelease) l

theorem purgeDest {l : List SlabNo} (h : Reports e a c) : Reports e a (c.purgeDest d l) :=
  (h.foldl (fun _ _ h => h.modSlab) l).testReleases

theorem fifoPush (h : Reports e a c) : Reports e a (c.fifoPush x) := h.modDigest

theorem fifoRemove (h : Reports e a c) : Reports e a (c.fifoRemove x) := h.modDigest

theorem markDiscard (h : Reports e a c) : Reports e a (c.markDiscard x) := .ite (fun _ => h.modDigest) fun _ => h

theorem withdrawDigest (h : Reports e a c) : Reports e a (c.withdrawDigest x) :=
  .ite (fun _ => h.fifoRemove.modSlab) fun _ => h.markDiscard

theorem freeVerifySlab (h : Reports e a c) : Reports e a (c.freeVerifySlab d) := h.modSlab

/-! ### Drive ports (07) -/

theorem startWrite {i : Nat} {b : Bool} (h : Reports e a c) : Reports e a (c.startWrite d x i b) := by
  unfold Ctl.startWrite
  split
  · exact h
  · exact driveIssue (modDrive (.ite (fun _ => (h.modDrive (by intro; rfl)).modSlab) fun _ => h)
      (by intro; rfl))

theorem takeSpan (h : Reports e a c) : Reports e a (c.takeSpan d) := by
  unfold Ctl.takeSpan
  split
  · split
    · exact h
    · exact (h.modDrive (by intro; rfl)).modSlab
  · exact h

theorem issueReadBack (h : Reports e a c) : Reports e a (c.issueReadBack d) := by
  obtain eq | ⟨start, count, eq⟩ := c.issueReadBack_cases d <;> rw [eq]
  · exact h
  · exact h.modDrive (by intro; rfl)

theorem portStep (h : Reports e a c) (s : c.PortStep d t) : Reports e a t := by
  cases s with
  | verify | stageNext | stageOldest => exact h.modDrive (by intro; rfl)
  | staged | oldest => exact (h.modDrive (by intro; rfl)).startWrite
  | readBack => exact h.takeSpan.issueReadBack
  | next => exact h.startWrite

theorem pump (h : Reports e a c) : Reports e a (c.pump d) := Ctl.pump_induction h fun _ _ h s => h.portStep s

theorem pumpAll (h : Reports e a c) : Reports e a c.pumpAll := h.eachDrive fun _ _ h => h.pump

theorem choose (h : Reports e a c) : Reports e a (c.choose d) := by
  obtain eq | s := c.choose_step d
  · rwa [eq]
  · exact h.portStep s

theorem releaseVerifySlab (h : Reports e a c) : Reports e a (c.releaseVerifySlab d) := by
  simp only [Ctl.releaseVerifySlab]
  split
  · exact h
  · exact .ite (fun _ => h.modDrive (by intro; rfl)) fun _ => h.freeVerifySlab
  · exact .ite (fun _ => h.fifoRemove.freeVerifySlab) fun _ => h.markDiscard

theorem abandonContext (h : Reports e a c) : Reports e a (c.abandonContext d) :=
  .ite (fun _ => (h.releaseVerifySlab.modDrive (by intro; rfl))) fun _ => h

theorem leaveWriting (h : Reports e a c) : Reports e a (c.leaveWriting d) := by
  unfold Ctl.leaveWriting
  split
  · exact h
  · exact (h.modDrive (by intro; rfl)).modSlab

theorem closeWriting {p : Bool} (h : Reports e a c) : Reports e a (c.closeWriting d p) := by
  unfold Ctl.closeWriting
  split
  · exact h
  · exact .ite (fun _ => h.leaveWriting.modSlab) fun _ => h.leaveWriting

theorem endWriting {p : Bool} (h : Reports e a c) : Reports e a (c.endWriting d p) := by
  unfold Ctl.endWriting
  split
  · exact h
  · exact h.closeWriting.testRelease

theorem withdraw {s : Slab → Bool} {r : FileRef → Bool} {p : Bool} (h : Reports e a c) :
    Reports e a (c.withdraw d s r p) := by
  rw [Ctl.withdraw_eq]
  have abandoned : Reports e a ((c.modDrive d fun q => q.filtered (fun x => s (c.slab x)) r).abandonOf d r) :=
    .ite (fun _ => (h.modDrive (by intro; rfl)).abandonContext) fun _ => (h.modDrive (by intro; rfl))
  exact .ite (fun _ => abandoned.closeWriting) fun _ => abandoned

theorem promptDrive (h : Reports e a c) : Reports e a (Ctl.promptDrive n c d) := by
  have unstaged : Reports e a (Ctl.unstage n c d) := by
    unfold Ctl.unstage
    split
    · exact .ite (fun _ => h.modDrive (by intro; rfl)) fun _ => h
    · exact h
  rw [Ctl.promptDrive_eq]
  unfold Ctl.putBackVerify
  split
  · exact .ite (fun _ => unstaged.abandonContext.modDrive (by intro; rfl)) fun _ => unstaged
  · exact unstaged

theorem dropWork (h : Reports e a c) : Reports e a (c.dropWork d) := by
  have emptied : Reports e a (((c.modDrive d fun p => { p with staged := none }).endWriting d false).modDrive d
      fun p => { p with writeQueue := [] }) := (h.modDrive (by intro; rfl)).endWriting.modDrive
      fun _ => rfl
  unfold Ctl.dropWork
  exact modDrive (ite (fun _ => emptied.freeVerifySlab) fun _ => emptied.abandonContext) (by intro; rfl)

theorem requeueWrites {l : List CardNo} (h : Reports e a c) : Reports e a (c.requeueWrites d l) :=
  (h.modDrive (by intro; rfl)).purgeDest

theorem requeueVerifies {l : List CardNo} (h : Reports e a c) : Reports e a (c.requeueVerifies d l) := by
  unfold Ctl.requeueVerifies
  exact h.modDrive (by intro; rfl)

theorem endEntries (h : Reports e a c) : Reports e a (Ctl.endEntries r c d) :=
  .ite (fun _ => h) fun _ => (h.modDrive (by intro; rfl)).purgeDest.pump

/-! ### Files (02) -/

theorem retire {o : FileOutcome} (h : Reports e a c) : Reports e a (c.retire f o) := by
  have left : Reports e a { c with
      files := c.files.filter (fun g => g.ref != f.ref), fileDoneTurn := f.ref.job } := h.same rfl rfl rfl rfl rfl
  have retired : Reports e a (c.retired f o) := (left.pushEntry fun y hy => by rintro ⟨rfl⟩; cases hy).countJob
    (by intro; exact ⟨rfl, rfl⟩)
  rw [Ctl.retire_eq]
  exact retired.eachDrive fun _ _ h => h.endEntries

theorem retireRun (k : Nat) (h : Reports e a c) : Reports e a (c.retireRun k n) := by
  induction k generalizing c with
  | zero => exact h
  | succ k ih =>
    simp only [Ctl.retireRun]
    split
    · exact h.setFileDoneWaiting
    · split
      · exact .ite (fun _ => ih h.retire) fun _ => h.setFileDoneWaiting
      · exact h.setFileDoneWaiting

theorem testRetire (h : Reports e a c) : Reports e a (c.testRetire n) := h.retireRun _

theorem testComplete (h : Reports e a c) : Reports e a (c.testComplete r) := by
  unfold Ctl.testComplete
  split
  · exact h
  · exact .ite (fun _ => h.modFile.testRetire) fun _ => h

theorem testCompletes {l : List FileRef} (h : Reports e a c) : Reports e a (c.testCompletes l) :=
  h.foldl (fun _ _ h => h.testComplete) l

theorem sourceGood (h : Reports e a c) : Reports e a (c.sourceGood r) := by
  have counted := (h.modFile (r := r) (g := fun f => FileRec.compare { f with result := .good })).countJob (n := r.job)
    (g := fun j => { j with failures := 0 }) fun _ => ⟨rfl, rfl⟩
  exact counted.testComplete

theorem promoteRun (k : Nat) (h : Reports e a c) : Reports e a (c.promoteRun k n) := by
  induction k generalizing c with
  | zero => exact h
  | succ k ih =>
    simp only [Ctl.promoteRun]
    refine .ite (fun _ => ?_) fun _ => h
    split
    · exact h
    · exact .ite (fun _ => ih (h.modFile.countJob (by intro; exact ⟨rfl, rfl⟩)).testComplete) fun _ => h.modFile

theorem promote (h : Reports e a c) : Reports e a (c.promote n) := h.promoteRun _
end
end Ctl.Reports
end Sys2Proof.Machine

namespace Sys2Proof.Machine

section
variable {a c : Ctl} {n : CardNo} {j' : Job}

/-- A job that may be said to be what it was, or to have moved on, moves on into ENDED. -/
theorem Ctl.JobReported.ends (h : a.JobReported c n) (bound : (c.job n).state ≠ .free) (going : (c.job n).state ≠ .ended)
    (ended : j'.state = .ended) : (a.job n).Onward j' := by
  have going' : (a.job n).state ≠ .ended := by
    obtain ⟨same, -⟩ | ⟨onward, -⟩ := h
    · rwa [← (Job.noticed_fields same).1]
    · exact onward.ended bound
  exact .of_state going' (ended ▸ going'.symm) fun suspending => by rw [ended] at suspending; cases suspending

/-- A job that is SUSPENDING moves on into SUSPENDED. -/
theorem Ctl.JobReported.suspends (h : a.JobReported c n) (suspending : (c.job n).state = .suspending)
    (suspended : j'.state = .suspended) : (a.job n).Onward j' := by
  have before : (a.job n).state ≠ .ended ∧ (a.job n).state ≠ .suspended := by
    obtain ⟨same, -⟩ | ⟨onward, -⟩ := h
    · rw [← (Job.noticed_fields same).1, suspending]
      exact ⟨JobState.noConfusion, JobState.noConfusion⟩
    · exact ⟨onward.ended (by rw [suspending]; exact JobState.noConfusion), onward.suspended suspending⟩
  exact .of_state before.1 (suspended ▸ before.2.symm) fun other => by rw [suspended] at other; cases other

end

namespace Ctl.Reports

section
variable {e : Due} {a c t : Ctl} {n : CardNo} {d : DriveNo} {x : SlabNo} {r : FileRef} {f : FileRec} {p : PortId}

/-! ### The job unit (01) -/

theorem moveTwice (h : Reports ((e.move n).move n) a c) : Reports (e.move n) a c :=
  h.mono (fun _ => id) (fun _ => id) fun _ moved => moved.elim id .inr

theorem eachJob {g : Ctl → CardNo → Ctl} (hg : ∀ e c n, ¬e.moved n → Reports e a c → Reports (e.move n) a (g c n))
    (still : ∀ n, ¬e.moved n) (h : Reports e a c) : Reports e.moveAll a (Machine.eachJob g c) := by
  have all := hg _ _ 7 ?_ (hg _ _ 6 ?_ (hg _ _ 5 ?_ (hg _ _ 4 ?_ (hg _ _ 3 ?_ (hg _ _ 2 ?_ (hg _ _ 1 ?_
    (hg _ _ 0 (still 0) h)))))))
  · exact all.mono (fun _ => id) (fun _ => id) fun _ _ => trivial
  all_goals simp [Due.move, still]

theorem evaluateClearance (h : Reports e a c) : Reports e a (c.evaluateClearance n) :=
  .ite (fun _ => h.setMarks) fun _ => h.setMarks

/-- A job that moves on into ENDED (R8, R33). -/
theorem endJob {k : EndReason} (h : Reports e a c) (bound : (c.job n).state ≠ .free)
    (onward : (a.job n).Onward ((c.job n).endedBy k)) : Reports (e.move n) a (c.endJob n k) := by
  obtain ⟨u, hu⟩ : ∃ u, u =
    (((c.modJob n fun j => j.endedBy k).dropWaitUnlessRunning n).evaluateClearance n).lampUpdate n := ⟨_, rfl⟩
  have ended : Reports (e.job n) a u := hu ▸ lampUpdate (evaluateClearance (dropWaitUnlessRunning
    (h.changeJob (iff_of_false JobState.noConfusion bound) rfl)))
  have told : c.endJob n k = u.notifyJob n := by rw [hu]; rfl
  have job : u.job n = (c.job n).endedBy k := by
    rw [← Ctl.endJob_job, told, Ctl.job_of_jobs (Ctl.notifyJob_jobs _ n)]
  rw [told]
  exact ended.notifyJob (job ▸ onward)

theorem drainSlab (h : Reports e a c) : Reports e a (Ctl.drainSlab n c x) :=
  .ite (fun _ => h.releaseCounted) fun _ => h.freePoolSlab

theorem drainedStop (h : Reports e a c) : Reports e a (c.drainedStop n) :=
  testRetire (setFiles (h.foldl (fun _ _ h => h.drainSlab) _))

/-- What settles of a job that is reported is reported (R8, R20, R21, R26). -/
theorem settle (h : Reports e a c) (reported : ¬e.jobs n) : Reports (e.move n) a (c.settle n) := by
  have dropped : Reports e a (c.dropStaleWait n) := h.dropStaleWait
  simp only [Ctl.settle]
  split
  · next run =>
    refine .ite (fun _ => dropped.endJob ?_ ((dropped.job n reported).ends ?_ ?_ rfl)) fun _ => dropped.raiseSource.move
    all_goals rw [run]; exact JobState.noConfusion
  · next held =>
    refine .ite (fun _ => dropped.endJob ?_ ((dropped.job n reported).ends ?_ ?_ rfl)) fun _ => dropped.move
    all_goals rw [held]; exact JobState.noConfusion
  · next suspending =>
    refine .ite (fun _ => dropped.moveJob (iff_of_false JobState.noConfusion ?_) rfl (fun same => ?_)
      ((dropped.job n reported).suspends suspending rfl)) fun _ => dropped.move
    · rw [suspending]
      exact JobState.noConfusion
    · have state := (Job.noticed_fields same).1
      rw [suspending] at state
      cases state
  · next stopping =>
    refine .ite (fun _ => ?_) fun _ => dropped.move
    have drained := dropped.drainedStop (n := n)
    have kept : ((c.dropStaleWait n).drainedStop n |>.job n).noticed = ((c.dropStaleWait n).job n).noticed :=
      ((refl (e := .none) (c.dropStaleWait n)).drainedStop (n := n)).still n id
    have state := (Job.noticed_fields kept).1.trans stopping
    rw [Ctl.drainStop_eq]
    refine .ite (fun _ => drained.endJob ?_ ((drained.job n reported).ends ?_ ?_ rfl)) fun _ => drained.move
    all_goals rw [state]; exact JobState.noConfusion
  · exact dropped.move

theorem settleOn (h : Reports .settled a c) : Reports .settled a (c.settle n) :=
  (h.settle id).mono (fun _ => id) (fun _ => id) fun _ _ => trivial

theorem settleAll (h : Reports .settled a c) : Reports .settled a (Machine.eachJob Ctl.settle c) :=
  eachJob_keeps (P := Reports .settled a) h fun _ _ h => h.settleOn

/-- A job that has not ended and is not stopping moves on into STOPPING (R24, R27). -/
theorem enterStopping {k : EndReason} (h : Reports e a c) (bound : (c.job n).state ≠ .free)
    (state : (c.job n).state ≠ .stopping) (onward : (a.job n).Onward ((c.job n).stopped k)) :
    Reports (e.move n) a (c.enterStopping n k) :=
  (((h.moveJob (iff_of_false JobState.noConfusion bound) rfl (fun same => state (Job.noticed_fields same).1.symm)
    onward).eachDrive fun _ _ h => h.withdraw).foldl (fun _ _ h => h.withdrawDigest) _).testReleases.pumpAll

theorem fault {k : FaultCause} (h : Reports e a c) (still : ¬e.moved n) (active : (c.job n).isActive = true) :
    Reports (e.move n) a (c.fault n k) :=
  (h.passJob still active ⟨JobState.noConfusion, fun h => (JobState.noConfusion h), rfl, rfl, .inl rfl⟩).pumpAll

theorem cardGone (h : Reports e a c) (still : ¬e.moved n) : Reports (e.move n) a (c.cardGone n) :=
  .ite (fun active => h.passJob still active (Job.Passes.holdIfRunning active (by rfl))) fun _ => h.move

theorem cardReturned (h : Reports e a c) (still : ¬e.moved n) : Reports (e.move n) a (c.cardReturned n) := by
  refine .ite (fun held => ?_) fun _ => h.move
  have active : (c.job n).isActive = true := (Bool.and_eq_true _ _ ▸ held).1
  refine .ite (fun _ => ?_) fun _ => .ite (fun _ => h.move) fun _ => h.fault still active
  split
  · exact h.passJob still active (Job.Passes.releaseIfEmpty active (by rfl) _)
  · exact h.passJob still active (.of_state active (by rfl))

theorem dropDest (h : Reports e a c) (still : ¬e.moved n) (active : (c.job n).isActive = true) :
    Reports (e.move n) a (c.dropDest n d) := by
  let tested (k : Ctl) : Ctl :=
    let k := k.purgeDest d (k.slabsWhere fun s => s.isFilledOf n)
    (k.resultsDropped n d).testCompletes (((k.resultsDropped n d).queue n).map (·.ref))
  have goesOn {e : Due} {a k : Ctl} (h : Reports e a k) : Reports e a (tested (k.withdrawJob d n)) :=
    testCompletes (setFiles (purgeDest (withdraw h)))
  obtain ⟨k, hk⟩ : ∃ k, k = tested ((c.updJob n fun j => j.dropped d).withdrawJob d n) := ⟨_, rfl⟩
  have reports : Reports (e.move n) a k := hk ▸ goesOn (h.passJob still active (Job.dropped_passes active d))
  have state : (k.job n).state = ((c.job n).dropped d).state := by
    have noticed := (goesOn (refl (e := .none) (c.updJob n fun j => j.dropped d))).still n id
    rw [← hk] at noticed
    rw [(Job.noticed_fields noticed).1, Ctl.updJob_job]
  have same : c.dropDest n d = (k.stopUndestined n).pump d := by rw [hk]; rfl
  have before := (Job.noticed_fields (h.still n still)).1
  obtain ⟨-, -, -, dropped⟩ := (c.job n).dropped_fields d
  rw [same]
  refine pump (.ite (fun stops => ?_) fun _ => reports)
  have going : (k.job n).state ≠ .stopping := by
    rw [Bool.and_eq_true] at stops
    simpa using stops.2
  refine moveTwice (reports.enterStopping ?_ going ?_)
  · rw [state]
    exact (Job.dropped_passes active d).bound
  · refine .of_state (before ▸ Job.not_ended_of_active active) (fun was => going ?_) fun h => (JobState.noConfusion h)
    obtain same | ⟨held, -⟩ := dropped
    · rw [state, same, before]
      exact was.symm
    · rw [← before, held] at was
      cases was

theorem holdDest (h : Reports e a c) (still : ¬e.moved n) (active : (c.job n).isActive = true) :
    Reports (e.move n) a (c.holdDest n d) :=
  setFiles (h.passJob still active (Job.Passes.holdIfRunning active (by rfl)))

theorem driveGoneFor (h : Reports e a c) (still : ¬e.moved n) : Reports (e.move n) a (Ctl.driveGoneFor d c n) := by
  refine .ite (fun live => ?_) fun _ => h.move
  have active : (c.job n).isActive = true := (Bool.and_eq_true _ _ ▸ live).1
  split
  · exact h.dropDest still active
  · exact h.holdDest still active

theorem driveReturnedFor (h : Reports e a c) (still : ¬e.moved n) : Reports (e.move n) a (Ctl.driveReturnedFor d c n) := by
  refine .ite (fun held => ?_) fun _ => h.move
  have active : (c.job n).isActive = true := by
    obtain ⟨bound, going, -⟩ := Ctl.driveMatches_iff.1 held
    exact (Job.isActive_iff _).2 ⟨bound, going⟩
  split
  · exact h.passJob still active (Job.Passes.releaseIfEmpty active (by rfl) _)
  · exact h.passJob still active (.of_state active (by rfl))

theorem countFailure (h : Reports e a c) (still : ¬e.moved n) : Reports (e.move n) a (c.countFailure n) := by
  have counted : Reports e a (c.modJob n fun j => { j with failures := min 3 (j.failures + 1) }) :=
    h.countJob fun _ => ⟨rfl, rfl⟩
  refine .ite (fun third => counted.fault still ?_) fun _ => counted.move
  obtain ⟨-, state | state | state⟩ := third <;> rw [Job.isActive, state]

/-- The source of a file fails, whose job has not moved (R47, R28). -/
theorem sourceFail {k : SourceResult} (h : Reports e a c) (still : ¬e.moved r.job) :
    Reports (e.move r.job) a (c.sourceFail r k) := by
  have failed : Reports e a (c.modFile r fun f =>
      { f with result := k, state := if f.state = .reading then .draining else f.state }) := h.modFile
  refine .ite (fun _ => ?_) fun _ => h.move
  have counted := Reports.ite (q := k = .failed) (fun _ => failed.countFailure still) fun _ => failed.move
  have withdrawn := ((counted.promote (n := r.job)).dropStaleWait (n := r.job)).foldl
    (g := fun c x => c.modSlab x Slab.keepInFlight) (fun _ _ h => h.modSlab)
  exact (((withdrawn _).eachDrive fun _ _ h => h.withdraw).foldl (fun _ _ h => h.withdrawDigest)
    _).modFile.testReleases.testComplete.pumpAll

end
end Ctl.Reports
end Sys2Proof.Machine

namespace Sys2Proof.Machine

theorem Ctl.examinePart_shown (m : List Host.Cell) (c : Ctl) (n : CardNo) :
    ((c.examinePart m n).card n).shown = (c.card n).shown := by
  unfold Ctl.examinePart
  simp only
  split
  · rw [Ctl.modCard_card]
    rfl
  · rfl

namespace Ctl.Reports

section
variable {e : Due} {a c t : Ctl} {n : CardNo} {d : DriveNo} {x : SlabNo} {r : FileRef} {f : FileRec} {p : PortId}
  {o : TxnOutcome} {cap : Nat} {ser : Serial}

/-! ### The ends of WRITEs and of read-backs (07) -/

theorem writeDone {k : Nat} (h : Reports e a c) : Reports e a (c.writeDone d n r k) := by
  have written := (h.modFile (r := r) (g := fun f => f.modDest d fun e => { e with
    bytesWritten := e.bytesWritten + k
    result := if e.bytesWritten + k = f.len then .written else e.result })).endWriting (d := d) (p := true)
  refine .ite (fun _ => ?_) fun _ => written
  split
  · exact written.modDrive (by intro; rfl)
  · exact written.testComplete

theorem writeFails (h : Reports e a c) : Reports e a (c.writeFails d r) := by
  simp only [Ctl.writeFails]
  exact testComplete (purgeDest (withdraw h.modFile.leaveWriting))

theorem writeClose {w : Writing} {k : Flight} {b : Bool} (h : Reports e a c) : Reports e a (c.writeClose d w k b) := by
  simp only [Ctl.writeClose]
  split
  · exact .ite (fun _ => h.endWriting) fun _ => .ite (fun _ => .ite (fun _ => h.endWriting) fun _ =>
      .ite (fun _ => h.modDrive (by intro; rfl)) fun _ => h.writeDone) fun _ => h.writeFails
  · exact h.endWriting

theorem retry {k : Flight} (h : Reports e a c) : Reports e a (c.retry d k) :=
  (h.modDrive (by intro; rfl)).driveIssue

theorem readBackFails (h : Reports e a c) : Reports e a (c.readBackFails d r) :=
  (h.freeVerifySlab.modFile.modDrive (by intro; rfl)).testComplete

theorem readBackGood {k : Context} {sp : Span} {g : Flight} (h : Reports e a c) : Reports e a (c.readBackGood d k sp g) :=
  .ite (fun _ => h.modDrive (by intro; rfl)) fun _ => h.modSlab.fifoPush.modDrive (by intro; rfl)

/-! ### The digest unit (04) -/

theorem digestBegin (h : Reports e a c) : Reports e a c.digestBegin := by
  unfold Ctl.digestBegin
  split
  · exact h.modDigest
  · exact h

theorem foldSource {m w i j : Nat} (h : Reports e a c) (still : ¬e.moved r.job) :
    Reports (e.move r.job) a (c.foldSource r m w i j) := by
  unfold Ctl.foldSource
  split
  · exact h.move
  · exact .ite (fun _ => h.move) fun _ => .ite (fun _ => .ite (fun _ => h.sourceFail still) fun _ => h.move) fun _ =>
      move (.ite (fun _ => h.modFile.sourceGood) fun _ => h.modFile)

theorem foldVerify {m w i j : Nat} (h : Reports e a c) : Reports e a (c.foldVerify d m w i j) := by
  unfold Ctl.foldVerify
  split
  · exact .ite (fun _ => (h.modFile.modDrive (by intro; rfl)).testComplete) fun _ =>
      .ite (fun _ => (h.modFile.modDrive (by intro; rfl)).testComplete) fun _ =>
      h.modDrive (by intro; rfl)
  · exact h

theorem digestFinish {i j : Nat} (h : Reports .none a c) : Reports .settled a (c.digestFinish x i j) := by
  simp only [Ctl.digestFinish]
  split
  · next r _ =>
    exact settleOn (testRelease (modSlab (movedSettled (n := r.job)
      (.ite (fun _ => h.modDigest.move) fun _ => h.modDigest.foldSource id))))
  · have folded : ∀ {d : DriveNo} {u : Digest → Digest} {b : Bool} {m w : Nat}, Reports .none a
        (((if b = true then c.modDigest u else (c.modDigest u).foldVerify d m w i j).freeVerifySlab d).pump d) :=
      pump (freeVerifySlab (.ite (fun _ => h.modDigest) fun _ => h.modDigest.foldVerify))
    split
    · exact folded.settled.settleOn
    · exact folded.settled
  · exact h.modDigest.settled

/-! ### The reader (6.5) -/

/-- Another attempt, one grade slower where the attempts at this one are used up (R121, R122). -/
theorem ladderStep {k : Flight} (h : Reports e a c) : Reports e a (c.ladderStep n k) := by
  refine cardRead (.ite (fun _ => h.modCard (by intro; exact ⟨rfl, rfl⟩)) fun _ =>
    notifyPort (h.changeCard (fun carries => carries) ?_))
  exact (h.grade n).imp_right fun le => Nat.le_succ_of_le le

theorem closeAttempts {k : Attempt} (h : Reports e a c) : Reports e a (c.closeAttempts n k) :=
  h.modCard fun _ => ⟨rfl, rfl⟩

theorem dropReader (h : Reports e a c) : Reports e a (c.dropReader n) := by
  unfold Ctl.dropReader
  split
  · exact h
  · exact (h.modCard (by intro; exact ⟨rfl, rfl⟩)).freePoolSlab

theorem readFails (h : Reports .none a c) : Reports .settled a (c.readFails n x) := by
  unfold Ctl.readFails
  split
  · exact h.dropReader.settled
  · exact movedSettled (h.dropReader.sourceFail id)

theorem fillSlab (h : Reports e a c) : Reports e a (c.fillSlab n x f) := by
  simp only [Ctl.fillSlab]
  refine eachDrive (g := Ctl.placeEntry n x) (fun _ _ h => .ite (fun _ => h.modDrive (by intro; rfl)) fun _ => h)
    (fifoPush ?_)
  exact h.same rfl rfl rfl rfl rfl

theorem spanComplete (h : Reports e a c) : Reports e a (c.spanComplete n x) := by
  simp only [Ctl.spanComplete]
  split
  · exact h
  · next f _ =>
    have read := ((h.fillSlab (n := n) (x := x) (f := f)).modCard (n := n)
      (g := fun p => { p with reader := none }) fun _ => ⟨rfl, rfl⟩).modFile
      (r := f.ref) (g := fun g => { g with
        readOffset := g.readOffset + (c.slab x).len
        state := if f.readOffset + (c.slab x).len == f.len then .draining else g.state })
    exact pumpAll (ite (fun _ => (read.countJob (by intro; exact ⟨rfl, rfl⟩)).testComplete.promote) fun _ =>
      read.countJob (by intro; exact ⟨rfl, rfl⟩))

theorem readerEnd {q : Reader} {k : Flight} (h : Reports .none a c) : Reports .settled a (c.readerEnd n q k o) := by
  refine settleOn (.ite (fun _ => ?_) fun _ => h.closeAttempts.dropReader.settled)
  split
  · have read := (h.closeAttempts (n := n) (k := .success)).modCard (n := n)
      (g := fun p => { p with reader := some { q with next := q.next + k.count } }) fun _ => ⟨rfl, rfl⟩
    exact settled (.ite (fun _ => read.issueSpanRead) fun _ => read.spanComplete)
  · exact .ite (fun _ => h.ladderStep.settled) fun _ => h.closeAttempts.readFails
  · exact h.closeAttempts.readFails

/-! ### Residue scans (09) -/

theorem dropScanSlab (h : Reports e a c) : Reports e a (c.dropScanSlab n) := by
  unfold Ctl.dropScanSlab
  split
  · exact h
  · exact (h.modCard (by intro; exact ⟨rfl, rfl⟩)).freePoolSlab

theorem scanEnd {o : ScanOutcome} {i k : Nat} (h : Reports e a c) : Reports e a (c.scanEnd n o i k) := by
  have marked := Reports.ite (q := o = .found) (fun _ => h.setMarks (n := n) (i := false) (j := true)
    (k := (c.card n).unclean)) fun _ => h
  simp only [Ctl.scanEnd]
  exact modCard (ite (fun _ => marked.pushNotice rfl) fun _ => marked) (by intro; exact ⟨rfl, rfl⟩)

theorem scanBreak {o : ScanOutcome} (h : Reports e a c) : Reports e a (c.scanBreak n o) := h.dropScanSlab.scanEnd

theorem nextChunk (h : Reports e a c) : Reports e a (c.nextChunk n) := raise (h.modCard (by intro; exact ⟨rfl, rfl⟩))

theorem scanReadEnd {k : Flight} (h : Reports e a c) : Reports e a (c.scanReadEnd n k o) := by
  refine .ite (fun _ => h.closeAttempts.scanBreak) fun _ => ?_
  split
  · exact h.closeAttempts.modSlab.modCard (by intro; exact ⟨rfl, rfl⟩)
  · exact .ite (fun _ => h.ladderStep) fun _ => h.closeAttempts.dropScanSlab.scanEnd
  · exact h.closeAttempts.dropScanSlab.scanEnd

theorem examinationEnd {i : Option Nat} (h : Reports e a c) : Reports e a (c.examinationEnd n i) := by
  unfold Ctl.examinationEnd
  split
  · exact (h.modCard (by intro; exact ⟨rfl, rfl⟩)).dropScanSlab.scanEnd
  · exact .ite (fun _ => (h.modCard (by intro; exact ⟨rfl, rfl⟩)).dropScanSlab.nextChunk) fun _ =>
      (h.modCard (by intro; exact ⟨rfl, rfl⟩)).dropScanSlab.scanEnd

theorem examinePart {m : List Host.Cell} (h : Reports e a c) : Reports e a (Ctl.examinePart m c n) := by
  simp only [Ctl.examinePart]
  split
  · exact modCard (h.same (t := { c with freeDraws := c.freeDraws + 1 }) rfl rfl rfl rfl rfl)
      fun _ => ⟨rfl, rfl⟩
  · exact h

theorem stopScan {m : List Host.Cell} (h : Reports e a c) : Reports e a (Ctl.stopScan m c n) := by
  unfold Ctl.stopScan
  split
  · exact h
  · exact h
  · exact h.setWait.scanBreak
  · exact h.modCard (by intro; exact ⟨rfl, rfl⟩)
  · exact h.examinePart.scanBreak

/-! ### Events at a card port (06)

The grade of a port that comes out of EMPTY is not held against the one it had: an event that can bring that about takes
that it has not fallen so far. -/

theorem cardIdentifying (h : Reports e a c) (ge : (a.card n).grade ≤ (c.card n).grade) :
    Reports e a (c.cardIdentifying n) :=
  (notifyPort (cardIdentify (h.changeCard (fun carries => carries) (.inr ge)))).lampUpdate

theorem cardIdentified (h : Reports .none a c) (ge : (a.card n).grade ≤ (c.card n).grade) :
    Reports .settled a (c.cardIdentified n o cap ser) := by
  refine .ite (fun _ => ?_) fun _ =>
    .ite (fun _ => (h.modCard (by intro; exact ⟨rfl, rfl⟩)).cardIdentify.settled) fun _ => ?_
  · have returned := (h.changeCard (n := n) (g := fun p => { p with
      state := .ready, attempts := 0, capacity := cap, serial := ser }) (fun carries => carries) (.inr ge)).cardReturned
        (n := n) id
    exact settleOn (movedSettled (lampUpdate (notifyPort (e := Due.none.move n) returned)))
  · exact settled (lampUpdate (notifyPort (h.changeCard (fun carries => carries) (.inr ge))))

theorem cardTxnEnd {k : Flight} (h : Reports .none a c) (ge : (a.card n).grade ≤ (c.card n).grade) :
    Reports .settled a (c.cardTxnEnd n k o cap ser) := by
  unfold Ctl.cardTxnEnd
  split
  · exact cardIdentified h ge
  · split
    · exact readerEnd h
    · exact .ite (fun _ => h.settled) fun _ => h.scanReadEnd.settled
  · exact h.settled

theorem cardRemoved (h : Reports .none a c) : Reports .settled a (c.cardRemoved n) := by
  have waited := h.setWait (n := n) (w := none)
  have abandoned := Reports.ite (q := (c.card n).link.flight.isSome = true)
    (fun _ => waited.changeUnshown (n := n) (g := fun p => { p with link := p.link.assertReset }) rfl
      fun carries => (Bool.noConfusion carries)) fun _ => waited
  have emptied := abandoned.changeCard (n := n) (g := fun p => { p with
      state := .empty, highRun := 0, lowRun := 0, attempts := 0, capacity := 0, serial := zeroSerial, grade := 0,
      attemptsAtGrade := 0 }) (fun carries => carries) (.inl rfl)
  have told := (notifyPort (emptied.dropReader (n := n) |>.dropScanSlab (n := n)
    |>.setMarks (n := n) (i := false) (j := false) (k := false))).lampUpdate (n := n) |>.cardGone (n := n) id
  simp only [Ctl.cardRemoved]
  exact settleOn (movedSettled (n := n) (.ite (fun _ => told) fun _ => told.scanBreak))

theorem cardSample {b : Bool} (h : Reports .none a c) (ge : (a.card n).grade ≤ (c.card n).grade) :
    Reports .settled a (c.cardSample n b) := by
  have counted : Reports .none a (c.modCard n fun p =>
      if b then { p with highRun := min c.debounce (p.highRun + 1), lowRun := 0 }
      else { p with lowRun := min c.debounce (p.lowRun + 1), highRun := 0 }) := by
    cases b <;> exact h.modCard fun _ => ⟨rfl, rfl⟩
  have ge' : (a.card n).grade ≤ ((c.modCard n fun p =>
      if b then { p with highRun := min c.debounce (p.highRun + 1), lowRun := 0 }
      else { p with lowRun := min c.debounce (p.lowRun + 1), highRun := 0 }).card n).grade := by
    rw [Ctl.modCard_card]
    cases b <;> exact ge
  simp only [Ctl.cardSample]
  split
  · exact .ite (fun _ => settled (lampUpdate (notifyPort (counted.changeCard (fun carries => carries) (.inr ge')))))
      fun _ => counted.settled
  · exact .ite (fun _ => .ite (fun _ => (counted.cardIdentifying ge').settled) fun _ => counted.settled) fun _ =>
      .ite (fun _ => cardRemoved counted) fun _ => counted.settled
  all_goals exact .ite (fun _ => cardRemoved counted) fun _ => counted.settled

theorem cardLow {m : List Host.Cell} (h : Reports .none c c) : Reports .settled c (Ctl.cardLow m c n) := by
  refine cardSample (.ite (fun _ => h.examinePart) fun _ => h) (le_of_eq ?_)
  split
  · exact (CardPort.shown_fields (Ctl.examinePart_shown m c n)).2.2.2.1.symm
  · rfl

/-! ### Events at a drive port (07) -/

theorem portTwice (h : Reports ((e.port p).port p) a c) : Reports (e.port p) a c :=
  h.mono (fun _ due => due.elim id .inr) (fun _ => id) fun _ => id

theorem driveGone (h : Reports .none a c) : Reports .settled a (c.driveGone d) :=
  settleAll (h.eachJob (fun _ _ _ still h => h.driveGoneFor still) fun _ => id)

theorem driveLost {k : TxnKind} (h : Reports .none a c) : Reports .settled a (c.driveLost d k o) :=
  driveGone (notifyPort (portTwice h.changeDrive.dropWork.changeDrive))

theorem driveAbsent (h : Reports .none a c) : Reports .settled a (c.driveAbsent d) := by
  have gone := h.changeDrive (d := d) (g := fun p => { p with
    state := .absent, highRun := 0, lowRun := 0, link := if p.link.flight.isSome then p.link.assertReset else p.link })
  have dropped := Reports.ite (q := ((c.drive d).state == .ready) = true) (fun _ => gone.dropWork (d := d)) fun _ => gone
  have told := notifyPort (portTwice (dropped.changeDrive (d := d)
    (g := fun p => { p with capacity := 0, serial := zeroSerial, attempts := 0 })))
  exact .ite (fun _ => driveGone told) fun _ => told.settled

theorem driveReady (h : Reports .none a c) : Reports .settled a (c.driveReady d cap ser) := by
  have returned := (h.changeDrive (d := d) (g := fun p => { p with
    state := .ready, attempts := 0, capacity := cap, serial := ser, loss := none })).eachJob
      (g := Ctl.driveReturnedFor d) (fun _ _ _ still h => h.driveReturnedFor still) fun _ => id
  exact settleAll (notifyPort (e := .settled) returned.requeueWrites.choose.requeueVerifies.pump)

theorem driveIdentified (h : Reports .none a c) : Reports .settled a (c.driveIdentified d o cap ser) :=
  .ite (fun _ => driveReady h) fun _ => .ite (fun _ => (h.modDrive (by intro; rfl)).driveIssue.settled)
    fun _ => (notifyPort h.changeDrive).settled

theorem settleOwner {s : Slab} (h : Reports .settled a c) : Reports .settled a (c.settleOwner s) := by
  unfold Ctl.settleOwner
  split
  · exact h.settleOn
  · exact h

theorem writeEnd {k : Flight} (h : Reports .none a c) : Reports .settled a (c.writeEnd d k o) := by
  unfold Ctl.writeEnd
  split
  · exact h.pump.settled
  · split
    · exact .ite (fun _ => h.retry.settled) fun _ => driveLost h
    · exact settleOwner (h.modDrive (by intro; rfl)).writeClose.pump.settled

theorem readBackEnd {k : Flight} (h : Reports .none a c) : Reports .settled a (c.readBackEnd d k o) := by
  refine .ite (fun _ => ?_) fun _ => ?_
  · split
    · exact (h.freeVerifySlab.modDrive (by intro; rfl)).pump.settled.settleOn
    · exact (h.freeVerifySlab.modDrive (by intro; rfl)).pump.settled
  · split
    · exact h.pump.settled
    · split
      · exact .ite (fun _ => h.retry.settled) fun _ => driveLost h
      · exact (h.modDrive (by intro; rfl)).readBackGood.pump.settled.settleOn
      · exact (h.modDrive (by intro; rfl)).readBackFails.pump.settled.settleOn
      · exact h.pump.settled

theorem driveTxnEnd {k : Flight} (h : Reports .none a c) : Reports .settled a (c.driveTxnEnd d k o cap ser) := by
  unfold Ctl.driveTxnEnd
  split
  · exact driveIdentified h
  · exact writeEnd h
  · exact readBackEnd h

theorem driveSample {b : Bool} (h : Reports .none a c) : Reports .settled a (c.driveSample d b) := by
  have counted : Reports .none a (c.modDrive d fun p =>
      if b then { p with highRun := min c.debounce (p.highRun + 1), lowRun := 0 }
      else { p with lowRun := min c.debounce (p.lowRun + 1), highRun := 0 }) :=
    h.modDrive (by cases b <;> exact fun _ => rfl)
  simp only [Ctl.driveSample]
  split
  · exact .ite (fun _ => (notifyPort counted.changeDrive).settled) fun _ => counted.settled
  · exact .ite (fun _ => .ite (fun _ => (notifyPort counted.changeDrive.driveIssue).settled) fun _ => counted.settled)
      fun _ => .ite (fun _ => driveAbsent counted) fun _ => counted.settled
  all_goals exact .ite (fun _ => driveAbsent counted) fun _ => counted.settled

end
end Ctl.Reports
end Sys2Proof.Machine

namespace Sys2Proof.Machine

theorem Job.Passes.goesOn {j j' : Job} (state : j'.state = .running ∨ j'.state = .held)
    (same : (j'.closed, j'.released, j'.lastRelease) = (j.closed, j.released, j.lastRelease)) : j.Passes j' := by
  obtain ⟨closed, released, last⟩ : j'.closed = j.closed ∧ j'.released = j.released ∧ j'.lastRelease = j.lastRelease := by
    simpa only [Prod.mk.injEq] using same
  refine ⟨?_, fun suspending => ?_, closed, released, .inl last⟩
  · obtain state | state := state <;> rw [state] <;> exact JobState.noConfusion
  · obtain state | state := state <;> rw [state] at suspending <;> cases suspending

/-- A JOB_CLEAR leaves the job RUNNING or HELD (R30). -/
theorem Job.cleared_passes (j : Job) :
    j.Passes (if j.faultCause = .cardReplaced then j.clearReplaced else j.clearUnreadable) := by
  split
  · exact .goesOn (.inr rfl) rfl
  · exact .goesOn (Job.runOrHold_or _) rfl

namespace Ctl.Reports

section
variable {e : Due} {a c t : Ctl} {n : CardNo} {d : DriveNo} {x : SlabNo} {r : FileRef} {f : Flight} {p : PortId}
  {o : TxnOutcome} {cap : Nat} {ser : Serial}

/-! ### The links (08) -/

/-- A port's link changes, and comes to carry no WRITE. -/
theorem setLink {l : Link} (h : Reports e a c) (hl : l.carries .write = true → (c.link p).carries .write = true) :
    Reports e a (c.setLink p l) := by
  cases p with
  | card n => exact h.changeUnshown (g := fun q => { q with link := l }) rfl hl
  | drive d => exact h.modDrive (g := fun q => { q with link := l }) fun _ => rfl

/-- The link of a port whose transaction has ended (R155). -/
theorem finish (h : Reports e a c) : Reports e a (c.setLink p (c.link p).finish) :=
  h.setLink fun carries => (Bool.noConfusion carries)

theorem endTxn (h : Reports .none c c) : Reports .settled c (c.endTxn p f o cap ser) := by
  have ended := h.finish (p := p)
  cases p with
  | drive d => exact driveTxnEnd ended
  | card n =>
    refine cardTxnEnd ended (le_of_eq ?_)
    rw [Ctl.setLink, Ctl.modCard_card]

theorem statusRecord {i j : Byte} {k : Option (BitVec 48 × Serial)} {b : BitVec 16} (h : Reports .none c c) :
    Reports .settled c (c.statusRecord p i j k b) := by
  unfold Ctl.statusRecord
  split
  · exact h.settled
  · exact .ite (fun _ => h.settled) fun _ => endTxn h

theorem linkTimeout (h : Reports .none c c) : Reports .settled c (c.linkTimeout p) := by
  unfold Ctl.linkTimeout
  split
  · exact h.settled
  · exact endTxn h

theorem linkResetEnds (h : Reports e a c) : Reports e a (c.linkResetEnds p) := by
  refine .ite (fun _ => ?_) fun _ => h
  have idle : Reports e a (c.setLink p { c.link p with cond := .idle }) := h.setLink fun carries => (Bool.noConfusion carries)
  cases p with
  | card n => exact .ite (fun _ => idle.cardIdentify) fun _ => idle
  | drive d => exact .ite (fun _ => idle.driveIssue) fun _ => idle

/-- Another flight of the kind that is there. -/
theorem setFlight {k : Flight} (h : Reports e a c) (hf : (c.link p).flight = some f) (kind : k.kind = f.kind) :
    Reports e a (c.setFlight p k) := by
  refine h.setLink fun carries => ?_
  have flying : ({ c.link p with cond := .inFlight k } : Link).carries .write = (k.kind == .write) := rfl
  rw [Link.carries, hf, Option.any_some, ← kind, ← flying]
  exact carries

/-! ### The control line (10) -/

theorem lineFault {k : LineFault} (h : Reports e a c) : Reports e a (c.lineFault k) := by
  have counted : Reports e a { c with linkFault := { kind := some k, count := min 65535 (c.linkFault.count + 1) } } :=
    h.same rfl rfl rfl rfl rfl
  exact .ite (fun _ => counted.pushNotice rfl) fun _ => counted

theorem faultAtMost (h : Reports e a c) (k : c.FaultAtMost t) : Reports e a t := by
  obtain rfl | ⟨k, rfl⟩ := k
  · exact h
  · exact h.lineFault

theorem afterLeaving {k : OutEntry} (h : Reports .none a c) : Reports .settled a (c.afterLeaving k) := by
  unfold Ctl.afterLeaving
  split
  · exact settled (h.same (t := { c with linkFault := { c.linkFault with count := 0 } }) rfl rfl rfl rfl rfl)
  · split
    · exact h.settled
    · exact h.testRetire.settled.settleOn
  · exact h.settled

/-! ### Requests of jobs (01) -/

theorem startJob (h : Reports .none a c) (active : (c.job n).isActive = true) : Reports .settled a (c.startJob n) :=
  settleOn (movedSettled (promote (h.passJob id active (.goesOn (Job.runOrHold_or _) rfl))))

theorem evaluateEnd (h : Reports (Due.none.move n) a c) : Reports .settled a (c.evaluateEnd n) := by
  refine movedSettled (.ite (fun ends => moveTwice (h.endJob ?_ ((h.job n id).ends ?_ ?_ rfl))) fun _ => h)
  all_goals
    obtain ⟨run | held, -⟩ := (Ctl.endCondition_iff c n).1 ends
    · rw [run]
      exact JobState.noConfusion
    · rw [held]
      exact JobState.noConfusion

/-- The closed flag queues nothing itself (log 33). -/
theorem closeJob (h : Reports .none c c) : Reports .settled c (c.closeJob n) := by
  refine .ite (fun _ => h.settled) fun _ => evaluateEnd ?_
  refine (h.changeJob .rfl rfl).reportedJob (.inl ⟨?_, rfl⟩)
  rw [Ctl.modJob_job]
  rfl

theorem suspendJob {m : SuspendMode} (h : Reports .none a c) (active : (c.job n).isActive = true)
    (going : (c.job n).state ≠ .suspended) : Reports .settled a (c.suspendJob n m) := by
  have suspending := h.passJob (n := n) (g := fun j =>
    { j with state := .suspending, suspend := (c.job n).modeAfter m }) id active
      ⟨JobState.noConfusion, fun _ => going, rfl, rfl, .inl rfl⟩
  refine .ite (fun _ => h.settled) fun _ => settleOn (movedSettled (n := n) (.ite (fun _ => ?_) fun _ => suspending))
  exact (suspending.eachDrive fun _ _ h => h.promptDrive).pumpAll

theorem resumeHeld (h : Reports .none a c) (active : (c.job n).isActive = true) : Reports .settled a (c.resumeHeld n) :=
  settleOn (movedSettled (h.passJob id active (Job.Passes.releaseIfEmpty active (by rfl) _)))

theorem resumeSuspended (h : Reports .none a c) (active : (c.job n).isActive = true) :
    Reports .settled a (c.resumeSuspended n) :=
  settleOn (movedSettled (h.passJob id active (.goesOn (Job.runOrHold_or _) rfl)).pumpAll.promote)

theorem stopJob (h : Reports .none a c) (active : (c.job n).isActive = true) : Reports .settled a (c.stopJob n) := by
  refine .ite (fun _ => h.settled) fun going => settleOn (movedSettled (h.enterStopping (Job.not_free_of_active active) going ?_))
  have before := (Job.noticed_fields (h.still n id)).1
  exact .of_state (before ▸ Job.not_ended_of_active active) (before ▸ Ne.symm going) fun h => (JobState.noConfusion h)

theorem clearJob (h : Reports .none a c) (active : (c.job n).isActive = true) : Reports .settled a (c.clearJob n) := by
  simp only [Ctl.clearJob]
  exact settleOn (movedSettled (pumpAll (promote (h.passJob id active (Job.cleared_passes _)))))

theorem dropJob (h : Reports .none a c) (active : (c.job n).isActive = true) :
    Reports .settled a ((c.dropDest n d).settle n) := settleOn (movedSettled (h.dropDest id active))

theorem joinFile {q : FileAddReq} (h : Reports e a c) : Reports e a (c.joinFile n q) := by
  have joined : Reports e a { c with files := c.files ++ [c.newFile n q], nextFile := c.nextFile + 1 } :=
    h.same rfl rfl rfl rfl rfl
  unfold Ctl.joinFile
  exact joined.countJob (by intro; exact ⟨rfl, rfl⟩)

/-- The port of an opened job is bound (R5, R131). -/
theorem openJob {k : OpenReq} (h : Reports .none a c) (free : (c.job n).state = .free) : Reports .settled a (c.openJob n k) := by
  have before := (Job.noticed_fields (h.still n id)).1
  obtain ⟨u, hu⟩ : ∃ u, u = (((c.modJob n fun _ => c.openedJob n k).setMarks n false (c.card n).residue false).lampUpdate
    n).notifyPort (.card n) := ⟨_, rfl⟩
  have bound : Reports (Due.none.job n) a u := hu ▸ notifyPort (h.bindJob (.inl (before ▸ free))).setMarks.lampUpdate
  have job : u.job n = c.openedJob n k := by
    rw [hu, Ctl.job_of_jobs (c := c.modJob n fun _ => c.openedJob n k) (by simp) n, Ctl.modJob_job]
  have told : c.openJob n k = u.notifyJob n := by rw [hu]; rfl
  rw [told]
  refine movedSettled (bound.notifyJob ?_)
  rw [job]
  refine .of_state ?_ ?_ fun h => (JobState.noConfusion h)
  all_goals
    rw [← before, free]
    exact JobState.noConfusion

/-- The port of a freed job is unbound (R31, R131). -/
theorem freeJob (h : Reports .none a c) (bound : (c.job n).state ≠ .free) : Reports .settled a (c.freeJob n) := by
  have before := (Job.noticed_fields (h.still n id)).1
  obtain ⟨u, hu⟩ : ∃ u, u = ((c.recordFreed n).lampUpdate n).notifyPort (.card n) := ⟨_, rfl⟩
  have discarded := (h.setFiles (fs := c.files.filter fun f => f.ref.job != n)).setFileDoneWaiting (n := n) (w := false)
  have unbound : Reports (Due.none.job n) a u := hu ▸ notifyPort (discarded.bindJob (.inr rfl)).lampUpdate
  have job : u.job n = Job.freeValues := by
    rw [hu, Ctl.job_of_jobs (c := c.recordFreed n) (by simp) n,
      Ctl.recordFreed, Ctl.modJob_job]
  have told : c.freeJob n = u.notifyJob n := by rw [hu, Ctl.freeJob_eq]
  rw [told]
  refine movedSettled (unbound.notifyJob ?_)
  rw [job]
  refine ⟨fun same => bound ?_, fun h => (h rfl).elim, fun h => (JobState.noConfusion h)⟩
  exact before.trans (Job.noticed_fields same).1.symm

/-! ### LAMP_SET (R113) -/

theorem setLamp {m : Release} {b : Byte} (h : Reports e a c) : Reports e a (c.setLamp n m b) := by
  unfold Ctl.setLamp
  split
  · exact (h.modCard (by intro; exact ⟨rfl, rfl⟩)).lampUpdate
  · refine h.modCard fun p => ?_
    simp only
    split
    · exact CardPort.show_shown _ _
    · exact ⟨rfl, rfl⟩

end
end Ctl.Reports
end Sys2Proof.Machine

namespace Sys2Proof.Machine

/-! ## What a command reports -/

/-- From a to t all is reported that the settings in force before ask for (NOTICE_SET changes them). -/
def Ctl.Accounts (a t : Ctl) : Prop := Ctl.Reports .settled a { t with notices := a.notices }

/-- A command accounts for what it changes, where TRANSMIT_START may take the head of the queue; but a reset that begins or
ends leaves the card ports at their reset values. -/
def State.Accounts (i : Instr) (s t : State) : Prop :=
  (∃ k, k ≤ 1 ∧ (i ≠ .transmitStart → k = 0) ∧ (s.ctl.setOutq (s.ctl.outq.drop k)).Accounts t.ctl)
    ∨ (s.inReset = true ∨ t.inReset = true) ∧ t.ctl.cards = (Ctl.resetValues 0 0).cards

section
variable {a c t : Ctl} {s : State} {i : Instr} {n : CardNo}

theorem Ctl.Reports.accounts (h : Ctl.Reports .settled a c) : a.Accounts c := by
  rw [Ctl.Accounts, ← h.notices]
  exact h

theorem Ctl.Accounts.refl (c : Ctl) : c.Accounts c := (Ctl.Reports.refl c).accounts

theorem State.Accounts.of_ctl {u : State} (h : s.ctl.Accounts u.ctl) : State.Accounts i s u :=
  .inl ⟨0, Nat.zero_le 1, fun _ => rfl, h⟩

theorem Ctl.Accounts.pushEntry {k : OutEntry} (h : a.Accounts t) (hk : ∀ y, k.kind ≠ .notice y) : a.Accounts (t.pushEntry k) :=
  Ctl.Reports.pushEntry (c := { t with notices := a.notices }) h fun y _ => hk y

theorem JobState.active_of_takes {k : MsgKind} (h : (c.job n).state.takes k = true)
    (hk : k ≠ .jobFree ∧ k ≠ .jobQuery) : (c.job n).isActive = true := by
  refine (Job.isActive_iff _).2 ⟨fun free => hk.2 ?_, JobState.not_ended_of_takes h hk⟩
  simpa [free, JobState.takes] using h

end

/-! ### Requests -/

/-- A request that is answered with DONE accounts for what it changes. -/
def Ctl.AnswersAccounting (c : Ctl) (a : Answer) : Prop := ∀ t fields, a = .ok (t, fields) → c.Accounts t

namespace Ctl.AnswersAccounting

section
variable {c t : Ctl} {fields : List Byte}

theorem error {r : Reason} : c.AnswersAccounting (.error r) := fun _ _ h => nomatch h

theorem ok (h : c.Accounts t) : c.AnswersAccounting (.ok (t, fields)) := fun _ _ e => by
  cases e
  exact h

theorem settled (h : Ctl.Reports .settled c t) : c.AnswersAccounting (.ok (t, fields)) := .ok h.accounts

theorem quiet (h : Ctl.Reports .none c t) : c.AnswersAccounting (.ok (t, fields)) := .settled h.settled

theorem same : c.AnswersAccounting (.ok (c, fields)) := .ok (.refl c)

theorem forJob {k : MsgKind} {b : Byte} {act : CardNo → Answer}
    (h : ∀ n, (c.job n).state.takes k = true → c.AnswersAccounting (act n)) : c.AnswersAccounting (c.forJob k b act) := by
  obtain ⟨-, e⟩ | ⟨n, -, ⟨takes, e⟩ | ⟨-, e⟩⟩ := c.forJob_cases k b act <;> rw [e]
  · exact error
  · exact h n takes
  · exact error

theorem jobRequest {k : MsgKind} {act : Ctl → CardNo → Answer} {l : List Byte}
    (h : ∀ n, (c.job n).state.takes k = true → c.AnswersAccounting (act c n)) :
    c.AnswersAccounting (Machine.jobRequest k act l c) := by
  unfold Machine.jobRequest
  split
  · exact forJob h
  · exact error

end

end Ctl.AnswersAccounting

section
variable (l : List Byte) (c : Ctl)

theorem reqJobOpen_accounts : c.AnswersAccounting (reqJobOpen l c) := by
  unfold reqJobOpen
  split
  · split
    · exact .error
    · next h => exact .settled (.openJob (.refl c) (Ctl.free_of_checkOpen h))
  · exact .error

theorem reqFileAdd_accounts : c.AnswersAccounting (reqFileAdd l c) := by
  unfold reqFileAdd
  split
  · exact .error
  · refine .forJob fun n _ => ?_
    unfold Ctl.answerFile
    split
    · exact .error
    · exact .settled (Ctl.Reports.joinFile (.refl c)).promote.settled.settleOn

theorem reqJobStart_accounts : c.AnswersAccounting (reqJobStart l c) := .jobRequest fun n takes => by
  unfold Ctl.answerStart
  split
  · exact .settled (.startJob (.refl c) (JobState.active_of_takes takes (by decide)))
  · exact .error

theorem reqJobClose_accounts : c.AnswersAccounting (reqJobClose l c) :=
  .jobRequest fun _ _ => .settled (.closeJob (.refl c))

theorem reqJobSuspend_accounts : c.AnswersAccounting (reqJobSuspend l c) := by
  unfold reqJobSuspend
  split
  · refine .forJob fun n takes => ?_
    split
    · exact .error
    · refine .settled (.suspendJob (.refl c) (JobState.active_of_takes takes (by decide)) fun suspended => ?_)
      simp [suspended, JobState.takes] at takes
  · exact .error

theorem reqJobResume_accounts : c.AnswersAccounting (reqJobResume l c) := .jobRequest fun n takes => by
  unfold Ctl.answerResume
  simp only
  split
  · split
    · exact .settled (.resumeHeld (.refl c) (JobState.active_of_takes takes (by decide)))
    · exact .error
  · exact .settled (.resumeSuspended (.refl c) (JobState.active_of_takes takes (by decide)))

theorem reqJobDrop_accounts : c.AnswersAccounting (reqJobDrop l c) := by
  unfold reqJobDrop
  split
  · refine .forJob fun n takes => ?_
    unfold Ctl.answerDrop
    split
    · exact .error
    · exact .settled (.ite (fun _ => .dropJob (.refl c) (JobState.active_of_takes takes (by decide))) fun _ => .refl c)
  · exact .error

theorem reqJobStop_accounts : c.AnswersAccounting (reqJobStop l c) := .jobRequest fun _ takes =>
  .settled (.stopJob (.refl c) (JobState.active_of_takes takes (by decide)))

theorem reqJobClear_accounts : c.AnswersAccounting (reqJobClear l c) := .jobRequest fun n takes => by
  unfold Ctl.answerClear
  split
  · exact .error
  · exact .settled (.clearJob (.refl c) (JobState.active_of_takes takes (by decide)))

theorem reqJobFree_accounts : c.AnswersAccounting (reqJobFree l c) := .jobRequest fun n takes => by
  refine .settled (.freeJob (.refl c) fun free => ?_)
  simp [free, JobState.takes] at takes

theorem reqJobQuery_accounts : c.AnswersAccounting (reqJobQuery l c) := .jobRequest fun _ _ => .same

theorem reqIdent_accounts : c.AnswersAccounting (reqIdent l c) := by
  unfold reqIdent
  split
  · exact .same
  · exact .error

theorem reqPartReset_accounts : c.AnswersAccounting (reqPartReset l c) := by
  unfold reqPartReset
  split
  · exact .same
  · exact .error

/-- NOTICE_SET changes the settings alone, and reports nothing by the ones it makes. -/
theorem reqNoticeSet_accounts : c.AnswersAccounting (reqNoticeSet l c) := by
  unfold reqNoticeSet
  split
  · exact .error
  · split
    · exact .error
    · exact .ok (Ctl.Accounts.refl c)

theorem reqPortQuery_accounts : c.AnswersAccounting (reqPortQuery l c) := by
  unfold reqPortQuery
  split
  · split
    · exact .error
    · exact .same
  · exact .error

theorem reqLampSet_accounts : c.AnswersAccounting (reqLampSet l c) := by
  unfold reqLampSet
  split
  · split
    · exact .quiet (Ctl.Reports.setLamp (.refl c))
    · exact .error
  · exact .error

theorem reqScanStart_accounts : c.AnswersAccounting (reqScanStart l c) := by
  unfold reqScanStart
  split
  · unfold Ctl.answerScan
    split
    · split
      · exact .error
      · split
        · exact .error
        · exact .quiet ((Ctl.Reports.refl c).modCard (by intro; exact ⟨rfl, rfl⟩)).nextChunk
    · exact .error
  · exact .error

theorem reqScanStop_accounts (m : List Host.Cell) : c.AnswersAccounting (reqScanStop m l c) := by
  unfold reqScanStop
  split
  · split
    · exact .error
    · exact .quiet (Ctl.Reports.stopScan (.refl c))
  · exact .error

end

/-! ### Commands -/

section
variable (s : State) {i : Instr}

theorem State.answer_accounts {f : RxFrame} {a : Answer} (h : s.ctl.AnswersAccounting a) :
    s.ctl.Accounts (s.answer f a).ctl := by
  match a with
  | .ok (t, fields) => exact (h t fields rfl).pushEntry fun _ => EntryKind.noConfusion
  | .error _ => exact (Ctl.Accounts.refl s.ctl).pushEntry fun _ => EntryKind.noConfusion

theorem State.request_accounts {k : MsgKind} {act : List Byte → Ctl → Answer}
    (h : ∀ l, s.ctl.AnswersAccounting (act l s.ctl)) : State.Accounts i s (s.request k act) := by
  obtain ⟨f, -, e⟩ | e := s.request_cases k act <;> rw [e]
  · exact .of_ctl (s.answer_accounts (h f.payload))
  · exact .of_ctl (.refl _)

theorem State.run_accounts {f : State → State} (h : State.Accounts i s (f s)) : State.Accounts i s (s.run f) := by
  unfold State.run
  split
  · exact .of_ctl (.refl _)
  · exact h

theorem State.runCtl_accounts {f : Ctl → Ctl} (h : Ctl.Reports .settled s.ctl (f s.ctl)) :
    State.Accounts i s (s.runCtl f) := s.run_accounts (.of_ctl h.accounts)

theorem State.ite_accounts {p : Prop} [Decidable p] {t : State} (h : p → State.Accounts i s t) :
    State.Accounts i s (if p then t else s) := by
  split
  · next hp => exact h hp
  · exact .of_ctl (.refl _)

theorem State.stays_accounts {p : Prop} [Decidable p] {t : State} (h : State.Accounts i s t) :
    State.Accounts i s (if p then s else t) := by
  split
  · exact .of_ctl (.refl _)
  · exact h

theorem State.rxBytes_reports {a : Ctl} (bytes : List RxByte) (h : Ctl.Reports .none a s.ctl) :
    Ctl.Reports .none a (bytes.foldl State.rxByte s).ctl := by
  induction bytes generalizing s with
  | nil => exact h
  | cons b bytes ih => exact ih _ (h.faultAtMost (s.rxByte_ctl b))

/-- The head of the queue leaves, and what follows is accounted for without it (R180). -/
theorem State.transmit_accounts : State.Accounts .transmitStart s s.transmit := by
  unfold State.transmit
  split
  · next e rest _ queue =>
    refine .inl ⟨1, le_rfl, fun ne => (ne rfl).elim, ?_⟩
    rw [queue]
    exact (Ctl.Reports.afterLeaving (.refl (s.ctl.setOutq rest))).accounts
  · exact .of_ctl (.refl _)

theorem State.dataBlock_reports {p : PortId} {q : Byte} {l : List Byte} {k : BitVec 16} :
    Ctl.Reports .none s.ctl (s.dataBlock p q l k).ctl := by
  unfold State.dataBlock
  split
  · exact .refl _
  · next f flying =>
    simp only
    split
    · exact .refl _
    · split
      · simp only [State.placeBlock_ctl]
        exact (Ctl.Reports.refl _).setFlight flying rfl
      · exact (Ctl.Reports.refl _).setFlight flying rfl

theorem State.beginReset_accounts {r : ResetCtl} (holds : r.holds = true) : State.Accounts i s (s.beginReset r) :=
  .inr ⟨.inr holds, rfl⟩

theorem State.release_accounts (r : ResetCtl) (p : StrapPins) (holds : s.resetCtl.holds = true) :
    State.Accounts i s (s.release r p) := by
  unfold State.release
  simp only
  split
  · exact .of_ctl (.refl _)
  · exact .inr ⟨.inl holds, rfl⟩

theorem State.sent_accounts : State.Accounts i s s.sent := by
  unfold State.sent
  split
  · exact .of_ctl (.refl _)
  · split
    · exact s.beginReset_accounts (by simp [ResetCtl.holds])
    · exact .of_ctl (.refl _)

end

theorem State.Accounts.of_next {i : Instr} {s u t : State}
    (h : (Host.Outcome.next u : Host.Outcome State Fault Refusal) = .next t) (e : State.Accounts i s u) :
    State.Accounts i s t := by
  cases h
  exact e

section
open Ctl.Reports

/-- Every command accounts for what it changes. -/
theorem exec_accounts {i : Instr} {s t : State} (h : exec i s = .next t) : State.Accounts i s t := by
  have start : Ctl.Reports .none s.ctl s.ctl := .refl _
  cases i <;> refine .of_next h ?_
  -- the line
  case frameReceived bytes => exact s.run_accounts (.of_ctl (s.rxBytes_reports bytes start).settled.accounts)
  case receiveGapTimeout => exact s.run_accounts (s.stays_accounts (.of_ctl start.lineFault.settled.accounts))
  case transmitStart => exact s.run_accounts s.transmit_accounts
  case frameSent => exact s.run_accounts s.sent_accounts
  -- requests
  case badKindRequest =>
    split
    · exact s.stays_accounts (.of_ctl (s.answer_accounts .error))
    · exact .of_ctl (.refl _)
  case partReset =>
    split
    · exact s.ite_accounts fun _ => .of_ctl (s.answer_accounts (reqPartReset_accounts _ _))
    · exact .of_ctl (.refl _)
  case ident => exact s.request_accounts fun l => reqIdent_accounts l _
  case noticeSet => exact s.request_accounts fun l => reqNoticeSet_accounts l _
  case portQuery => exact s.request_accounts fun l => reqPortQuery_accounts l _
  case lampSet => exact s.request_accounts fun l => reqLampSet_accounts l _
  case jobOpen => exact s.request_accounts fun l => reqJobOpen_accounts l _
  case jobStart => exact s.request_accounts fun l => reqJobStart_accounts l _
  case fileAdd => exact s.request_accounts fun l => reqFileAdd_accounts l _
  case jobClose => exact s.request_accounts fun l => reqJobClose_accounts l _
  case jobSuspend => exact s.request_accounts fun l => reqJobSuspend_accounts l _
  case jobResume => exact s.request_accounts fun l => reqJobResume_accounts l _
  case jobDrop => exact s.request_accounts fun l => reqJobDrop_accounts l _
  case jobStop => exact s.request_accounts fun l => reqJobStop_accounts l _
  case jobClear => exact s.request_accounts fun l => reqJobClear_accounts l _
  case jobFree => exact s.request_accounts fun l => reqJobFree_accounts l _
  case jobQuery => exact s.request_accounts fun l => reqJobQuery_accounts l _
  case scanStart => exact s.request_accounts fun l => reqScanStart_accounts l _
  case scanStop => exact s.request_accounts fun l => reqScanStop_accounts l _ _
  -- resets
  case partResetTimerExpiry straps => exact s.ite_accounts fun on => s.release_accounts _ _ (by simp [ResetCtl.holds, on])
  case resetPinAssert => exact s.stays_accounts (s.beginReset_accounts (by simp [ResetCtl.holds]))
  case resetPinRelease straps => exact s.ite_accounts fun on => s.release_accounts _ _ (by simp [ResetCtl.holds, on])
  case supplyFail => exact s.stays_accounts (s.beginReset_accounts (by simp [ResetCtl.holds]))
  case supplyValid straps => exact s.ite_accounts fun on => s.release_accounts _ _ (by simp [ResetCtl.holds, on])
  -- links
  case linkResetExpiry port => exact s.runCtl_accounts start.linkResetEnds.settled
  case dataBlockReceived port seq data check =>
    exact s.run_accounts (.of_ctl s.dataBlock_reports.settled.accounts)
  case statusRecordReceived port seq code identity check => exact s.runCtl_accounts (statusRecord start)
  case linkTimeout port => exact s.runCtl_accounts (linkTimeout start)
  -- samples of PRESENT
  case cardInsertionBegin n => exact s.runCtl_accounts (.ite (fun _ => cardSample start le_rfl) fun _ => start.settled)
  case cardSettled n => exact s.runCtl_accounts (.ite (fun _ => cardSample start le_rfl) fun _ => start.settled)
  case cardRemoval n => exact s.runCtl_accounts (.ite (fun _ => cardLow start) fun _ => start.settled)
  case driveAttachBegin d => exact s.runCtl_accounts (.ite (fun _ => driveSample start) fun _ => start.settled)
  case driveSettled d => exact s.runCtl_accounts (.ite (fun _ => driveSample start) fun _ => start.settled)
  case driveAbsence d => exact s.runCtl_accounts (.ite (fun _ => driveSample start) fun _ => start.settled)
  case presentSample port high =>
    refine s.runCtl_accounts ?_
    cases port with
    | card n => exact .ite (fun _ => cardSample start le_rfl) fun _ => cardLow start
    | drive d => exact driveSample start
  -- the units
  case digestStart => exact s.runCtl_accounts start.digestBegin.settled
  case digestComputationEnd =>
    refine s.runCtl_accounts ?_
    split
    · exact start.settled
    · exact digestFinish start
  case blankCheckEnd n =>
    refine s.runCtl_accounts ?_
    split
    · exact start.examinationEnd.settled
    · exact start.settled
  case lampBlinkToggle n =>
    refine s.runCtl_accounts (settled (start.modCard fun p => ?_))
    unfold CardPort.toggle
    split <;> exact ⟨rfl, rfl⟩

end

theorem step_accounts {s t : State} (h : step s = .next t) : ∃ i u, u.ctl = s.ctl ∧ State.Accounts i u t := by
  unfold step at h
  split at h
  · cases h
    exact ⟨.ident, s, rfl, .of_ctl (.refl _)⟩
  · next i rest _ => exact ⟨i, { s with pending := rest }, rfl, exec_accounts (s := { s with pending := rest }) h⟩

/-! ## The links and the grades over a step -/

/-- Settles O8: no change of a card's link puts a WRITE on it, and a reset leaves it RESETTING. -/
theorem cardsAreNeverWritten : Obligations.CardsAreNeverWritten := by
  intro s t only h n
  obtain ⟨i, u, same, ⟨k, -, -, accounts⟩ | ⟨-, reset⟩⟩ := step_accounts h
  · rw [← same] at only
    rw [Bool.eq_false_iff]
    exact fun carries => Bool.eq_false_iff.1 (only n) (accounts.link n carries)
  · rw [Ctl.card_of_cards reset, Ctl.resetValues_card]
    rfl

/-- Settles O10: of a port that stays out of EMPTY no change lowers the grade; a reset empties it. -/
theorem speedGradeNeverRises : Obligations.SpeedGradeNeverRises := by
  intro s t n h _ holds
  obtain ⟨i, u, same, ⟨k, -, -, accounts⟩ | ⟨-, reset⟩⟩ := step_accounts h
  · rw [← same]
    exact (accounts.grade n).resolve_left holds
  · rw [Ctl.card_of_cards reset, Ctl.resetValues_card] at holds
    exact (holds rfl).elim

end Sys2Proof.Machine

namespace Sys2Proof.Machine

/-! ## The notices over a command (R132, R153, R33, R34, R182) -/

section
variable {a t : Ctl} {n : CardNo} {d : DriveNo} {p : PortId} {x : Subject} {e : OutEntry}

/-- What is not among the waiting notices before is news of its subject. -/
theorem Ctl.about_ne_of_new (mem : e ∈ t.outq) (new : e ∉ a.outq) (kind : e.kind = .notice x) : t.about x ≠ a.about x :=
  fun same => new (Ctl.mem_about.1 (same ▸ Ctl.mem_about.2 ⟨mem, kind⟩)).1

namespace Ctl.Reports

/-- A PORT_EVENT that waits anew was asked for and shows the port as it stands (R132, R153). -/
theorem port_new (h : Reports .settled a t) (mem : e ∈ t.outq) (new : e ∉ a.outq) (kind : e.kind = .notice (.portEvent p)) :
    a.notices.portEvent = true ∧ e.payload = t.portEventPayload p := by
  have news := Ctl.about_ne_of_new mem new kind
  have on : a.notices.portEvent = true := by
    by_contra off
    exact news (h.portOff (by simpa using off) p)
  obtain ⟨-, same⟩ | told := h.port p id on
  · exact (news same).elim
  · exact ⟨on, told.2 e (Ctl.mem_about.2 ⟨mem, kind⟩)⟩

/-- A JOB_STATE that waits anew was asked for and shows the job as it stands, which has moved on (R33). -/
theorem job_new (h : Reports .settled a t) (mem : e ∈ t.outq) (new : e ∉ a.outq) (kind : e.kind = .notice (.jobState n)) :
    a.notices.jobState = true ∧ (a.job n).noticed ≠ (t.job n).noticed ∧ e.payload = t.jobStatePayload n := by
  have news := Ctl.about_ne_of_new mem new kind
  have on : a.notices.jobState = true := by
    by_contra off
    exact news (h.jobOff (by simpa using off) n)
  obtain ⟨-, same⟩ | ⟨onward, told⟩ := h.job n id
  · exact (news same).elim
  · exact ⟨on, onward.moved.symm, (told on).2 e (Ctl.mem_about.2 ⟨mem, kind⟩)⟩

/-- A PROGRESS that waits anew was asked for (R34). -/
theorem progress_new (h : Reports .settled a t) (mem : e ∈ t.outq) (new : e ∉ a.outq)
    (kind : e.kind = .notice (.progress n)) : 0 < a.notices.step := by
  by_contra off
  exact Ctl.about_ne_of_new mem new kind (h.countOff (by omega) n)

/-- A card port that shows another state, grade, binding or mark is told of (R132). -/
theorem card_told (h : Reports .settled a t) (on : a.notices.portEvent = true)
    (changed : ¬((t.card n).shown = (a.card n).shown ∧ ((t.job n).state = .free ↔ (a.job n).state = .free))) :
    t.Tells (.portEvent (.card n)) (t.portEventPayload (.card n)) := by
  obtain ⟨same, -⟩ | told := h.port (.card n) id on
  · exact (changed same).elim
  · exact told.tells

/-- A drive port in another state is told of (R153). -/
theorem drive_told (h : Reports .settled a t) (on : a.notices.portEvent = true)
    (changed : (a.drive d).state ≠ (t.drive d).state) :
    t.Tells (.portEvent (.drive d)) (t.portEventPayload (.drive d)) := by
  obtain ⟨same, -⟩ | told := h.port (.drive d) id on
  · exact (changed (DrivePort.shown_fields same).1.symm).elim
  · exact told.tells

/-- A job that has moved on is told of (R33). -/
theorem job_told (h : Reports .settled a t) (on : a.notices.jobState = true)
    (changed : (a.job n).noticed ≠ (t.job n).noticed) : t.Tells (.jobState n) (t.jobStatePayload n) := by
  obtain ⟨same, -⟩ | ⟨-, told⟩ := h.job n id
  · exact (changed same.symm).elim
  · exact (told on).tells

end Ctl.Reports

/-! ### One more slab released (R69, R34) -/

theorem Ctl.notifyProgress_outq (c : Ctl) (n : CardNo) :
    (c.notifyProgress n).outq =
      if 0 < c.notices.step ∧ (c.job n).released % 2 ^ c.notices.step = 0
      then coalesce c.outq (.progress n) (c.progressPayload n) else c.outq := by
  unfold Ctl.notifyProgress
  split <;> rfl

/-- A counted release tells what the raised count asks for; the slab that is given back tells nothing. -/
theorem Ctl.releaseCounted_outq (c : Ctl) (n : CardNo) (x : SlabNo) :
    let r := ((c.job n).released + 1) % 2 ^ 32
    (c.releaseCounted n x).outq =
      if 0 < c.notices.step ∧ r % 2 ^ c.notices.step = 0
      then coalesce c.outq (.progress n)
        (BitVec.ofNat 8 n.val :: ({ c.job n with released := r } : Job).counterBytes) else c.outq := by
  simp only [Ctl.releaseCounted, Ctl.offer_outq, Ctl.notifyProgress_outq, Ctl.progressPayload, Ctl.modJob_job]
  rfl

theorem Ctl.releaseCounted_job (c : Ctl) (n : CardNo) (x : SlabNo) :
    (c.releaseCounted n x).job n = { c.job n with released := ((c.job n).released + 1) % 2 ^ 32 } := by
  have jobs : (c.releaseCounted n x).jobs =
      (c.modJob n fun j => { j with released := (j.released + 1) % 2 ^ 32 }).jobs := by
    rw [Ctl.releaseCounted, Ctl.offer_jobs, Ctl.notifyProgress_jobs]
    rfl
  rw [Ctl.job_of_jobs jobs, Ctl.modJob_job]

end

/-- Settles O25: a command accounts for what it changes; a counted release and the payload of JOB_STATE are read off. -/
theorem noticesFollowTheChanges : Obligations.NoticesFollowTheChanges := by
  refine ⟨fun i s t runs runs' h => ?_, fun c n x => ?_, fun c n => rfl⟩
  · obtain ⟨k, few, none, accounts⟩ | ⟨held | held, -⟩ := exec_accounts h
    · have new {e : OutEntry} (h : e ∉ s.ctl.outq) : e ∉ (s.ctl.setOutq (s.ctl.outq.drop k)).outq :=
        fun mem => h (List.mem_of_mem_drop mem)
      refine ⟨fun on => ⟨fun n changed => accounts.card_told on fun ⟨shown, free⟩ => changed ?_,
          fun d changed => accounts.drive_told on changed⟩, fun on n changed => accounts.job_told on changed,
        fun e mem fresh => ⟨fun p kind => accounts.port_new mem (new fresh) kind,
          fun n kind => accounts.job_new mem (new fresh) kind, fun n kind => accounts.progress_new mem (new fresh) kind⟩,
        ?_, fun n was is on => ?_⟩
      · obtain ⟨state, -, -, grade, cleared, residue, unclean⟩ := CardPort.shown_fields shown
        have bound : ((t.ctl.job n).state = .free ↔ (s.ctl.job n).state = .free) := free
        exact Prod.ext state.symm (Prod.ext grade.symm (Prod.ext (decide_eq_decide.2 bound.symm)
          (Prod.ext cleared.symm (Prod.ext residue.symm unclean.symm))))
      · obtain ⟨added, kinds⟩ := accounts.kinds
        exact ⟨k, added, by rw [← List.map_drop]; exact kinds.symm, few, none⟩
      · obtain ⟨m, count, shows⟩ := accounts.count n was is
        exact ⟨m, count, shows on⟩
    · rw [runs] at held
      cases held
    · rw [runs'] at held
      cases held
  · refine ⟨c.releaseCounted_job n x, fun silent => ?_, fun due fresh => ?_, fun due waits => ?_⟩
      <;> rw [Ctl.releaseCounted_outq]
    · rw [if_neg silent]
    · rw [if_pos due, coalesce, if_neg (by simp [fresh])]
      rfl
    · rw [if_pos due, coalesce, if_pos waits]
      rfl

end Sys2Proof.Machine

namespace Sys2Proof.Machine

/-! ## A card port while jobs go on

What the job unit and the allocator leave of a card port, unless they grant it a slab. -/

/-- What the presence and the identification of a card make of its port. -/
def CardPort.insertion (p : CardPort) : CardState × Nat × Nat × Nat × Nat × Serial :=
  (p.state, p.highRun, p.lowRun, p.attempts, p.capacity, p.serial)

theorem CardPort.insertion_fields {p q : CardPort} (h : q.insertion = p.insertion) :
    q.state = p.state ∧ q.highRun = p.highRun ∧ q.lowRun = p.lowRun ∧ q.attempts = p.attempts
      ∧ q.capacity = p.capacity ∧ q.serial = p.serial := by
  simpa only [CardPort.insertion, Prod.mk.injEq] using h

theorem CardPort.SameButLamp.insertion {p q : CardPort} (h : p.SameButLamp q) : q.insertion = p.insertion := by
  rw [h]
  rfl

/-- From c to t port n keeps its insertion, and its SCAN_DONE waits on; and if it waits for no slab, and does not ask for
one, it keeps all but its lamp. -/
structure Ctl.Attends (n : CardNo) (asks : Prop) (c t : Ctl) : Prop where
  insertion : (t.card n).insertion = (c.card n).insertion
  scans : ∀ e ∈ c.outq, e.kind = .notice (.scanDone n) → e ∈ t.outq
  idle : ¬asks → c.waits n = none → t.waits n = none ∧ (c.card n).SameButLamp (t.card n)

namespace Ctl.Attends

section
variable {q : Prop} {a c t u : Ctl} {n m : CardNo} {d : DriveNo} {x : SlabNo} {r : FileRef} {p : PortId}

theorem refl (c : Ctl) : Attends n q c c := ⟨rfl, fun _ mem _ => mem, fun _ h => ⟨h, rfl⟩⟩

theorem trans (h : Attends n q a c) (g : Attends n q c t) : Attends n q a t := by
  refine ⟨g.insertion.trans h.insertion, fun e mem kind => g.scans e (h.scans e mem kind) kind, fun still waits => ?_⟩
  obtain ⟨waits', port⟩ := h.idle still waits
  obtain ⟨waits'', port'⟩ := g.idle still waits'
  exact ⟨waits'', port.trans port'⟩

theorem ite {k : Prop} [Decidable k] (ht : k → Attends n q a t) (hu : ¬k → Attends n q a u) :
    Attends n q a (if k then t else u) := by
  split
  · next h => exact ht h
  · next h => exact hu h

theorem foldl {α : Type} {g : Ctl → α → Ctl} (hg : ∀ c y, Attends n q a c → Attends n q a (g c y)) (l : List α)
    (h : Attends n q a c) : Attends n q a (l.foldl g c) := by
  induction l generalizing c with
  | nil => exact h
  | cons y l ih => exact ih (hg c y h)

theorem eachDrive {g : Ctl → DriveNo → Ctl} (hg : ∀ c d, Attends n q a c → Attends n q a (g c d)) (h : Attends n q a c) :
    Attends n q a (Machine.eachDrive g c) := hg _ _ (hg _ _ (hg _ _ (hg _ _ h)))

/-! ### Single updates -/

/-- The port keeps all but its lamp, and waits as before or no more. -/
theorem port (h : Attends n q a c) (card : (c.card n).SameButLamp (t.card n))
    (waits : t.waits n = c.waits n ∨ t.waits n = none) (outq : t.outq = c.outq) : Attends n q a t :=
  h.trans ⟨card.insertion, fun _ mem _ => outq ▸ mem, fun _ none => ⟨waits.elim (·.trans none) id, card⟩⟩

theorem same (h : Attends n q a c) (cards : t.cards = c.cards) (waitList : t.waitList = c.waitList)
    (outq : t.outq = c.outq) : Attends n q a t :=
  h.port (by rw [Ctl.card_of_cards cards n]; rfl) (.inl (Ctl.waits_of_waitList waitList n)) outq

/-- A notice of another subject is queued or updated. -/
theorem pushNotice {y : Subject} {l : List Byte} (h : Attends n q a c) (hy : y ≠ .scanDone n) :
    Attends n q a (c.pushNotice y l) :=
  h.trans ⟨rfl, fun e mem kind => coalesce_mem_of_ne c.outq y l e mem (by simpa [kind] using hy.symm), fun _ h => ⟨h, rfl⟩⟩

theorem pushEntry {k : OutEntry} (h : Attends n q a c) : Attends n q a (c.pushEntry k) :=
  h.trans ⟨rfl, fun _ mem _ => List.mem_append_left _ mem, fun _ h => ⟨h, rfl⟩⟩

theorem setWait (h : Attends n q a c) : Attends n q a (c.setWait m none) :=
  h.port rfl (Ctl.setWait_waits_or n) rfl

theorem notifyPort (h : Attends n q a c) : Attends n q a (c.notifyPort p) :=
  .ite (fun _ => h.pushNotice (by simp)) fun _ => h

theorem notifyJob (h : Attends n q a c) : Attends n q a (c.notifyJob m) :=
  .ite (fun _ => h.pushNotice (by simp)) fun _ => h

theorem notifyProgress (h : Attends n q a c) : Attends n q a (c.notifyProgress m) :=
  .ite (fun _ => h.pushNotice (by simp)) fun _ => h

theorem lampUpdate (h : Attends n q a c) : Attends n q a (c.lampUpdate m) := by
  refine h.port ?_ (.inl (Ctl.waits_of_waitList (by simp) n)) (by simp)
  by_cases here : n = m
  · exact here ▸ c.lampUpdate_card n
  · rw [Ctl.lampUpdate_card_ne _ here]
    rfl

theorem dropWaitUnlessRunning (h : Attends n q a c) : Attends n q a (c.dropWaitUnlessRunning m) :=
  .ite (fun _ => h.setWait) fun _ => h

theorem dropStaleWait (h : Attends n q a c) : Attends n q a (c.dropStaleWait m) := .ite (fun _ => h.setWait) fun _ => h

theorem updJob {g : Job → Job} (h : Attends n q a c) : Attends n q a (c.updJob m g) := by
  have changed := ((h.same (t := c.modJob m g) rfl rfl rfl).dropWaitUnlessRunning (m := m)).lampUpdate (m := m)
  exact .ite (fun _ => changed) fun _ => changed.notifyJob

/-! ### Slabs -/

/-- A change of port m, which asks or waits. -/
theorem modCard {g : CardPort → CardPort} (h : Attends n q a c) (hg : ∀ p, (g p).insertion = p.insertion)
    (busy : n = m → q ∨ a.waits n ≠ none) : Attends n q a (c.modCard m g) := by
  by_cases here : n = m
  · subst here
    refine ⟨?_, h.scans, fun still none => ?_⟩
    · rw [Ctl.modCard_card, hg, h.insertion]
    · exact ((busy rfl).elim still fun waits => waits none).elim
  · refine h.port ?_ (.inl rfl) rfl
    rw [Ctl.modCard_card_ne _ _ here]
    rfl

theorem issueSpanRead (h : Attends n q a c) (busy : n = m → q ∨ a.waits n ≠ none) : Attends n q a (c.issueSpanRead m) := by
  unfold Ctl.issueSpanRead
  split
  · exact h
  · simp only
    split
    · exact h
    · split
      · exact h
      · exact (h.modCard (fun _ => by rfl) busy).modCard (fun _ => by rfl) busy

/-- A grant leaves the insertion of every port, and every port but its own. -/
theorem grant {k : SlabUse} (h : Attends n q a c) (busy : n = m → q ∨ a.waits n ≠ none) : Attends n q a (c.grant m k x) := by
  have taken {g : Slab → Slab} : Attends n q a { (c.modSlab x g).setWait m none with lastGranted := m } :=
    (setWait (h.same (t := c.modSlab x g) rfl rfl rfl)).same rfl rfl rfl
  cases k with
  | source =>
    simp only [Ctl.grant, Ctl.grantSource]
    split
    · exact h.setWait
    · exact (taken.modCard (fun _ => by rfl) busy).issueSpanRead busy
  | scan =>
    simp only [Ctl.grant, Ctl.grantScan, Ctl.cardRead]
    exact (taken.modCard (fun _ => by rfl) busy).modCard (fun _ => by rfl) busy

theorem offerRun (k : Nat) (h : Attends n q a c) : Attends n q a (c.offerRun k x) := by
  induction k generalizing c with
  | zero => exact h
  | succ k ih =>
    simp only [Ctl.offerRun]
    split
    · exact h
    · next m _ =>
      split
      · exact h
      · next u waiting =>
        refine .ite (fun _ => h.grant fun here => ?_) fun _ => ih h.setWait
        by_contra! idle
        obtain ⟨still, none⟩ := idle
        have none' := (h.idle still none).1
        rw [here, waiting] at none'
        cases none'

theorem offer (h : Attends n q a c) : Attends n q a (c.offer x) := h.offerRun 8

theorem raise {k : SlabUse} (h : Attends n q a c) (asks : n = m → q) : Attends n q a (c.raise m k) := by
  obtain ⟨-, e⟩ | ⟨-, x, -, e⟩ | ⟨-, -, e⟩ := c.raise_cases m k <;> rw [e]
  · exact h
  · exact h.grant fun here => .inl (asks here)
  · by_cases here : n = m
    · exact ⟨h.insertion, h.scans, fun still => (still (asks here)).elim⟩
    · exact h.port rfl (.inl (Ctl.setWait_waits_ne c _ here)) rfl

theorem raiseSource (h : Attends n q a c) (asks : n = m → c.sourceRequest m = true → q) : Attends n q a (c.raiseSource m) :=
  .ite (fun stands => h.raise fun here => asks here stands) fun _ => h

theorem freePoolSlab (h : Attends n q a c) : Attends n q a (c.freePoolSlab x) :=
  (h.same (t := c.modSlab x fun _ => Slab.freeValues) rfl rfl rfl).offer

theorem releaseCounted (h : Attends n q a c) : Attends n q a (c.releaseCounted m x) :=
  offer (notifyProgress (h.same rfl rfl rfl))

theorem testRelease (h : Attends n q a c) : Attends n q a (c.testRelease x) := by
  obtain ⟨m, -, -, e⟩ | e := c.testRelease_cases x <;> rw [e]
  · exact h.releaseCounted
  · exact h

theorem purgeDest {l : List SlabNo} (h : Attends n q a c) : Attends n q a (c.purgeDest d l) :=
  foldl (fun _ _ h => h.testRelease) l
    (foldl (g := fun c x => c.leavePending d x) (fun _ _ h => h.same rfl rfl rfl) l h)

theorem pump (h : Attends n q a c) : Attends n q a (c.pump d) := by
  obtain ⟨-, -, cards, waitList, -, -, -, outq⟩ := (c.pump_workOnly d).same
  exact h.same cards waitList outq

theorem pumpAll (h : Attends n q a c) : Attends n q a c.pumpAll := h.eachDrive fun _ _ h => h.pump

/-! ### Files -/

theorem endEntries (h : Attends n q a c) : Attends n q a (Ctl.endEntries r c d) :=
  .ite (fun _ => h) fun _ => pump (purgeDest (h.same rfl rfl rfl))

theorem retire {f : FileRec} {o : FileOutcome} (h : Attends n q a c) : Attends n q a (c.retire f o) := by
  have left : Attends n q a { c with files := c.files.filter fun g => g.ref != f.ref, fileDoneTurn := f.ref.job } :=
    h.same rfl rfl rfl
  have retired : Attends n q a (c.retired f o) := left.pushEntry.same rfl rfl rfl
  rw [Ctl.retire_eq]
  exact retired.eachDrive fun _ _ h => h.endEntries

theorem retireRun (k : Nat) (h : Attends n q a c) : Attends n q a (c.retireRun k m) := by
  induction k generalizing c with
  | zero => exact h
  | succ k ih =>
    simp only [Ctl.retireRun]
    split
    · exact h.same rfl rfl rfl
    · split
      · exact .ite (fun _ => ih h.retire) fun _ => h.same rfl rfl rfl
      · exact h.same rfl rfl rfl

/-! ### Jobs -/

theorem drainSlab (h : Attends n q a c) : Attends n q a (Ctl.drainSlab m c x) :=
  .ite (fun _ => h.releaseCounted) fun _ => h.freePoolSlab

theorem abandonFiles (h : Attends n q a c) : Attends n q a (c.abandonFiles m) := h.same rfl rfl rfl

theorem drainedStop (h : Attends n q a c) : Attends n q a (c.drainedStop m) := by
  have freed := h.foldl (g := Ctl.drainSlab m) (fun _ _ h => h.drainSlab) (c.slabsWhere fun s => s.isSourceOf m)
  exact freed.abandonFiles.retireRun _

theorem fault {k : FaultCause} (h : Attends n q a c) : Attends n q a (c.fault m k) := h.updJob.pumpAll

theorem cardGone (h : Attends n q a c) : Attends n q a (c.cardGone m) := .ite (fun _ => h.updJob) fun _ => h

theorem cardReturned (h : Attends n q a c) : Attends n q a (c.cardReturned m) := by
  unfold Ctl.cardReturned
  refine .ite (fun _ => .ite (fun _ => ?_) fun _ => .ite (fun _ => h) fun _ => h.fault) fun _ => h
  split <;> exact h.updJob

end

end Ctl.Attends

section
variable {c t : Ctl} {n : CardNo}

/-- The end of a job assesses its port, and leaves the rest of it but the lamp (R107). -/
theorem Ctl.endJob_card (c : Ctl) (n : CardNo) (r : EndReason) :
    ∃ b, (b = true → (c.card n).state = .ready)
      ∧ { c.card n with cleared := b, unclean := !b }.SameButLamp ((c.endJob n r).card n) := by
  let k := (c.modJob n fun j => j.endedBy r).dropWaitUnlessRunning n
  have card : k.card n = c.card n := Ctl.card_of_cards (by simp [k]) n
  refine ⟨k.clearable n, fun met => ?_, ?_⟩
  · obtain ⟨-, -, ⟨state, -⟩, -⟩ := Ctl.clearable_iff.1 met
    rwa [card] at state
  · have assessed := k.evaluateClearance_card n
    rw [card] at assessed
    have ends : (c.endJob n r).card n = ((k.evaluateClearance n).lampUpdate n).card n :=
      Ctl.card_of_cards (Ctl.notifyJob_cards _ _) n
    rw [ends]
    exact assessed.trans (Ctl.lampUpdate_card _ n)

theorem Ctl.setMarks_scans (c : Ctl) {i j k : Bool} (e : OutEntry) (mem : e ∈ c.outq)
    (kind : e.kind = .notice (.scanDone n)) : e ∈ (c.setMarks n i j k).outq := by
  simp only [Ctl.setMarks]
  split
  · exact mem
  · have marked : Ctl.Attends n False (c.modCard n fun p => { p with cleared := i, residue := j, unclean := k })
        (((c.modCard n fun p => { p with cleared := i, residue := j, unclean := k }).lampUpdate n).notifyPort (.card n)) :=
      (Ctl.Attends.refl _).lampUpdate.notifyPort
    exact marked.scans e mem kind

theorem Ctl.evaluateClearance_scans (c : Ctl) (e : OutEntry) (mem : e ∈ c.outq) (kind : e.kind = .notice (.scanDone n)) :
    e ∈ (c.evaluateClearance n).outq := by
  simp only [Ctl.evaluateClearance]
  split <;> exact c.setMarks_scans e mem kind

/-- The end of a job takes its port off the wait list, or leaves it there, and leaves a SCAN_DONE. -/
theorem Ctl.endJob_waits (c : Ctl) (n : CardNo) (r : EndReason) :
    ((c.endJob n r).waits n = c.waits n ∨ (c.endJob n r).waits n = none)
      ∧ ∀ e ∈ c.outq, e.kind = .notice (.scanDone n) → e ∈ (c.endJob n r).outq := by
  let k := (c.modJob n fun j => j.endedBy r).dropWaitUnlessRunning n
  have start : Ctl.Attends n False c k := ((Ctl.Attends.refl c).same (t := c.modJob n fun j => j.endedBy r) rfl rfl
    rfl).dropWaitUnlessRunning
  have last : Ctl.Attends n False (k.evaluateClearance n) (c.endJob n r) :=
    (Ctl.Attends.refl (k.evaluateClearance n)).lampUpdate.notifyJob
  refine ⟨?_, fun e mem kind => last.scans e (k.evaluateClearance_scans e (start.scans e mem kind) kind) kind⟩
  have waits : (c.endJob n r).waits n = k.waits n := Ctl.waits_of_waitList (by simp [Ctl.endJob, k, Job.endedBy]) n
  rw [waits]
  simp only [k, Ctl.dropWaitUnlessRunning]
  split
  · exact Ctl.setWait_waits_or n
  · exact .inl rfl

theorem Ctl.dropStaleWait_sourceRequest (c : Ctl) (n : CardNo) : (c.dropStaleWait n).sourceRequest n = c.sourceRequest n := by
  simp only [Ctl.sourceRequest, Ctl.readingFile, Ctl.dropStaleWait_job, Ctl.dropStaleWait_card,
    Ctl.queue_of_files (c.dropStaleWait_files n), Ctl.sourceCount_of_slabs (c.dropStaleWait_slabs n)]

/-- What settles for a job keeps its port as `Attends` says, and may then end the job. -/
theorem Ctl.settle_attends (c : Ctl) (n : CardNo) :
    ∃ k, Ctl.Attends n (c.sourceRequest n = true) c k ∧ (c.settle n = k ∨ ∃ r, c.settle n = k.endJob n r) := by
  have dropped : Ctl.Attends n (c.sourceRequest n = true) c (c.dropStaleWait n) := (Ctl.Attends.refl c).dropStaleWait
  simp only [Ctl.settle]
  split
  · split
    · exact ⟨_, dropped, .inr ⟨_, rfl⟩⟩
    · refine ⟨_, dropped.raiseSource fun _ stands => ?_, .inl rfl⟩
      rwa [← Ctl.dropStaleWait_sourceRequest c n]
  · split
    · exact ⟨_, dropped, .inr ⟨_, rfl⟩⟩
    · exact ⟨_, dropped, .inl rfl⟩
  · exact ⟨_, .ite (fun _ => dropped.updJob) fun _ => dropped, .inl rfl⟩
  · split
    · rw [Ctl.drainStop_eq]
      split
      · exact ⟨_, dropped.drainedStop, .inr ⟨_, rfl⟩⟩
      · exact ⟨_, dropped.drainedStop, .inl rfl⟩
    · exact ⟨_, dropped, .inl rfl⟩
  · exact ⟨_, dropped, .inl rfl⟩

end

end Sys2Proof.Machine

namespace Sys2Proof.Machine

/-! ## The end of an IDENTIFY (R118, R119, R120, R137)

### A drive port takes work -/

/-- What the identification of a drive makes of its port. -/
def DrivePort.attachment (p : DrivePort) : DriveState × Nat × Nat × Serial × Option Loss :=
  (p.state, p.attempts, p.capacity, p.serial, p.loss)

section
variable {c t : Ctl} {d : DriveNo} {p q : DrivePort}

theorem DrivePort.attachment_fields (h : q.attachment = p.attachment) :
    q.state = p.state ∧ q.attempts = p.attempts ∧ q.capacity = p.capacity ∧ q.serial = p.serial ∧ q.loss = p.loss := by
  simpa only [DrivePort.attachment, Prod.mk.injEq] using h

theorem Ctl.modDrive_attachment (c : Ctl) {g : DrivePort → DrivePort} (hg : ∀ p, (g p).attachment = p.attachment) :
    ((c.modDrive d g).drive d).attachment = (c.drive d).attachment := by
  rw [Ctl.modDrive_drive, hg]

theorem Ctl.startWrite_attachment (c : Ctl) (x : SlabNo) (b : Nat) (first : Bool) :
    ((c.startWrite d x b first).drive d).attachment = (c.drive d).attachment := by
  cases h : c.writeTxn d x b with
  | none => rw [Ctl.startWrite_none h]
  | some txn => rw [Ctl.startWrite_drive (start := txn.1) (count := txn.2) h]; rfl

theorem Ctl.takeSpan_attachment (c : Ctl) : ((c.takeSpan d).drive d).attachment = (c.drive d).attachment := by
  unfold Ctl.takeSpan
  split
  · split
    · rfl
    · simp only [Ctl.modSlab_drive, Ctl.modDrive_drive]
      rfl
  · rfl

theorem Ctl.issueReadBack_attachment (c : Ctl) : ((c.issueReadBack d).drive d).attachment = (c.drive d).attachment := by
  unfold Ctl.issueReadBack
  split
  · split
    · split
      · exact (Ctl.modDrive_attachment _ fun _ => by rfl).trans (c.modDrive_attachment fun _ => by rfl)
      · rfl
    · rfl
  · rfl

theorem Ctl.PortStep.attachment (h : c.PortStep d t) : (t.drive d).attachment = (c.drive d).attachment := by
  cases h with
  | verify | stageNext | stageOldest => exact c.modDrive_attachment fun _ => by rfl
  | staged | oldest => exact (Ctl.startWrite_attachment ..).trans (c.modDrive_attachment fun _ => by rfl)
  | readBack => exact (Ctl.issueReadBack_attachment _).trans c.takeSpan_attachment
  | next => exact c.startWrite_attachment ..

theorem Ctl.pump_attachment (c : Ctl) (d : DriveNo) : ((c.pump d).drive d).attachment = (c.drive d).attachment :=
  Ctl.pump_induction (P := fun t => (t.drive d).attachment = (c.drive d).attachment) rfl
    fun _ _ h s => s.attachment.trans h

/-- The work of a returned drive is placed beside what its identification made of the port. -/
theorem Ctl.verifiesBack_attachment (u : Ctl) (d : DriveNo) :
    ((u.verifiesBack d).drive d).attachment = (u.drive d).attachment := by
  have chosen : ((u.writeChosen d).drive d).attachment = ((u.writesBack d).drive d).attachment := by
    obtain e | step := (u.writesBack d).choose_step d
    · rw [Ctl.writeChosen, e]
    · exact step.attachment
  obtain ⟨q, e⟩ := u.verifiesBack_eq d
  rw [e]
  refine (Ctl.modDrive_attachment _ fun _ => by rfl).trans (chosen.trans ?_)
  rw [Ctl.writesBack_drive]
  rfl

end

/-! ### What the identification makes of a port -/

section
variable {c : Ctl} {n : CardNo} {d : DriveNo} {f : Flight} {o : TxnOutcome} {cap : Nat} {ser : Serial}

theorem Ctl.settle_insertion (c : Ctl) (n : CardNo) : ((c.settle n).card n).insertion = (c.card n).insertion := by
  obtain ⟨k, attends, e | ⟨r, e⟩⟩ := c.settle_attends n
  · rw [e, attends.insertion]
  · obtain ⟨b, -, port⟩ := k.endJob_card n r
    rw [e, port.insertion, ← attends.insertion]
    rfl

theorem Ctl.endTxn_cardIdentify (hf : f.kind = .identify) :
    c.endTxn (.card n) f o cap ser =
      (c.modCard n fun p => { p with link := p.link.finish }).cardIdentified n o cap ser := by
  simp only [Ctl.endTxn, Ctl.cardTxnEnd, hf]
  rfl

/-- A card that has given its capacity is READY, whatever its job makes of it (R119). -/
theorem Ctl.cardIdentified_ready (c : Ctl) (n : CardNo) (ser : Serial) (pos : 0 < cap) :
    let p := (c.cardIdentified n .good cap ser).card n
    p.state = .ready ∧ p.capacity = cap ∧ p.serial = ser ∧ p.attempts = 0 := by
  let k := c.modCard n fun p => { p with state := .ready, attempts := 0, capacity := cap, serial := ser }
  have attends : Ctl.Attends n True k (((k.cardReturned n).notifyPort (.card n)).lampUpdate n) :=
    (Ctl.Attends.refl k).cardReturned.notifyPort.lampUpdate
  have made : c.cardIdentified n .good cap ser = (((k.cardReturned n).notifyPort (.card n)).lampUpdate n).settle n := by
    rw [Ctl.cardIdentified, if_pos ⟨rfl, pos⟩]
  rw [made]
  obtain ⟨state, -, -, attempts, capacity, serial⟩ := CardPort.insertion_fields
    ((Ctl.settle_insertion _ n).trans attends.insertion)
  have port : k.card n = { c.card n with state := .ready, attempts := 0, capacity := cap, serial := ser } :=
    Ctl.modCard_card ..
  rw [port] at state attempts capacity serial
  exact ⟨state, capacity, serial, attempts⟩

/-- A failed attempt to identify a card (R120): another IDENTIFY, or ERROR at the third. -/
theorem Ctl.cardIdentified_failed (c : Ctl) (n : CardNo) (failed : ¬(o = .good ∧ 0 < cap)) :
    ((c.card n).attempts < 3 → (c.cardIdentified n o cap ser).card n =
        { c.card n with
          attempts := (c.card n).attempts + 1, link := (c.card n).link.issue .identify 0 0 0 Config.cardTimeout })
      ∧ (3 ≤ (c.card n).attempts →
        { c.card n with state := .error }.SameButLamp ((c.cardIdentified n o cap ser).card n)) := by
  rw [Ctl.cardIdentified, if_neg failed]
  refine ⟨fun few => ?_, fun third => ?_⟩
  · rw [if_pos few, Ctl.cardIdentify, Ctl.modCard_card, Ctl.modCard_card]
  · rw [if_neg (Nat.not_lt.2 third)]
    have lamp := Ctl.lampUpdate_card ((c.modCard n fun p => { p with state := .error }).notifyPort (.card n)) n
    rwa [Ctl.card_of_cards (Ctl.notifyPort_cards ..), Ctl.modCard_card] at lamp

/-- A drive that has given its capacity is READY, whatever work it takes (R137, R138). -/
theorem Ctl.endTxn_driveIdentify_ready (c : Ctl) (d : DriveNo) (ser : Serial) (hf : f.kind = .identify) (pos : 0 < cap) :
    let p := (c.endTxn (.drive d) f .good cap ser).drive d
    p.state = .ready ∧ p.capacity = cap ∧ p.serial = ser ∧ p.attempts = 0 ∧ p.loss = none := by
  intro p
  have kept : p.attachment = ((c.driveIdentifiedAs d cap ser).drive d).attachment := by
    simp only [p]
    rw [Ctl.endTxn_driveIdentify hf pos, Ctl.drive_of_drives (Ctl.settleAll_drives _),
      Ctl.drive_of_drives (Ctl.notifyPort_drives ..), Ctl.pump_attachment, Ctl.verifiesBack_attachment]
  rw [Ctl.driveIdentifiedAs, Ctl.modDrive_drive] at kept
  obtain ⟨state, attempts, capacity, serial, loss⟩ := DrivePort.attachment_fields kept
  exact ⟨state, capacity, serial, attempts, loss⟩

/-- A failed attempt to identify a drive (R137): another IDENTIFY, or ERROR at the third. -/
theorem Ctl.endTxn_driveIdentify_failed (c : Ctl) (d : DriveNo) (hf : f.kind = .identify)
    (failed : ¬(o = .good ∧ 0 < cap)) :
    let p := c.drive d
    let t := (c.endTxn (.drive d) f o cap ser).drive d
    (p.attempts < 3 → t = { p with attempts := p.attempts + 1, link := p.link.sent .identify 0 0 0 4000 })
      ∧ (3 ≤ p.attempts → t = { p with state := .error, link := { p.link with cond := .idle } }) := by
  intro p t
  let k := c.modDrive d fun p => { p with link := p.link.finish }
  have port : k.drive d = { p with link := p.link.finish } := Ctl.modDrive_drive ..
  have made : t = (k.driveIdentified d o cap ser).drive d := by
    simp only [t, Ctl.endTxn, Ctl.driveTxnEnd, hf]
    rfl
  rw [Ctl.driveIdentified, if_neg failed, port] at made
  refine ⟨fun few => ?_, fun third => ?_⟩
  · rw [made, if_pos few, Ctl.driveIssue, Ctl.modDrive_drive, Ctl.modDrive_drive, port]
    simp only [Link.issue_idle p.link.finish rfl]
    rfl
  · rw [made, if_neg (Nat.not_lt.2 third), Ctl.drive_of_drives (Ctl.notifyPort_drives ..), Ctl.modDrive_drive, port]
    rfl

end

/-! ### The end of a link reset (R155) -/

section
variable {c : Ctl} {n : CardNo} {d : DriveNo}

/-- A card link's reset ends: the port sends the IDENTIFY that waited for it (log 23). -/
theorem Ctl.linkResetEnds_card (start : (c.card n).link.cond = .resetting) :
    c.linkResetEnds (.card n) = c.setLink (.card n)
      (if (c.card n).state = .identifying then (c.card n).link.sent .identify 0 0 0 1000
        else { (c.card n).link with cond := .idle }) := by
  rw [Ctl.linkResetEnds, Ctl.link, if_pos start, Ctl.identifyIfWaiting]
  simp only [Ctl.setLink, Ctl.modCard_card, Ctl.cardIdentify, Ctl.modCard_modCard]
  split
  · simp only [Link.issue_idle { (c.card n).link with cond := .idle } rfl]
    rfl
  · rfl

/-- The same for a drive link. -/
theorem Ctl.linkResetEnds_drive (start : (c.drive d).link.cond = .resetting) :
    c.linkResetEnds (.drive d) = c.setLink (.drive d)
      (if (c.drive d).state = .identifying then (c.drive d).link.sent .identify 0 0 0 4000
        else { (c.drive d).link with cond := .idle }) := by
  rw [Ctl.linkResetEnds, Ctl.link, if_pos start, Ctl.identifyIfWaiting]
  simp only [Ctl.setLink, Ctl.modDrive_drive, Ctl.driveIssue, Ctl.modDrive_modDrive]
  split
  · simp only [Link.issue_idle { (c.drive d).link with cond := .idle } rfl]
    rfl
  · rfl

end

/-- Settles O55, for each kind of port; what a link's reset leaves to do is read off. -/
theorem identifyDecidesThePort : Obligations.IdentifyDecidesThePort := by
  have not_good {o : TxnOutcome} {cap : Nat} (bad : o ≠ .good ∨ cap = 0) : ¬(o = .good ∧ 0 < cap) :=
    fun ⟨good, pos⟩ => bad.elim (· good) pos.ne'
  refine ⟨fun c f o cap ser hf => ⟨fun n => ?_, fun d => ?_⟩, fun s p runs => ?_⟩
  · simp only [Ctl.endTxn_cardIdentify hf]
    have port : (c.modCard n fun p => { p with link := p.link.finish }).card n =
        { c.card n with link := (c.card n).link.finish } := Ctl.modCard_card ..
    refine ⟨fun good pos => good ▸ Ctl.cardIdentified_ready _ n ser pos, fun bad few => ?_, fun bad third => ?_⟩
    · rw [(Ctl.cardIdentified_failed _ n (not_good bad)).1 (by rw [port]; exact few), port]
      simp only [Link.issue_idle (c.card n).link.finish rfl]
      rfl
    · have ends := (Ctl.cardIdentified_failed (ser := ser) _ n (not_good bad)).2 (by rw [port]; exact third)
      obtain ⟨-, -, -, link, state, -⟩ := ends.fields
      rw [link, state, port]
      exact ⟨rfl, rfl⟩
  · exact ⟨fun good pos => good ▸ c.endTxn_driveIdentify_ready d ser hf pos,
      fun bad => (c.endTxn_driveIdentify_failed d hf (not_good bad)).1,
      fun bad => (c.endTxn_driveIdentify_failed d hf (not_good bad)).2⟩
  · have ends : exec (.linkResetExpiry p) s = .next { s with ctl := s.ctl.linkResetEnds p } :=
      congrArg Host.Outcome.next (s.runCtl_of_running _ runs)
    rw [ends]
    refine ⟨fun other => congrArg (fun c => Host.Outcome.next { s with ctl := c }) (if_neg other), ?_⟩
    cases p with
    | card n =>
      refine ⟨fun start still => ?_, fun start waits => ?_⟩ <;> rw [Ctl.linkResetEnds_card start]
      · rw [if_neg (by simpa using still)]
        rfl
      · rw [if_pos (by simpa using waits)]
        rfl
    | drive d =>
      refine ⟨fun start still => ?_, fun start waits => ?_⟩ <;> rw [Ctl.linkResetEnds_drive start]
      · rw [if_neg (by simpa using still)]
        rfl
      · rw [if_pos (by simpa using waits)]
        rfl

end Sys2Proof.Machine

namespace Sys2Proof.Machine

/-! ## Samples of PRESENT (R116, R135) -/

section
variable {c : Ctl} {n : CardNo} {d : DriveNo}

/-! ### At a card port -/

/-- The first high sample at an EMPTY port. -/
theorem Ctl.cardSample_begins (empty : (c.card n).state = .empty) :
    c.cardSample n true = ((c.modCard n fun p => { p with state := .settling, highRun := 1, lowRun := 0 }).notifyPort
      (.card n)).lampUpdate n := by
  simp only [Ctl.cardSample, if_true, Ctl.modCard_card, empty, Ctl.modCard_modCard]

/-- The high sample that settles a port. -/
theorem Ctl.cardSample_settles (settling : (c.card n).state = .settling) (due : c.debounce ≤ (c.card n).highRun + 1) :
    c.cardSample n true = ((c.modCard n fun p => { p with
      highRun := min c.debounce (p.highRun + 1), lowRun := 0, state := .identifying, attempts := 1
      link := p.link.issue .identify 0 0 0 Config.cardTimeout }).notifyPort (.card n)).lampUpdate n := by
  have full : c.debounce ≤ min c.debounce ((c.card n).highRun + 1) := le_min le_rfl due
  simp only [Ctl.cardSample, if_true, Ctl.modCard_card, settling, if_pos full, Ctl.cardIdentifying, Ctl.cardIdentify,
    Ctl.modCard_modCard]

/-- Any other high sample moves the runs. -/
theorem Ctl.cardSample_high (held : (c.card n).state ≠ .empty)
    (short : ¬((c.card n).state = .settling ∧ c.debounce ≤ (c.card n).highRun + 1)) :
    c.cardSample n true =
      c.modCard n fun p => { p with highRun := min c.debounce (p.highRun + 1), lowRun := 0 } := by
  simp only [Ctl.cardSample, if_true, Ctl.modCard_card]
  split
  · next empty => exact (held empty).elim
  · next settling =>
    refine if_neg fun full => short ⟨settling, ?_⟩
    exact full.trans (min_le_right ..)
  all_goals rfl

/-- A low sample removes the card, or moves the runs. -/
theorem Ctl.cardSample_low (c : Ctl) (n : CardNo) :
    let counted := c.modCard n fun p => { p with lowRun := min c.debounce (p.lowRun + 1), highRun := 0 }
    c.cardSample n false = if c.removalDue n = true then counted.cardRemoved n else counted := by
  have full : c.debounce ≤ min c.debounce ((c.card n).lowRun + 1) ↔ c.debounce ≤ (c.card n).lowRun + 1 := by
    simp
  cases state : (c.card n).state <;> simp [Ctl.cardSample, Ctl.removalDue, state, full]

/-- A card port that changes, is reported and works its lamp out: the rest stays. -/
theorem Ctl.changedPort (c : Ctl) (n : CardNo) (g : CardPort → CardPort) :
    let t := ((c.modCard n g).notifyPort (.card n)).lampUpdate n
    (g (c.card n)).SameButLamp (t.card n) ∧ c.OtherPortsSame t n ∧ t.jobs = c.jobs ∧ t.files = c.files := by
  refine ⟨?_, ⟨fun m other => ?_, by simp, by simp, by simp⟩, by simp, by simp⟩
  · have lamp := Ctl.lampUpdate_card ((c.modCard n g).notifyPort (.card n)) n
    rwa [Ctl.card_of_cards (Ctl.notifyPort_cards ..), Ctl.modCard_card] at lamp
  · rw [Ctl.lampUpdate_card_ne _ other, Ctl.card_of_cards (Ctl.notifyPort_cards ..), Ctl.modCard_card_ne _ _ other]

/-! ### At a drive port -/

/-- The first high sample at an ABSENT port. -/
theorem Ctl.driveSample_begins (absent : (c.drive d).state = .absent) :
    c.driveSample d true =
      (c.modDrive d fun p => { p with state := .settling, highRun := 1, lowRun := 0 }).notifyPort (.drive d) := by
  simp only [Ctl.driveSample, if_true, Ctl.modDrive_drive, absent, Ctl.modDrive_modDrive]

/-- The high sample that settles a port. -/
theorem Ctl.driveSample_settles (settling : (c.drive d).state = .settling) (due : c.debounce ≤ (c.drive d).highRun + 1) :
    c.driveSample d true = (c.modDrive d fun p => { p with
      highRun := min c.debounce (p.highRun + 1), lowRun := 0, state := .identifying, attempts := 1
      link := p.link.issue .identify 0 0 0 Config.driveTimeout }).notifyPort (.drive d) := by
  have full : c.debounce ≤ min c.debounce ((c.drive d).highRun + 1) := le_min le_rfl due
  simp only [Ctl.driveSample, if_true, Ctl.modDrive_drive, settling, if_pos full, Ctl.driveIdentifying, Ctl.driveIssue,
    Ctl.modDrive_modDrive]

/-- Any other high sample moves the runs. -/
theorem Ctl.driveSample_high (held : (c.drive d).state ≠ .absent)
    (short : ¬((c.drive d).state = .settling ∧ c.debounce ≤ (c.drive d).highRun + 1)) :
    c.driveSample d true =
      c.modDrive d fun p => { p with highRun := min c.debounce (p.highRun + 1), lowRun := 0 } := by
  simp only [Ctl.driveSample, if_true, Ctl.modDrive_drive]
  split
  · next absent => exact (held absent).elim
  · next settling =>
    refine if_neg fun full => short ⟨settling, ?_⟩
    exact full.trans (min_le_right ..)
  all_goals rfl

/-- A low sample short of N, or at an ABSENT port, moves the runs. -/
theorem Ctl.driveSample_low (short : ¬((c.drive d).state ≠ .absent ∧ c.debounce ≤ (c.drive d).lowRun + 1)) :
    c.driveSample d false =
      c.modDrive d fun p => { p with lowRun := min c.debounce (p.lowRun + 1), highRun := 0 } := by
  have full : c.debounce ≤ min c.debounce ((c.drive d).lowRun + 1) ↔ c.debounce ≤ (c.drive d).lowRun + 1 := by
    simp
  simp only [Ctl.driveSample, Bool.false_eq_true, if_false, Ctl.modDrive_drive]
  cases state : (c.drive d).state <;> simp [full] <;> intro due <;> exact (short ⟨by simp [state], due⟩).elim

end

/-- Settles O48, sample by sample; a named sample is the sample it names. -/
theorem presenceSamplesSettleAPort : Obligations.PresenceSamplesSettleAPort := by
  intro s runs capped
  have run (f : Ctl → Ctl) :
      Host.Outcome.next (s.runCtl f) = (.next { s with ctl := f s.ctl } : Host.Outcome State Fault Refusal) :=
    congrArg _ (s.runCtl_of_running f runs)
  have next {c t : Ctl} (same : c = t) :
      (.next { s with ctl := c } : Host.Outcome State Fault Refusal) = .next { s with ctl := t } := same ▸ rfl
  refine ⟨fun n => ?_, fun d => ?_⟩
  · intro p settles leaves
    have begins (empty : p.state = .empty) : exec (.cardInsertionBegin n) s =
        .next { s with ctl := s.ctl.cardSample n true } := (run _).trans (next (if_pos empty))
    have settled (due : settles) : exec (.cardSettled n) s = .next { s with ctl := s.ctl.cardSample n true } :=
      (run _).trans (next (if_pos due))
    have high : exec (.presentSample (.card n) true) s = .next { s with ctl := s.ctl.cardSample n true } := run _
    have low : exec (.presentSample (.card n) false) s = .next { s with ctl := s.ctl.cardLow s.dram n } := run _
    have removes : leaves ↔ s.ctl.removalDue n = true := by simp [leaves, p, Ctl.removalDue]
    refine ⟨fun empty => ?_, fun held => (run _).trans (next (if_neg held)), fun due => ?_,
      fun short => (run _).trans (next (if_neg short)), fun empty => high.trans (begins empty).symm,
      fun due => high.trans (settled due).symm, fun due => low.trans ((run _).trans (next (if_pos (removes.1 due)))).symm,
      fun held short => high.trans (next (Ctl.cardSample_high held short)), fun short => low.trans (next ?_)⟩
    · obtain ⟨port, others, jobs, files⟩ := s.ctl.changedPort n fun p =>
        { p with state := .settling, highRun := 1, lowRun := 0 }
      rw [← Ctl.cardSample_begins empty] at port others jobs files
      exact ⟨_, begins empty, rfl, port, others, jobs, files⟩
    · obtain ⟨port, others, jobs, files⟩ := s.ctl.changedPort n fun p => { p with
        highRun := min s.ctl.debounce (p.highRun + 1), lowRun := 0, state := .identifying, attempts := 1
        link := p.link.issue .identify 0 0 0 Config.cardTimeout }
      rw [← Ctl.cardSample_settles due.1 due.2] at port others jobs files
      obtain ⟨-, -, -, attempts, -⟩ := CardPort.insertion_fields port.insertion
      obtain ⟨-, -, -, link, state, -⟩ := port.fields
      refine ⟨_, settled due, rfl, state, attempts, fun idle => ?_, fun busy => ?_, others, jobs, files⟩
      · rw [link]
        exact Link.issue_idle p.link idle ..
      · rw [link]
        exact Link.issue_busy p.link (by rw [busy]; exact LinkCond.noConfusion) ..
    · have stays : ¬s.ctl.removalDue n = true := mt removes.2 short
      rw [Ctl.cardLow, if_neg stays, Ctl.cardSample_low, if_neg stays]
      rfl
  · intro p settles leaves
    have begins (absent : p.state = .absent) :
        exec (.driveAttachBegin d) s = .next { s with ctl := s.ctl.driveSample d true } :=
      (run _).trans (next (if_pos absent))
    have settled (due : settles) : exec (.driveSettled d) s = .next { s with ctl := s.ctl.driveSample d true } :=
      (run _).trans (next (if_pos due))
    have sample (high : Bool) :
        exec (.presentSample (.drive d) high) s = .next { s with ctl := s.ctl.driveSample d high } := run _
    refine ⟨fun absent => ?_, fun held => (run _).trans (next (if_neg held)), fun due => ?_,
      fun short => (run _).trans (next (if_neg short)), fun absent => (sample true).trans (begins absent).symm,
      fun due => (sample true).trans (settled due).symm,
      fun due => (sample false).trans ((run _).trans (next (if_pos due))).symm,
      fun held short => (sample true).trans (next (Ctl.driveSample_high held short)),
      fun short => (sample false).trans (next (Ctl.driveSample_low short))⟩
    · refine ⟨_, begins absent, rfl, ?_⟩
      simp only [Ctl.driveSample_begins absent, Ctl.notifyPort_drives, Ctl.notifyPort_cards, Ctl.notifyPort_jobs,
        Ctl.notifyPort_files]
      exact ⟨rfl, rfl, rfl, rfl⟩
    · refine ⟨_, settled due, rfl, ?_⟩
      simp only [Ctl.driveSample_settles due.1 due.2, Ctl.drive_of_drives (Ctl.notifyPort_drives ..), Ctl.modDrive_drive,
        Ctl.notifyPort_cards, Ctl.notifyPort_jobs, Ctl.notifyPort_files]
      exact ⟨trivial, trivial, fun idle => Link.issue_idle p.link idle ..,
        fun busy => Link.issue_busy p.link (by rw [busy]; exact LinkCond.noConfusion) .., rfl, rfl, rfl⟩

end Sys2Proof.Machine

namespace Sys2Proof.Machine

/-! ## A removal (R117)

### What the blank checker may have examined (R169, R171) -/

theorem allBytes_iff (m : List Host.Cell) (v : Byte) (addr k : Nat) :
    allBytes m v addr k = true ↔ ∀ w ∈ readBytes m addr k, w = v := by
  induction k generalizing addr with
  | zero => simp [allBytes, readBytes]
  | succ k ih =>
    have bytes : readBytes m addr (k + 1) = readByte m addr :: readBytes m (addr + 1) k := by
      rw [readBytes, List.range_succ_eq_map]
      simp [readBytes, Function.comp_def, Nat.add_assoc, Nat.add_comm 1]
    rw [allBytes, Bool.and_eq_true, ih, bytes, List.forall_mem_cons, beq_iff_eq]

theorem Scan.blankAt_iff (q : Scan) (m : List Host.Cell) (x : SlabNo) (i : Nat) :
    q.BlankAt m x i ↔ blockBlank m q.pattern (slabAddr x (q.place i * 512)) = true := by
  have addr : slabAddr x (q.place i * 512) =
      65536 * x.val + 512 * (if q.direction = .up then i else q.chunkSize - 1 - i) := by
    rw [slabAddr, Scan.place, Nat.mul_comm x.val, Nat.mul_comm _ 512]
    cases q.direction <;> rfl
  rw [addr]
  unfold Scan.BlankAt blockBlank
  cases q.pattern <;> simp [allBytes_iff]

/-- Blocks before the first that is not blank are blank, and there are fewer of them than the chunk has. -/
theorem Scan.mayHaveExamined_of_le {q : Scan} {m : List Host.Cell} {x : SlabNo} {k : Nat} (checking : q.phase = .checking)
    (slab : q.slab = some x) (le : k ≤ (q.firstResidue m x).getD (q.chunkSize - 1)) : q.MayHaveExamined m k := by
  rcases Nat.eq_zero_or_pos k with zero | pos
  · exact .inl zero
  refine .inr ⟨x, checking, slab, ?_⟩
  simp only [Scan.blankAt_iff]
  cases found : q.firstResidue m x with
  | none =>
    rw [found, Option.getD_none] at le
    refine ⟨by omega, fun i before => ?_⟩
    simpa using List.find?_eq_none.1 found i (List.mem_range.2 (by omega))
  | some j =>
    rw [found, Option.getD_some] at le
    have chunk : j < q.chunkSize := List.mem_range.1 (List.mem_of_find?_eq_some found)
    refine ⟨by omega, fun i before => ?_⟩
    obtain ⟨-, -, blank⟩ := List.find?_range_eq_some.1 found
    simpa using blank i (by omega)

/-- The examination that a removal breaks off: some blocks more count as examined, and nothing else changes (log 36). -/
theorem Ctl.examinePart_eq (m : List Host.Cell) (c : Ctl) (n : CardNo) :
    ∃ k, (c.card n).scan.MayHaveExamined m k
      ∧ ∃ ps i, c.examinePart m n = { c with cards := ps, freeDraws := i }
        ∧ (c.examinePart m n).card n =
          { c.card n with scan := { (c.card n).scan with examined := (c.card n).scan.examined + k } } := by
  unfold Ctl.examinePart
  simp only
  split
  · next x checking slab =>
    exact ⟨min (Config.examinedBefore c.freeDraws) _, Scan.mayHaveExamined_of_le checking slab (min_le_right ..), _, _, rfl,
      Ctl.modCard_card ..⟩
  · exact ⟨0, .inl rfl, c.cards, c.freeDraws, rfl, rfl⟩

/-! ### What the port gives up -/

section
variable {c : Ctl} {n : CardNo}

/-- A port that waits for no slab gives up its reader, and the freed slab goes to another port. -/
theorem Ctl.dropReader_port (idle : c.waits n = none) :
    { c.card n with reader := none }.SameButLamp ((c.dropReader n).card n) ∧ (c.dropReader n).waits n = none := by
  unfold Ctl.dropReader
  split
  · next none =>
    rw [← none]
    exact ⟨rfl, idle⟩
  · next r _ =>
    have freed : Ctl.Attends n False (c.modCard n fun p => { p with reader := none })
        ((c.modCard n fun p => { p with reader := none }).freePoolSlab r.slab) := (Ctl.Attends.refl _).freePoolSlab
    obtain ⟨waits, port⟩ := freed.idle id idle
    rw [Ctl.modCard_card] at port
    exact ⟨port, waits⟩

/-- The same of its scan's slab. -/
theorem Ctl.dropScanSlab_port (idle : c.waits n = none) :
    { c.card n with scan := { (c.card n).scan with slab := none } }.SameButLamp ((c.dropScanSlab n).card n)
      ∧ (c.dropScanSlab n).waits n = none := by
  unfold Ctl.dropScanSlab
  split
  · next none =>
    rw [← none]
    exact ⟨rfl, idle⟩
  · next x _ =>
    have freed : Ctl.Attends n False (c.modCard n fun p => { p with scan := { p.scan with slab := none } })
        ((c.modCard n fun p => { p with scan := { p.scan with slab := none } }).freePoolSlab x) :=
      (Ctl.Attends.refl _).freePoolSlab
    obtain ⟨waits, port⟩ := freed.idle id idle
    rw [Ctl.modCard_card] at port
    exact ⟨port, waits⟩

theorem Ctl.setMarks_port (idle : c.waits n = none) (i j k : Bool) :
    { c.card n with cleared := i, residue := j, unclean := k }.SameButLamp ((c.setMarks n i j k).card n)
      ∧ (c.setMarks n i j k).waits n = none :=
  ⟨c.setMarks_card n i j k, (Ctl.waits_of_waitList (by simp) n).trans idle⟩

end

/-! ### The port that a removal leaves -/

/-- Port p without its card: its record, grade, counts, reader, scan and marks are cleared, its link is reset if a
transaction was in flight. -/
def CardPort.removed (p : CardPort) : CardPort :=
  { p with
    state := .empty, highRun := 0, lowRun := 0, attempts := 0, capacity := 0, serial := zeroSerial, grade := 0
    attemptsAtGrade := 0, reader := none, cleared := false, residue := false, unclean := false
    scan := { p.scan with phase := .none, slab := none }
    link := if p.link.flight = none then p.link else { p.link with cond := .resetting } }

/-- The port as it empties, before what it holds is given up. -/
def CardPort.emptied (p : CardPort) : CardPort :=
  { p with
    state := .empty, highRun := 0, lowRun := 0, attempts := 0, capacity := 0, serial := zeroSerial, grade := 0
    attemptsAtGrade := 0, link := if p.link.flight = none then p.link else { p.link with cond := .resetting } }

/-- Everything of a removal but what the job unit lets follow: the port is empty and has given up what it held. -/
def Ctl.cardEmptied (c : Ctl) (n : CardNo) : Ctl :=
  ((((((c.setWait n none).modCard n CardPort.emptied).dropReader n).dropScanSlab n).setMarks n false false
    false).notifyPort (.card n)).lampUpdate n

/-- The removal with the job told and the scan broken off. -/
def Ctl.cardLeft (c : Ctl) (n : CardNo) : Ctl :=
  let t := (c.cardEmptied n).cardGone n
  if (t.card n).scan.phase = .none then t else t.scanBreak n .cardGone

section
variable {c : Ctl} {n : CardNo}

theorem Ctl.modCard_congr {f g : CardPort → CardPort} (h : f (c.card n) = g (c.card n)) : c.modCard n f = c.modCard n g := by
  rw [Ctl.modCard, h, Ctl.modCard]

theorem Ctl.cardRemoved_eq (c : Ctl) (n : CardNo) : c.cardRemoved n = (c.cardLeft n).settle n := by
  have port : (if (c.card n).link.flight.isSome then
      (c.setWait n none).modCard n fun p => { p with link := p.link.assertReset } else c.setWait n none).modCard n (fun p =>
        { p with
          state := .empty, highRun := 0, lowRun := 0, attempts := 0, capacity := 0, serial := zeroSerial, grade := 0
          attemptsAtGrade := 0 }) = (c.setWait n none).modCard n CardPort.emptied := by
    split
    · next flying =>
      rw [Ctl.modCard_modCard]
      refine Ctl.modCard_congr ?_
      have flight : ((c.setWait n none).card n).link.flight ≠ none := Option.isSome_iff_ne_none.1 flying
      rw [CardPort.emptied, if_neg flight]
      rfl
    · next still =>
      refine Ctl.modCard_congr ?_
      have flight : ((c.setWait n none).card n).link.flight = none := by simpa using still
      rw [CardPort.emptied, if_pos flight]
  unfold Ctl.cardRemoved Ctl.cardLeft Ctl.cardEmptied
  dsimp only
  rw [port]

theorem CardPort.SameButLamp.eq {p q : CardPort} (h : p.SameButLamp q) : ∃ i l, q = { p with pattern := i, lit := l } :=
  ⟨_, _, h⟩

/-- Changes before and after one of a lamp. -/
theorem CardPort.SameButLamp.map {p q : CardPort} (h : p.SameButLamp q) {g : CardPort → CardPort}
    (hg : ∀ i j, g { p with pattern := i, lit := j } = { g p with pattern := i, lit := j }) : (g p).SameButLamp (g q) := by
  unfold CardPort.SameButLamp at h ⊢
  have kept := hg q.pattern q.lit
  rw [← h] at kept
  rw [kept]

theorem Ctl.cardEmptied_port (c : Ctl) (n : CardNo) :
    { (c.card n).removed with scan := { (c.card n).scan with slab := none } }.SameButLamp ((c.cardEmptied n).card n)
      ∧ (c.cardEmptied n).waits n = none := by
  let k := (c.setWait n none).modCard n CardPort.emptied
  have port : k.card n = (c.card n).emptied := Ctl.modCard_card ..
  have waits : k.waits n = none := Ctl.setWait_waits ..
  obtain ⟨read, waits⟩ := Ctl.dropReader_port waits
  obtain ⟨scanned, waits⟩ := Ctl.dropScanSlab_port waits
  obtain ⟨marked, waits⟩ := Ctl.setMarks_port waits false false false
  have last : Ctl.Attends n False (((k.dropReader n).dropScanSlab n).setMarks n false false false) (c.cardEmptied n) :=
    (Ctl.Attends.refl _).notifyPort.lampUpdate
  obtain ⟨waits, lit⟩ := last.idle id waits
  refine ⟨?_, waits⟩
  rw [port] at read
  have read := read.map (g := fun p => { p with scan := { p.scan with slab := none } }) fun _ _ => rfl
  have scanned := (read.trans scanned).map
    (g := fun p => { p with cleared := false, residue := false, unclean := false }) fun _ _ => rfl
  exact (scanned.trans marked).trans lit

/-- A removal gives up slabs and marks; jobs, files, drives and settings stay. -/
theorem Ctl.cardEmptied_same (c : Ctl) (n : CardNo) :
    (c.cardEmptied n).jobs = c.jobs ∧ (c.cardEmptied n).files = c.files ∧ (c.cardEmptied n).drives = c.drives
      ∧ (c.cardEmptied n).notices = c.notices := by
  have reader (k : Ctl) : (k.dropReader n).jobs = k.jobs ∧ (k.dropReader n).files = k.files
      ∧ (k.dropReader n).drives = k.drives ∧ (k.dropReader n).notices = k.notices := by
    unfold Ctl.dropReader
    split <;> simp
  have scan (k : Ctl) : (k.dropScanSlab n).jobs = k.jobs ∧ (k.dropScanSlab n).files = k.files
      ∧ (k.dropScanSlab n).drives = k.drives ∧ (k.dropScanSlab n).notices = k.notices := by
    unfold Ctl.dropScanSlab
    split <;> simp
  simp [Ctl.cardEmptied, reader, scan]

/-- The job record once its card has gone (R11). -/
def Job.cardTaken (j : Job) : Job :=
  if j.isActive then ({ j with holds := j.holds.setCard (some .pending) } : Job).holdIfRunning else j

theorem Ctl.cardGone_jobs (c : Ctl) (n : CardNo) : (c.cardGone n).jobs = (c.modJob n Job.cardTaken).jobs := by
  unfold Ctl.cardGone
  split
  · next active => simp [Ctl.modJob, Job.cardTaken, active]
  · next idle =>
    rw [Ctl.modJob, Job.cardTaken, if_neg idle]
    exact (Vector.set_getElem_self ..).symm

theorem Ctl.cardGone_same (c : Ctl) (n : CardNo) :
    (c.cardGone n).files = c.files ∧ (c.cardGone n).drives = c.drives ∧ (c.cardGone n).notices = c.notices := by
  unfold Ctl.cardGone
  split <;> simp

/-- A scan that is broken off after its slab was given up: its record ends and SCAN_DONE reports it (R171, R172). -/
theorem Ctl.scanBreak_gone (given : (c.card n).scan.slab = none) :
    let t := c.scanBreak n .cardGone
    t.card n = { c.card n with scan := { (c.card n).scan with phase := .none, slab := none } }
      ∧ (t.waits n = c.waits n ∧ t.jobs = c.jobs ∧ t.files = c.files ∧ t.drives = c.drives) ∧ c.Quiet .none t
      ∧ (c.notices.scanDone = true → t.Tells (.scanDone n)
          (scanDonePayload n .cardGone (c.card n).scan.nextUnexamined (c.card n).scan.examined)) := by
  have dropped : c.dropScanSlab n = c := by rw [Ctl.dropScanSlab, given]
  have ends (q : Prop) [Decidable q] (l : List Byte) (g : CardPort → CardPort) (hg : ∀ p, (g p).face = p.face) :
      let t := (if q then c.pushNotice (.scanDone n) l else c).modCard n g
      t.card n = g (c.card n) ∧ (t.waits n = c.waits n ∧ t.jobs = c.jobs ∧ t.files = c.files ∧ t.drives = c.drives)
        ∧ c.Quiet .none t ∧ (q → t.Tells (.scanDone n) l) := by
    split
    · refine ⟨Ctl.modCard_card .., ⟨rfl, rfl, rfl, rfl⟩, (Ctl.Quiet.refl c).pushNotice.modCard hg, fun _ => ?_⟩
      exact coalesce_mem c.outq (.scanDone n) l
    · next off => exact ⟨Ctl.modCard_card .., ⟨rfl, rfl, rfl, rfl⟩, (Ctl.Quiet.refl c).modCard hg, fun on => (off on).elim⟩
  simp only [Ctl.scanBreak, dropped, Ctl.scanEnd]
  exact ends _ _ (fun p => { p with scan := { p.scan with phase := .none, slab := none } }) fun _ => rfl

theorem Ctl.cardLeft_cases (c : Ctl) (n : CardNo) :
    let k := (c.cardEmptied n).cardGone n
    ((k.card n).scan.phase = .none → c.cardLeft n = k)
      ∧ ((k.card n).scan.phase ≠ .none → c.cardLeft n = k.scanBreak n .cardGone) := by
  simp only [Ctl.cardLeft]
  exact ⟨fun off => if_pos off, fun on => if_neg on⟩

/-- Before the job unit goes on: the port, its lamp and its wait, the jobs, and the report of a scan. -/
theorem Ctl.cardLeft_spec (c : Ctl) (n : CardNo) :
    let t := c.cardLeft n
    (c.card n).removed.SameButLamp (t.card n) ∧ t.waits n = none ∧ t.LampRight n
      ∧ t.jobs = (c.modJob n Job.cardTaken).jobs ∧ t.files = c.files ∧ t.drives = c.drives
      ∧ ((c.card n).scan.phase ≠ .none → c.notices.scanDone = true → t.Tells (.scanDone n)
          (scanDonePayload n .cardGone (c.card n).scan.nextUnexamined (c.card n).scan.examined)) := by
  obtain ⟨jobs, files, drives, notices⟩ := c.cardEmptied_same n
  obtain ⟨files', drives', notices'⟩ := (c.cardEmptied n).cardGone_same n
  obtain ⟨port, waits⟩ := c.cardEmptied_port n
  let k := (c.cardEmptied n).cardGone n
  have gone : Ctl.Attends n False (c.cardEmptied n) k := (Ctl.Attends.refl _).cardGone
  obtain ⟨waits, port'⟩ := gone.idle id waits
  have port := port.trans port'
  have lit : (c.cardEmptied n).LampRight n := Ctl.lampUpdate_right _ n
  have right : k.LampRight n := ((Ctl.Quiet.refl (e := .none) _).cardGone).lamp n id lit
  have scan : (k.card n).scan = { (c.card n).scan with slab := none } := by rw [port]
  have jobs : k.jobs = (c.modJob n Job.cardTaken).jobs := by
    rw [Ctl.cardGone_jobs, Ctl.modJob, Ctl.job_of_jobs jobs, jobs]
    rfl
  have files := files'.trans files
  have drives := drives'.trans drives
  have notices := notices'.trans notices
  obtain ⟨idle, runs⟩ := c.cardLeft_cases n
  intro t
  by_cases off : (c.card n).scan.phase = .none
  · have same : t = k := idle (by rw [scan]; exact off)
    have shape : { (c.card n).removed with scan := { (c.card n).scan with slab := none } } = (c.card n).removed := by
      simp only [CardPort.removed, ← off]
    rw [shape] at port
    rw [same]
    exact ⟨port, waits, right, jobs, files, drives, fun on => (on off).elim⟩
  · have broken : t = k.scanBreak n .cardGone := runs (by rw [scan]; exact off)
    obtain ⟨card, ⟨waits', jobs', files', drives'⟩, quiet, tells⟩ := Ctl.scanBreak_gone (c := k) (n := n) (by rw [scan])
    rw [← broken] at card waits' jobs' files' drives' quiet tells
    rw [scan] at tells
    have ended := port.map (g := fun p => { p with scan := { p.scan with phase := .none, slab := none } }) fun _ _ => rfl
    refine ⟨?_, waits'.trans waits, quiet.lamp n id right, jobs'.trans jobs, files'.trans files, drives'.trans drives,
      fun _ on => tells (by rw [notices]; exact on)⟩
    rw [card]
    exact ended

/-! ### What the job unit lets follow -/

/-- An EMPTY port that waits for no slab keeps what the removal left of it, but the unclean-end mark where the removal ends
the job (log 35). -/
theorem Ctl.settle_removed {p : CardPort} (port : p.removed.SameButLamp (c.card n)) (idle : c.waits n = none) :
    let t := c.settle n
    t.waits n = none ∧ ∃ b, { p.removed with unclean := b }.SameButLamp (t.card n)
      ∧ ((t.job n).state ≠ .ended ∨ (c.job n).state = .ended → b = false) := by
  intro t
  have state : (c.card n).state = .empty := port.fields.2.2.2.2.1
  have asks : ¬c.sourceRequest n = true := by simp [Ctl.sourceRequest, state]
  obtain ⟨k, attends, ends⟩ := c.settle_attends n
  obtain ⟨waits, kept⟩ := attends.idle asks idle
  by_cases ended : (c.job n).state = .ended
  · have same : t = c.dropStaleWait n := Ctl.settle_still (by simp [ended])
    have start : Ctl.Attends n False c t := same ▸ (Ctl.Attends.refl c).dropStaleWait
    obtain ⟨waits, kept⟩ := start.idle id idle
    exact ⟨waits, false, port.trans kept, fun _ => rfl⟩
  obtain same | ⟨r, same⟩ := ends
  · have same : t = k := same
    exact ⟨same ▸ waits, false, same ▸ port.trans kept, fun _ => rfl⟩
  · have same : t = k.endJob n r := same
    obtain ⟨b, ready, assessed⟩ := k.endJob_card n r
    have unmet : b = false := by
      by_contra met
      have state' : (k.card n).state = .empty := kept.fields.2.2.2.2.1.trans state
      rw [ready (by simpa using met)] at state'
      cases state'
    subst unmet
    rw [same]
    refine ⟨(k.endJob_waits n r).1.elim (·.trans waits) id, true, ?_, fun h => ?_⟩
    · exact ((port.trans kept).map (g := fun p => { p with cleared := false, unclean := true }) fun _ _ => rfl).trans assessed
    · rw [Ctl.endJob_job] at h
      exact (h.elim (· rfl) ended).elim

theorem Job.cardTaken_idle {j : Job} (h : j.state = .free ∨ j.state = .ended) : j.cardTaken = j := by
  refine if_neg fun active => ?_
  obtain ⟨bound, going⟩ := (Job.isActive_iff _).1 active
  exact h.elim bound going

/-- An active job whose card has gone holds for it, and runs no more (R11). -/
theorem Job.cardTaken_active {j : Job} (bound : j.state ≠ .free) (going : j.state ≠ .ended) :
    j.cardTaken.holds.cardGone = some .pending ∧ j.cardTaken.state ≠ .running := by
  rw [Job.cardTaken, if_pos ((Job.isActive_iff _).2 ⟨bound, going⟩), Job.holdIfRunning]
  split
  · exact ⟨rfl, JobState.noConfusion⟩
  · next still => exact ⟨rfl, still⟩

/-- A SCAN_DONE waits on while jobs settle. -/
theorem Ctl.settle_scans {l : List Byte} (h : c.Tells (.scanDone n) l) : (c.settle n).Tells (.scanDone n) l := by
  obtain ⟨e, mem, kind, payload⟩ := h
  obtain ⟨k, attends, same | ⟨r, same⟩⟩ := c.settle_attends n
  · exact ⟨e, same ▸ attends.scans e mem kind, kind, payload⟩
  · exact ⟨e, same ▸ (k.endJob_waits n r).2 e (attends.scans e mem kind) kind, kind, payload⟩

theorem Scan.nextUnexamined_eq (q : Scan) (k : Nat) :
    ({ q with examined := q.examined + k } : Scan).nextUnexamined = q.nextAfter (q.examined + k) := by
  unfold Scan.nextUnexamined Scan.nextAfter
  cases h : q.direction <;> simp

/-- The low sample that removes the card: the sample is counted, with what the blank checker had examined by then. -/
theorem Ctl.cardLow_removes (m : List Host.Cell) (due : c.removalDue n = true) :
    ∃ (k : Nat) (u : Ctl), (c.card n).scan.MayHaveExamined m k ∧ c.cardLow m n = (u.cardLeft n).settle n
      ∧ (u.card n).removed = { (c.card n).removed with
          scan := { (c.card n).removed.scan with examined := (c.card n).scan.examined + k } }
      ∧ (u.card n).scan = { (c.card n).scan with examined := (c.card n).scan.examined + k }
      ∧ u.jobs = c.jobs ∧ u.files = c.files ∧ u.drives = c.drives ∧ u.notices = c.notices := by
  obtain ⟨k, may, ps, i, e, card⟩ := c.examinePart_eq m n
  let u := (c.examinePart m n).modCard n fun p =>
    { p with lowRun := min (c.examinePart m n).debounce (p.lowRun + 1), highRun := 0 }
  have port : u.card n = { c.card n with
      scan := { (c.card n).scan with examined := (c.card n).scan.examined + k }
      lowRun := min (c.examinePart m n).debounce ((c.card n).lowRun + 1), highRun := 0 } := by
    simp only [u, Ctl.modCard_card, card]
  have still : (c.examinePart m n).removalDue n = true := by
    have debounce : (c.examinePart m n).debounce = c.debounce := by rw [e]
    simpa only [Ctl.removalDue, card, debounce] using due
  refine ⟨k, u, may, ?_, ?_, by rw [port], ?_⟩
  · rw [Ctl.cardLow, if_pos due, Ctl.cardSample_low, if_pos still, Ctl.cardRemoved_eq]
  · rw [port]
    rfl
  · simp only [u, Ctl.modCard_jobs, Ctl.modCard_files, Ctl.modCard_drives, Ctl.modCard_notices, e, and_self]

/-- What a host sees of a port whose card is gone, whatever its mark and its lamp show. -/
theorem CardPort.removed_fields {p q : CardPort} {b : Bool} {i : Scan} (kept :
    { ({ p.removed with scan := i } : CardPort) with unclean := b }.SameButLamp q) :
    (q.state = .empty ∧ q.highRun = 0 ∧ q.lowRun = 0 ∧ q.attempts = 0 ∧ q.capacity = 0 ∧ q.serial = zeroSerial
      ∧ q.grade = 0 ∧ q.attemptsAtGrade = 0 ∧ q.reader = none ∧ q.cleared = false ∧ q.residue = false)
      ∧ q.unclean = b ∧ q.scan = i
      ∧ q.link = (if p.link.flight = none then p.link else { p.link with cond := .resetting }) := by
  obtain ⟨pattern, l, rfl⟩ := kept.eq
  exact ⟨⟨rfl, rfl, rfl, rfl, rfl, rfl, rfl, rfl, rfl, rfl, rfl⟩, rfl, rfl, rfl⟩

end

/-- Settles O49: the port as it empties, kept by what the job unit lets follow. -/
theorem cardRemovalEmptiesThePort : Obligations.CardRemovalEmptiesThePort := by
  intro s n runs p j
  have run : exec (.cardRemoval n) s =
      .next { s with ctl := if s.ctl.removalDue n then s.ctl.cardLow s.dram n else s.ctl } :=
    congrArg Host.Outcome.next (s.runCtl_of_running _ runs)
  have due_iff : s.ctl.removalDue n = true ↔ p.state ≠ .empty ∧ s.ctl.debounce ≤ p.lowRun + 1 := by
    simp [Ctl.removalDue, p]
  refine ⟨fun short => ?_, fun held full => ?_⟩
  · rw [run, if_neg]
    rw [due_iff]
    rintro ⟨held, full⟩
    exact short.elim held fun short => by omega
  have due := due_iff.2 ⟨held, full⟩
  rw [if_pos due] at run
  obtain ⟨k, u, may, low, removed, scan, jobs, files, drives, notices⟩ := Ctl.cardLow_removes s.dram due
  obtain ⟨port, idle, right, jobs', files', drives', tells⟩ := u.cardLeft_spec n
  rw [low] at run
  have job : (u.cardLeft n).job n = j.cardTaken := by
    rw [Ctl.job_of_jobs jobs', Ctl.modJob_job, Ctl.job_of_jobs jobs]
  obtain ⟨waits, b, kept, marked⟩ := Ctl.settle_removed port idle
  obtain ⟨settled, others, -⟩ := (u.cardLeft n).settle_job n
  have lit := ((u.cardLeft n).settle_settled n n).lamp right
  rw [job] at settled marked
  obtain ⟨-, -, now⟩ := settled.fields
  have still (h : j.state = .free ∨ j.state = .ended) : ((u.cardLeft n).settle n).job n = j := by
    rw [Ctl.settle_still, Ctl.dropStaleWait_job, job, Job.cardTaken_idle h]
    rw [job, Job.cardTaken_idle h]
    simp [h]
  have scans : p.scan.phase ≠ .none → s.ctl.notices.scanDone = true → ((u.cardLeft n).settle n).Tells (.scanDone n)
      (scanDonePayload n .cardGone (p.scan.nextAfter (p.scan.examined + k)) (p.scan.examined + k)) := by
    intro on enabled
    have told := Ctl.settle_scans (tells (by rw [scan]; exact on) (by rw [notices]; exact enabled))
    rw [scan, Scan.nextUnexamined_eq] at told
    exact told
  have drives := (Ctl.settle_drives _ n).trans (drives'.trans drives)
  have others (m : CardNo) (other : m ≠ n) :
      ((u.cardLeft n).settle n).job m = s.ctl.job m ∧ ((u.cardLeft n).settle n).queue m = s.ctl.queue m := by
    obtain ⟨job', queue⟩ := others m other
    rw [job', Ctl.job_of_jobs jobs', Ctl.modJob_job_ne _ _ other, Ctl.job_of_jobs jobs]
    rw [queue, Ctl.queue_of_files files', Ctl.queue_of_files files]
    exact ⟨rfl, rfl⟩
  generalize (u.cardLeft n).settle n = t at run waits kept marked lit settled now still scans drives others
  refine ⟨_, k, run, rfl, may, ?_, waits, still, fun bound going => ?_, scans, drives, others⟩
  · rw [removed] at kept
    obtain ⟨⟨empty, high, low, attempts, capacity, serial, grade, tries, reader, cleared, residue⟩, mark, scan, link⟩ :=
      CardPort.removed_fields kept
    refine ⟨empty, high, low, attempts, capacity, serial, grade, tries, reader, cleared, residue, fun h => ?_, fun auto => ?_,
      congrArg Scan.phase scan, congrArg Scan.slab scan, link⟩
    · refine mark.trans (marked ?_)
      obtain same | going := h
      · by_contra! ends
        obtain ⟨ended, left⟩ := ends
        have was : j.state = .ended := same ▸ ended
        exact left (by rw [Job.cardTaken_idle (.inr was)]; exact was)
      · exact .inl going
    · exact (lit auto).trans (if_pos (.inl empty))
  · obtain ⟨pending, halted⟩ := Job.cardTaken_active bound going
    obtain ended | ⟨holds, state | ⟨-, state⟩⟩ := now
    · exact ⟨.inl ended, by rw [ended]; exact JobState.noConfusion⟩
    · exact ⟨.inr (by rw [holds]; exact pending), by rw [state]; exact halted⟩
    · exact ⟨.inr (by rw [holds]; exact pending), by rw [state]; exact JobState.noConfusion⟩
end Sys2Proof.Machine

namespace Sys2Proof.Machine

/-! ## Spans and the slabs they take (R65, R66, R72 to R74, R122, R124, R125)

### The READ at a block of a file -/

/-- File block i stands in the extent that the blocks before it lead up to. -/
theorem mapBlock_append (pre post : List Extent) {e : Extent} {k : Nat} (within : k < e.count) :
    mapBlock (pre ++ e :: post) ((pre.map (·.count)).sum + k) = some (e.start + k, e.count - k) := by
  induction pre with
  | nil => simp [mapBlock, within]
  | cons p pre ih =>
    have past : ¬p.count + (pre.map (·.count)).sum + k < p.count := by omega
    have rest : p.count + (pre.map (·.count)).sum + k - p.count = (pre.map (·.count)).sum + k := by omega
    rw [List.map_cons, List.sum_cons, List.cons_append, mapBlock, if_neg past, rest, ih]

theorem txnAt_append (pre post : List Extent) {e : Extent} {k : Nat} (within : k < e.count) (stop : Nat) :
    txnAt (pre ++ e :: post) ((pre.map (·.count)).sum + k) stop =
      some (e.start + k, min 128 (min (stop - ((pre.map (·.count)).sum + k)) (e.count - k))) := by
  rw [txnAt, mapBlock_append pre post within]
  rfl

theorem endBlock_sub (offset len : Nat) : endBlock offset len - firstBlock offset = (len + 511) / 512 :=
  Nat.add_sub_cancel_left ..

section
variable {c : Ctl} {n m : CardNo} {x y : SlabNo} {f g : FileRec} {r : Reader}

/-- A READ of the reader's span changes the link of its port, and sets the attempts there to 0, alone. -/
theorem Ctl.issueSpanRead_modCard (c : Ctl) (n : CardNo) :
    ∃ a l, c.issueSpanRead n = c.modCard n (fun p => { p with attemptsAtGrade := a, link := l })
      ∧ (a = 0 ∨ a = (c.card n).attemptsAtGrade) := by
  have same : c = c.modCard n fun p => { p with attemptsAtGrade := (c.card n).attemptsAtGrade, link := (c.card n).link } :=
    congrArg (fun ps => { c with cards := ps }) (Vector.set_getElem_self ..).symm
  unfold Ctl.issueSpanRead
  split
  · exact ⟨_, _, same, .inr rfl⟩
  · simp only
    split
    · exact ⟨_, _, same, .inr rfl⟩
    · split
      · exact ⟨_, _, same, .inr rfl⟩
      · rw [Ctl.cardRead, Ctl.modCard_modCard]
        exact ⟨_, _, rfl, .inl rfl⟩

/-- The READ at the reader's next block: the device block that the file's extents give it, within span and extent. -/
theorem Ctl.issueSpanRead_sends {pre post : List Extent} {e : Extent} {k : Nat} (reader : (c.card n).reader = some r)
    (file : (c.slab r.slab).file.bind c.file? = some f) (idle : (c.card n).link.cond = .idle)
    (source : f.source = pre ++ e :: post) (block : (pre.map (·.count)).sum + k = r.next) (within : k < e.count) :
    ((c.issueSpanRead n).card n).link = (c.card n).link.sent .read (e.start + k)
      (min 128 (min (endBlock (c.slab r.slab).offset (c.slab r.slab).len - r.next) (e.count - k))) (c.card n).grade 1000 := by
  have txn := txnAt_append pre post within (endBlock (c.slab r.slab).offset (c.slab r.slab).len)
  rw [← source, block] at txn
  rw [Ctl.issueSpanRead_of reader file txn, Ctl.cardRead, Ctl.modCard_modCard, Ctl.modCard_card]
  exact Link.issue_idle _ idle ..

/-! ### Grants (R65, R70, R74) -/

/-- From c to t slab x goes to card port n, as `slab` has it. -/
structure Ctl.GivesSlab (n : CardNo) (x : SlabNo) (slab : Slab) (c t : Ctl) : Prop where
  slabs : t.slabs = c.slabs.set x slab
  waitList : t.waitList = c.waitList.set n none
  lastGranted : t.lastGranted = n
  jobs : t.jobs = c.jobs
  files : t.files = c.files
  drives : t.drives = c.drives
  cards : ∀ m, m ≠ n → t.card m = c.card m

/-- The READING file's next span takes slab x, and the reader begins it. -/
theorem Ctl.grantSource_gives (reading : c.readingFile n = some f) (x : SlabNo) :
    c.GivesSlab n x (f.spanSlab n) (c.grantSource n x)
      ∧ ((c.grantSource n x).card n).reader = some { slab := x, next := firstBlock f.readOffset } := by
  obtain ⟨a, l, issued, -⟩ := (c.granted n x f).issueSpanRead_modCard n
  rw [Ctl.grantSource_eq reading, issued]
  refine ⟨⟨rfl, rfl, rfl, rfl, rfl, rfl, fun m other => ?_⟩, ?_⟩
  · rw [Ctl.modCard_card_ne _ _ other]
    exact Ctl.modCard_card_ne _ _ other
  · rw [Ctl.modCard_card]
    exact congrArg CardPort.reader (Ctl.modCard_card ..)

/-- The scan's chunk takes slab x. -/
theorem Ctl.grantScan_gives (c : Ctl) (n : CardNo) (x : SlabNo) :
    c.GivesSlab n x ((c.card n).chunkSlab n) (c.grantScan n x)
      ∧ ((c.grantScan n x).card n).scan = { (c.card n).scan with phase := .reading, slab := some x } := by
  rw [Ctl.grantScan, Ctl.cardRead, Ctl.modCard_modCard]
  refine ⟨⟨rfl, rfl, rfl, rfl, rfl, rfl, fun m other => ?_⟩, ?_⟩
  · exact Ctl.modCard_card_ne _ _ other
  · rw [Ctl.modCard_card]
    rfl

/-! ### The reader's request (R72, R73) -/

theorem Ctl.readingFile_append {pre post : List FileRec} (queue : c.queue n = pre ++ g :: post)
    (before : ∀ h ∈ pre, h.state ≠ .reading) (reading : g.state = .reading) : c.readingFile n = some g := by
  rw [Ctl.readingFile, queue]
  exact (find_append_cons (by simp [reading]) fun h mem => by simp [before h mem]).1

theorem Ctl.sourceRequest_iff (reading : c.readingFile n = some g) :
    c.sourceRequest n = true ↔ (c.job n).state = .running ∧ g.readOffset < g.len ∧ c.sourceCount n < (c.job n).quota
      ∧ (c.card n).state = .ready ∧ (c.card n).reader = none ∧ (c.card n).link.cond = .idle := by
  simp [Ctl.sourceRequest, reading, Link.isIdle, and_assoc]

/-- A grant sends the first READ of the file's next span (R124, R125). -/
theorem Ctl.grantSource_sends {pre post : List Extent} {e : Extent} {k : Nat} (reading : c.readingFile n = some g)
    (record : c.file? g.ref = some g) (idle : (c.card n).link.cond = .idle) (source : g.source = pre ++ e :: post)
    (block : (pre.map (·.count)).sum + k = firstBlock g.readOffset) (within : k < e.count) (x : SlabNo) :
    ((c.grantSource n x).card n).link = (c.card n).link.sent .read (e.start + k)
      (min 128 (min ((spanLen g.len g.readOffset + 511) / 512) (e.count - k))) (c.card n).grade 1000 := by
  have slab : (c.granted n x g).slab x = g.spanSlab n := by
    show (c.modSlab x fun _ => g.spanSlab n).slab x = _
    rw [Ctl.modSlab_slab]
  have card : (c.granted n x g).card n =
      { c.card n with reader := some { slab := x, next := firstBlock g.readOffset } } := Ctl.modCard_card ..
  have file : ((c.granted n x g).slab x).file.bind (c.granted n x g).file? = some g := by
    rw [slab]
    exact record
  have sent := Ctl.issueSpanRead_sends (c := c.granted n x g) (n := n) (by rw [card]) file (by rw [card]; exact idle) source
    block within
  rw [Ctl.grantSource_eq reading, sent, card, slab]
  simp only [FileRec.spanSlab, endBlock_sub]

/-! ### A slab that becomes FREE (R74) -/

/-- The waiting port next after the last granted one. -/
theorem Ctl.nextWaiting_of (waiting : (c.waits n).isSome = true)
    (before : ∀ m : CardNo, (m - c.lastGranted - 1).val < (n - c.lastGranted - 1).val → c.waits m = none) :
    c.nextWaiting = some n := by
  have turn : c.lastGranted + 1 + (n - c.lastGranted - 1) = n := by abel
  rw [Ctl.nextWaiting, List.find?_eq_some_iff_getElem]
  refine ⟨waiting, (n - c.lastGranted - 1).val, by simp, by simp [turn], fun j earlier => ?_⟩
  have here := before (c.lastGranted + 1 + ⟨j, by omega⟩) (by
    have : c.lastGranted + 1 + ⟨j, by omega⟩ - c.lastGranted - 1 = (⟨j, by omega⟩ : CardNo) := by abel
    rw [this]
    exact earlier)
  simp [here]

theorem Ctl.freePoolSlab_idle (none' : ∀ n, c.waits n = none) (x : SlabNo) :
    c.freePoolSlab x = { c with slabs := c.slabs.set x Slab.freeValues } := by
  have next : (c.modSlab x fun _ => Slab.freeValues).nextWaiting = none := by
    rw [Ctl.nextWaiting, List.find?_eq_none]
    intro n _
    have := none' n
    simpa using this
  rw [Ctl.freePoolSlab, Ctl.offer, Ctl.offerRun, next]
  rfl

/-- The FREE slab goes to the port whose turn it is, if its request stands. -/
theorem Ctl.freePoolSlab_grants {u : SlabUse} (waits : c.waits n = some u)
    (before : ∀ m : CardNo, (m - c.lastGranted - 1).val < (n - c.lastGranted - 1).val → c.waits m = none)
    (stands : (c.modSlab x fun _ => Slab.freeValues).stillStands n u = true) :
    c.freePoolSlab x = (c.modSlab x fun _ => Slab.freeValues).grant n u x := by
  have next : (c.modSlab x fun _ => Slab.freeValues).nextWaiting = some n :=
    Ctl.nextWaiting_of (c := c.modSlab x fun _ => Slab.freeValues) (by simp [waits]) before
  have waits' : (c.modSlab x fun _ => Slab.freeValues).waits n = some u := waits
  rw [Ctl.freePoolSlab, Ctl.offer, Ctl.offerRun, next]
  simp only [waits', stands, if_true]

/-- The slab given is the one that was freed. -/
theorem Ctl.GivesSlab.of_freed {slab : Slab} {t : Ctl}
    (given : (c.modSlab x fun _ => Slab.freeValues).GivesSlab n x slab t) : c.GivesSlab n x slab t :=
  { given with slabs := given.slabs.trans (Vector.set_set ..) }

theorem Ctl.sourceCount_freed (c : Ctl) (n : CardNo) (x : SlabNo) :
    (c.modSlab x fun _ => Slab.freeValues).sourceCount n ≤ c.sourceCount n := by
  refine Ctl.sourceCount_le fun y source => ?_
  by_cases here : y = x
  · rw [here, Ctl.modSlab_slab] at source
    simp [Slab.isSourceOf, Slab.freeValues] at source
  · rwa [Ctl.modSlab_slab_ne _ _ here] at source

/-! ### A slab that becomes FILLED (R64, R66, R88) -/

/-- Slab x stamped and in the digest FIFO, before its write entries are placed. -/
def Ctl.stamped (c : Ctl) (n : CardNo) (x : SlabNo) (f : FileRec) : Ctl :=
  ({ (c.modSlab x fun s => { s with state := .filled, fillSeq := c.fillSeq, pendingWrites := pendingSet (c.job n) f }) with
    fillSeq := (c.fillSeq + 1) % 2 ^ 32 } : Ctl).fifoPush x

theorem Ctl.fillSlab_eq (c : Ctl) (n : CardNo) (x : SlabNo) (f : FileRec) :
    c.fillSlab n x f = eachDrive (Ctl.placeEntry n x) (c.stamped n x f) := rfl

/-- Write entries change the queues of drive ports alone. -/
theorem Ctl.placeEntries_eq (c : Ctl) (n : CardNo) (x : SlabNo) :
    ∃ ds, eachDrive (Ctl.placeEntry n x) c = { c with drives := ds } := by
  have one (ds : Vector DrivePort 4) (d : DriveNo) :
      ∃ ds', Ctl.placeEntry n x { c with drives := ds } d = { c with drives := ds' } := by
    unfold Ctl.placeEntry
    split
    · exact ⟨_, rfl⟩
    · exact ⟨ds, rfl⟩
  unfold eachDrive
  obtain ⟨ds0, e0⟩ := one c.drives 0
  obtain ⟨ds1, e1⟩ := one ds0 1
  obtain ⟨ds2, e2⟩ := one ds1 2
  obtain ⟨ds3, e3⟩ := one ds2 3
  exact ⟨ds3, by rw [e0, e1, e2, e3]⟩

theorem Ctl.placeEntry_other {d e : DriveNo} (other : d ≠ e) : (Ctl.placeEntry n x c e).drive d = c.drive d := by
  unfold Ctl.placeEntry
  split
  · exact Ctl.modDrive_drive_ne _ _ other
  · rfl

/-- Each drive port that owes the slab takes an entry at its tail, but for DEST_GONE pending (R66). -/
theorem Ctl.placeEntries_queue (c : Ctl) (n : CardNo) (x : SlabNo) (d : DriveNo) :
    ((eachDrive (Ctl.placeEntry n x) c).drive d).writeQueue = (c.drive d).writeQueue ++
      if (c.slab x).pendingWrites[d] = true ∧ (c.job n).holds.destGone[d] ≠ some .pending then [x] else [] := by
  have kept (t : Ctl) (e : DriveNo) : (Ctl.placeEntry n x t e).slabs = t.slabs ∧ (Ctl.placeEntry n x t e).jobs = t.jobs := by
    unfold Ctl.placeEntry
    split <;> exact ⟨rfl, rfl⟩
  refine (eachDrive_each
    (A := fun t d => t.slabs = c.slabs ∧ t.jobs = c.jobs ∧ t.drive d = c.drive d)
    (B := fun t d => (t.drive d).writeQueue = (c.drive d).writeQueue ++
      if (c.slab x).pendingWrites[d] = true ∧ (c.job n).holds.destGone[d] ≠ some .pending then [x] else [])
    (fun _ => ⟨rfl, rfl, rfl⟩) (fun t d ⟨slabs, jobs, drive⟩ => ?_)
    (fun t d e other ⟨slabs, jobs, drive⟩ => ?_) (fun t d e other placed => ?_) d)
  · rw [Ctl.placeEntry, Ctl.slab_of_slabs slabs, Ctl.job_of_jobs jobs]
    split
    · next owed =>
      rw [Ctl.modDrive_drive, drive, if_pos (by simpa using owed)]
    · next paid =>
      rw [drive, if_neg (by simpa using paid), List.append_nil]
  · exact ⟨(kept t e).1.trans slabs, (kept t e).2.trans jobs, (Ctl.placeEntry_other other).trans drive⟩
  · rw [Ctl.placeEntry_other other, placed]

/-- The LIVE destinations on which the file is PENDING (R66). -/
theorem pendingSet_getElem (j : Job) (f : FileRec) (d : DriveNo) :
    (pendingSet j f)[d] = ((j.dests.any fun e => e.port == d && e.live)
      && (f.dests.find? fun e => e.port == d).any fun e => e.result == .pending) := by
  simp only [pendingSet, Fin.getElem_fin, Vector.getElem_ofFn, Job.isLive, FileRec.resultOn, FileRec.dest?]
  congr 1
  cases f.dests.find? fun e => e.port == d <;> simp

end

end Sys2Proof.Machine

namespace Sys2Proof.Machine

/-! ### A FILLED slab while other work goes on

What follows from a span that has been read may grant and release other slabs, retire other files and take up work on
drives. The slab, its file and what was counted of it stay. -/

theorem Ctl.endCondition_of_mem {c : Ctl} {n : CardNo} {g : FileRec} (mem : g ∈ c.files) (job : g.ref.job = n) :
    c.endCondition n = false := by
  have queued : g ∈ c.queue n := List.mem_filter.2 ⟨mem, by simp [job]⟩
  rw [Bool.eq_false_iff]
  intro ends
  obtain ⟨-, -, empty, -⟩ := (c.endCondition_iff n).1 ends
  rw [empty] at queued
  cases queued

/-- From c to t slab x stays FILLED of file g, which stays as it is; nothing is stamped or folded meanwhile, job n counts no
bytes and its port reads into another slab. -/
structure Ctl.KeepsSpan (x : SlabNo) (g : FileRec) (n : CardNo) (c t : Ctl) : Prop where
  filled : (t.slab x).state = .filled
  owner : (t.slab x).file = some g.ref
  slab : (c.slab x).KeptBut (t.slab x)
  mem : g ∈ t.files
  only : ∀ f ∈ t.files, f.ref = g.ref → f = g
  digest : t.digest = c.digest
  fillSeq : t.fillSeq = c.fillSeq
  bytesRead : (t.job n).bytesRead = (c.job n).bytesRead
  going : (t.job n).state ≠ .stopping
  reader : ∀ r, (t.card n).reader = some r → r.slab ≠ x

namespace Ctl.KeepsSpan

section
variable {a c t u : Ctl} {n m : CardNo} {d : DriveNo} {x y : SlabNo} {g f : FileRec} {r : FileRef}

theorem ite {k : Prop} [Decidable k] (ht : k → KeepsSpan x g n a t) (hu : ¬k → KeepsSpan x g n a u) :
    KeepsSpan x g n a (if k then t else u) := by
  split
  · next h => exact ht h
  · next h => exact hu h

theorem eachDrive {k : Ctl → DriveNo → Ctl} (hk : ∀ c d, KeepsSpan x g n a c → KeepsSpan x g n a (k c d))
    (h : KeepsSpan x g n a c) : KeepsSpan x g n a (Machine.eachDrive k c) := hk _ _ (hk _ _ (hk _ _ (hk _ _ h)))

/-! #### Single updates -/

/-- The file table and the digest unit stay, the slab at most joins a write, and job and port stay as far as they matter. -/
theorem rest (h : KeepsSpan x g n a c) (files : t.files = c.files) (digest : t.digest = c.digest)
    (fillSeq : t.fillSeq = c.fillSeq) (slab : (c.slab x).KeptBut (t.slab x))
    (bytesRead : (t.job n).bytesRead = (c.job n).bytesRead) (going : (t.job n).state ≠ .stopping)
    (reader : ∀ r, (t.card n).reader = some r → r.slab ≠ x) : KeepsSpan x g n a t := by
  obtain ⟨-, state, -, file, -⟩ := slab.fields
  exact ⟨state.trans h.filled, file.trans h.owner, h.slab.trans slab, files ▸ h.mem, files ▸ h.only, digest.trans h.digest,
    fillSeq.trans h.fillSeq, bytesRead.trans h.bytesRead, going, reader⟩

theorem same (h : KeepsSpan x g n a c) (files : t.files = c.files) (digest : t.digest = c.digest)
    (fillSeq : t.fillSeq = c.fillSeq) (slab : (c.slab x).KeptBut (t.slab x)) (jobs : t.jobs = c.jobs)
    (cards : t.cards = c.cards) : KeepsSpan x g n a t :=
  h.rest files digest fillSeq slab (by rw [Ctl.job_of_jobs jobs]) (by rw [Ctl.job_of_jobs jobs]; exact h.going)
    (by rw [Ctl.card_of_cards cards]; exact h.reader)

theorem setWait {w : Option SlabUse} (h : KeepsSpan x g n a c) : KeepsSpan x g n a (c.setWait m w) :=
  h.same rfl rfl rfl (.refl _) rfl rfl

theorem pushEntry {e : OutEntry} (h : KeepsSpan x g n a c) : KeepsSpan x g n a (c.pushEntry e) :=
  h.same rfl rfl rfl (.refl _) rfl rfl

theorem modDrive {k : DrivePort → DrivePort} (h : KeepsSpan x g n a c) : KeepsSpan x g n a (c.modDrive d k) :=
  h.same rfl rfl rfl (.refl _) rfl rfl

theorem modSlab {k : Slab → Slab} (h : KeepsSpan x g n a c) (other : y ≠ x) : KeepsSpan x g n a (c.modSlab y k) := by
  refine h.same rfl rfl rfl ?_ rfl rfl
  rw [Ctl.modSlab_slab_ne c k other.symm]
  exact .refl _

theorem modJob {k : Job → Job} (h : KeepsSpan x g n a c) (bytesRead : ∀ j, (k j).bytesRead = j.bytesRead)
    (state : ∀ j, j.state ≠ .stopping → (k j).state ≠ .stopping) : KeepsSpan x g n a (c.modJob m k) := by
  refine h.rest rfl rfl rfl (.refl _) ?_ ?_ h.reader
  · rw [Ctl.modJob_job_ite]
    split
    · next here => rw [bytesRead, here]
    · rfl
  · rw [Ctl.modJob_job_ite]
    split
    · next here => exact state _ (here ▸ h.going)
    · exact h.going

/-- A record of another name changes. -/
theorem modFile {k : FileRec → FileRec} (h : KeepsSpan x g n a c) (ref : ∀ f, (k f).ref = f.ref) (other : r ≠ g.ref) :
    KeepsSpan x g n a (c.modFile r k) where
  __ := h
  mem := List.mem_map.2 ⟨g, h.mem, if_neg other.symm⟩
  only f mem named := by
    obtain ⟨f', mem', rfl⟩ := List.mem_map.1 mem
    split at named
    · next here =>
      rw [ref] at named
      exact (other (here.symm.trans named)).elim
    · next there =>
      rw [if_neg there]
      exact h.only f' mem' named

/-! #### Slabs -/

/-- A grant of another slab. -/
theorem grant {k : SlabUse} (h : KeepsSpan x g n a c) (other : y ≠ x) : KeepsSpan x g n a (c.grant m k y) := by
  by_cases reading : k = .source → (c.readingFile m).isSome = true
  · have given := Ctl.grant_grantedTo (x := y) reading
    refine h.rest (by simp) (by simp) (by simp) (by rw [given.others x other.symm]; exact .refl _) ?_ ?_ fun r reader => ?_
    · rw [Ctl.job_of_jobs given.jobs]
    · rw [Ctl.job_of_jobs given.jobs]
      exact h.going
    · obtain rfl | ⟨r', reader', same⟩ := given.reader n r reader
      · exact other
      · exact same ▸ h.reader r' reader'
  · push Not at reading
    obtain ⟨rfl, none'⟩ := reading
    have gone : c.grant m .source y = c.setWait m none := by
      simp only [Ctl.grant, Ctl.grantSource, Option.not_isSome_iff_eq_none.1 none']
    rw [gone]
    exact h.setWait

theorem offer (h : KeepsSpan x g n a c) (other : y ≠ x) : KeepsSpan x g n a (c.offer y) := by
  obtain ⟨w, ⟨m, k, -, -, -, e⟩ | e⟩ := Ctl.offerRun_cases 8 c y <;> rw [Ctl.offer, e]
  · exact grant (h.same (t := { c with waitList := w }) rfl rfl rfl (.refl _) rfl rfl) other
  · exact h.same rfl rfl rfl (.refl _) rfl rfl

theorem testRelease (h : KeepsSpan x g n a c) (other : y ≠ x) : KeepsSpan x g n a (c.testRelease y) := by
  obtain ⟨m, -, -, e⟩ | e := c.testRelease_cases y <;> rw [e]
  · have counted : KeepsSpan x g n a ((c.modSlab y fun _ => Slab.freeValues).modJob m
        fun j => { j with released := (j.released + 1) % 2 ^ 32 }) :=
      (h.modSlab other).modJob (fun _ => by rfl) fun _ still => still
    obtain ⟨q, told⟩ := Ctl.notifyProgress_eq (c := (c.modSlab y fun _ => Slab.freeValues).modJob m
      fun j => { j with released := (j.released + 1) % 2 ^ 32 }) m
    rw [Ctl.releaseCounted, told]
    exact offer (counted.same rfl rfl rfl (.refl _) rfl rfl) other
  · exact h

theorem purgeDest {l : List SlabNo} (h : KeepsSpan x g n a c) (others : ∀ y ∈ l, y ≠ x) :
    KeepsSpan x g n a (c.purgeDest d l) := by
  have foldl {k : Ctl → SlabNo → Ctl} (hk : ∀ c y, y ≠ x → KeepsSpan x g n a c → KeepsSpan x g n a (k c y)) :
      ∀ (l : List SlabNo) (c : Ctl), (∀ y ∈ l, y ≠ x) → KeepsSpan x g n a c → KeepsSpan x g n a (l.foldl k c) := by
    intro l
    induction l with
    | nil => exact fun _ _ h => h
    | cons y l ih =>
      intro c others h
      obtain ⟨other, others⟩ := List.forall_mem_cons.1 others
      exact ih _ others (hk c y other h)
  exact foldl (fun _ _ other h => h.testRelease other) l _ others
    (foldl (k := fun c y => c.leavePending d y) (fun _ _ other h => h.modSlab other) l _ others h)

/-! #### Drives -/

theorem pump (h : KeepsSpan x g n a c) : KeepsSpan x g n a (c.pump d) := by
  refine Ctl.pump_induction (P := fun t => KeepsSpan x g n a t) h fun b t h step => ?_
  obtain ⟨jobs, files, cards, -, digest, -, fillSeq, -⟩ := step.workOnly.same
  refine h.same files digest fillSeq ((step.slab x).resolve_right ?_) jobs cards
  rintro ⟨-, free, -⟩
  rw [h.filled] at free
  cases free

theorem pumpAll (h : KeepsSpan x g n a c) : KeepsSpan x g n a c.pumpAll := h.eachDrive fun _ _ h => h.pump

/-! #### Other files -/

/-- The write entries of another file end. -/
theorem endEntries (h : KeepsSpan x g n a c) (other : r ≠ g.ref) : KeepsSpan x g n a (Ctl.endEntries r c d) := by
  have slabs (y : SlabNo) (holds : c.holdsFile r y = true) : y ≠ x := by
    rintro rfl
    simp only [Ctl.holdsFile, Slab.isFilledOfFile, h.owner, Bool.and_eq_true, beq_iff_eq] at holds
    obtain ⟨⟨⟨-, named⟩, -⟩, -⟩ := holds
    exact other (Option.some.inj named).symm
  refine .ite (fun _ => h) fun _ => pump (purgeDest h.modDrive fun y mem => ?_)
  rw [List.mem_append, List.mem_filter, List.mem_map] at mem
  obtain ⟨-, holds⟩ | ⟨e, mem, rfl⟩ := mem
  · exact slabs y holds
  · have staged := (Option.mem_filter_iff.1 (Option.mem_toList.1 mem)).2
    exact slabs e.slab (Bool.and_eq_true_iff.1 staged).2

theorem retire {o : FileOutcome} (h : KeepsSpan x g n a c) (other : f.ref ≠ g.ref) : KeepsSpan x g n a (c.retire f o) := by
  have left : KeepsSpan x g n a
      { c with files := c.files.filter fun k => k.ref != f.ref, fileDoneTurn := f.ref.job } :=
    { h with
      mem := List.mem_filter.2 ⟨h.mem, by simpa using other.symm⟩
      only := fun k mem => h.only k (List.mem_filter.1 mem).1 }
  have told : KeepsSpan x g n a (c.retired f o) :=
    left.pushEntry.modJob (fun _ => by rfl) fun _ still => still
  rw [Ctl.retire_eq]
  exact told.eachDrive fun _ _ h => h.endEntries other

theorem retireRun (k : Nat) (h : KeepsSpan x g n a c) (incomplete : g.isComplete = false) :
    KeepsSpan x g n a (c.retireRun k m) := by
  induction k generalizing c with
  | zero => exact h
  | succ k ih =>
    simp only [Ctl.retireRun]
    split
    · exact h.same rfl rfl rfl (.refl _) rfl rfl
    · next f head =>
      split
      · next o complete =>
        refine .ite (fun _ => ih (h.retire fun named => ?_)) fun _ => h.same rfl rfl rfl (.refl _) rfl rfl
        have mem : f ∈ c.files := (List.mem_filter.1 (List.mem_of_head? head)).1
        rw [← h.only f mem named, FileRec.isComplete, complete] at incomplete
        cases incomplete
      · exact h.same rfl rfl rfl (.refl _) rfl rfl

theorem testComplete (h : KeepsSpan x g n a c) (incomplete : g.isComplete = false) (other : r ≠ g.ref) :
    KeepsSpan x g n a (c.testComplete r) := by
  unfold Ctl.testComplete
  split
  · exact h
  · exact .ite (fun _ => (h.modFile (fun _ => by rfl) other).retireRun _ incomplete) fun _ => h

/-- Other files are taken up, those of length 0 to their end. -/
theorem promoteRun (k : Nat) (h : KeepsSpan x g n a c) (incomplete : g.isComplete = false) (taken : g.state ≠ .queued) :
    KeepsSpan x g n a (c.promoteRun k m) := by
  induction k generalizing c with
  | zero => exact h
  | succ k ih =>
    simp only [Ctl.promoteRun]
    refine .ite (fun _ => ?_) fun _ => h
    split
    · exact h
    · next f found =>
      have other : f.ref ≠ g.ref := fun named => by
        have mem : f ∈ c.files := (List.mem_filter.1 (List.mem_of_find?_eq_some found)).1
        have queued : f.state = .queued := by simpa using List.find?_some found
        exact taken (h.only f mem named ▸ queued)
      refine .ite (fun _ => ih ?_) fun _ => h.modFile (fun _ => by rfl) other
      exact testComplete (modJob (h.modFile (fun _ => by rfl) other) (fun _ => by rfl) fun _ still => still) incomplete other

/-! #### The job -/

theorem dropStaleWait (h : KeepsSpan x g n a c) : KeepsSpan x g n a (c.dropStaleWait m) := .ite (fun _ => h.setWait) fun _ => h

theorem raiseSource (h : KeepsSpan x g n a c) : KeepsSpan x g n a (c.raiseSource m) := by
  refine .ite (fun _ => ?_) fun _ => h
  obtain ⟨-, e⟩ | ⟨-, y, free, e⟩ | ⟨-, -, e⟩ := c.raise_cases m .source <;> rw [e]
  · exact h
  · refine h.grant ?_
    rintro rfl
    have := (c.lowestFree_spec y free).2
    rw [h.filled] at this
    cases this
  · exact h.setWait

/-- A job with a file does not end, and one that is not STOPPING does not drain. -/
theorem settle (h : KeepsSpan x g n a c) (job : g.ref.job = n) : KeepsSpan x g n a (c.settle n) := by
  have goes := Ctl.endCondition_of_mem h.mem job
  cases hs : (c.job n).state with
  | running =>
    rw [Ctl.settle_running hs goes]
    exact h.dropStaleWait.raiseSource
  | held =>
    rw [Ctl.settle_held hs goes]
    exact h.dropStaleWait
  | suspending =>
    rw [Ctl.settle_suspending hs]
    refine .ite (fun _ => ?_) fun _ => h.dropStaleWait
    have k := h.dropStaleWait (m := n)
    refine k.rest (by simp) (by simp) (by simp) (by rw [Ctl.slab_of_slabs (Ctl.updJob_slabs ..)]; exact .refl _) ?_ ?_ ?_
    · rw [Ctl.updJob_job]
    · rw [Ctl.updJob_job]
      exact JobState.noConfusion
    · obtain ⟨-, -, -, -, -, reader⟩ := (Ctl.updJob_card (c.dropStaleWait n) n fun j => { j with state := .suspended }).fields
      rw [reader]
      exact k.reader
  | stopping => exact (h.going hs).elim
  | free | opened | suspended | faulted | ended =>
    rw [Ctl.settle_still (by simp [hs])]
    exact h.dropStaleWait

end

end Ctl.KeepsSpan

end Sys2Proof.Machine

namespace Sys2Proof.Machine

/-! ### A READ of a span that ends GOOD (R122, R125, R127) -/

section
variable {c t : Ctl} {n : CardNo} {x : SlabNo} {f : Flight} {g : FileRec} {r : Reader} {cap : Nat} {ser : Serial}

/-- The port with its READ ended GOOD, and its reader at the next block. -/
def Ctl.readOn (c : Ctl) (n : CardNo) (r : Reader) : Ctl :=
  c.modCard n fun p => { p with link := p.link.finish, attemptsAtGrade := 0, reader := some r }

/-- What a GOOD READ of a span that may go on leads to. -/
theorem Ctl.endTxn_span (kind : f.kind = .read) (reader : (c.card n).reader = some r) (goes : (c.job n).LetsWorkGoOn)
    (file : (c.slab r.slab).file.bind c.file? = some g) (reading : g.state = .reading) :
    let k := c.readOn n { r with next := r.next + f.count }
    c.endTxn (.card n) f .good cap ser =
      (if r.next + f.count < endBlock (c.slab r.slab).offset (c.slab r.slab).len then k.issueSpanRead n
        else k.spanComplete n r.slab).settle n := by
  let u := c.setLink (.card n) (c.link (.card n)).finish
  have reader' : (u.card n).reader = some r := by
    show ((c.modCard n _).card n).reader = _
    rw [Ctl.modCard_card]
    exact reader
  have on : u.readerMayGoOn n r.slab = true := by
    show (c.readerMayGoOn n r.slab) = true
    simp [Ctl.readerMayGoOn, (Job.letsWorkGoOn_iff _).1 goes, file, reading]
  have next : (u.closeAttempts n .success).modCard n (fun p => { p with reader := some { r with next := r.next + f.count } }) =
      c.readOn n { r with next := r.next + f.count } := by
    have ended : u = c.modCard n fun p => { p with link := (c.card n).link.finish } := rfl
    rw [ended, Ctl.closeAttempts, Ctl.modCard_modCard, Ctl.modCard_modCard]
    exact Ctl.modCard_congr rfl
  show u.cardTxnEnd n f .good cap ser = _
  simp only [Ctl.cardTxnEnd, kind, reader', Ctl.readerEnd, on, if_true, TxnOutcome.sort, next]
  rfl

/-! #### With blocks left -/

/-- Of a job with a file, whose reader is busy, settling changes no slab, no file, and no more of the port than the lamp. -/
theorem Ctl.settle_busy (mem : g ∈ c.files) (job : g.ref.job = n) (going : (c.job n).state ≠ .stopping)
    (reader : (c.card n).reader ≠ none) :
    (c.settle n).files = c.files ∧ (c.settle n).slabs = c.slabs ∧ (c.card n).SameButLamp ((c.settle n).card n) := by
  have goes := Ctl.endCondition_of_mem mem job
  have dropped : (c.dropStaleWait n).files = c.files ∧ (c.dropStaleWait n).slabs = c.slabs
      ∧ (c.card n).SameButLamp ((c.dropStaleWait n).card n) :=
    ⟨by simp, by simp, by rw [Ctl.dropStaleWait_card]; rfl⟩
  cases hs : (c.job n).state with
  | running =>
    have quiet : (c.dropStaleWait n).sourceRequest n = false := by
      rw [Ctl.dropStaleWait_sourceRequest]
      simp [Ctl.sourceRequest, Option.isNone_iff_eq_none, reader]
    rw [Ctl.settle_running hs goes, Ctl.raiseSource, quiet, if_neg Bool.false_ne_true]
    exact dropped
  | held =>
    rw [Ctl.settle_held hs goes]
    exact dropped
  | suspending =>
    obtain ⟨files, slabs, port⟩ := dropped
    rw [Ctl.settle_suspending hs]
    split
    · exact ⟨(Ctl.updJob_files ..).trans files, (Ctl.updJob_slabs ..).trans slabs, port.trans (Ctl.updJob_card ..)⟩
    · exact ⟨files, slabs, port⟩
  | stopping => exact (going hs).elim
  | free | opened | suspended | faulted | ended =>
    rw [Ctl.settle_still (by simp [hs])]
    exact dropped

theorem Job.LetsWorkGoOn.not_stopping {j : Job} (goes : j.LetsWorkGoOn) : j.state ≠ .stopping := by
  intro e
  simp [Job.LetsWorkGoOn, e] at goes

/-! #### With none left -/

/-- The record after a span of so many bytes has been read. -/
def FileRec.readUpTo (g : FileRec) (len : Nat) : FileRec :=
  { g with
    readOffset := g.readOffset + len, state := if g.readOffset + len = g.len then .draining else .reading }

theorem FileRec.readUpTo_open (g : FileRec) (len : Nat) :
    (g.readUpTo len).isComplete = false ∧ (g.readUpTo len).state ≠ .queued := by
  by_cases done : g.readOffset + len = g.len <;> simp [FileRec.readUpTo, FileRec.isComplete, done]

/-- The span in slab x read and counted, before what follows of it. -/
def Ctl.spanRead (c : Ctl) (n : CardNo) (x : SlabNo) (g : FileRec) : Ctl :=
  ((((c.fillSlab n x g).modCard n fun p => { p with reader := none }).modFile g.ref fun h =>
    { h with
      readOffset := h.readOffset + (c.slab x).len
      state := if g.readOffset + (c.slab x).len == g.len then .draining else h.state })).modJob n
    fun j => { j with bytesRead := (j.bytesRead + (c.slab x).len) % 2 ^ 64 }

theorem Ctl.fillSlab_stamped (c : Ctl) (n : CardNo) (x : SlabNo) (g : FileRec) :
    ∃ ds, c.fillSlab n x g = { c.stamped n x g with drives := ds } := (c.stamped n x g).placeEntries_eq n x

/-- What the fill of a slab sets aside from slabs and drives, and what it leaves. -/
theorem Ctl.fillSlab_same (c : Ctl) (n : CardNo) (x : SlabNo) (g : FileRec) :
    let t := c.fillSlab n x g
    t.fillSeq = (c.fillSeq + 1) % 2 ^ 32 ∧ t.digest = { c.digest with fifo := c.digest.fifo ++ [x] } ∧ t.jobs = c.jobs
      ∧ t.files = c.files ∧ t.cards = c.cards ∧ t.outq = c.outq := by
  obtain ⟨ds, e⟩ := c.fillSlab_stamped n x g
  rw [e]
  exact ⟨rfl, rfl, rfl, rfl, rfl, rfl⟩

/-- Slab x at FILLED (R64, R66). -/
def Slab.filledBy (s : Slab) (c : Ctl) (n : CardNo) (g : FileRec) : Slab :=
  { s with state := .filled, fillSeq := c.fillSeq, pendingWrites := pendingSet (c.job n) g }

theorem Ctl.fillSlab_slabs (c : Ctl) (n : CardNo) (x : SlabNo) (g : FileRec) :
    (c.fillSlab n x g).slabs = (c.modSlab x fun s => s.filledBy c n g).slabs := by
  obtain ⟨ds, e⟩ := c.fillSlab_stamped n x g
  rw [e]
  rfl

theorem Ctl.fillSlab_slab (c : Ctl) (n : CardNo) (x : SlabNo) (g : FileRec) :
    (c.fillSlab n x g).slab x = (c.slab x).filledBy c n g := by
  rw [Ctl.slab_of_slabs (c.fillSlab_slabs n x g), Ctl.modSlab_slab]

/-- Each drive port in the pending-write set takes a write entry, but for DEST_GONE pending (R66). -/
theorem Ctl.fillSlab_queue (c : Ctl) (n : CardNo) (x : SlabNo) (g : FileRec) (d : DriveNo) :
    ((c.fillSlab n x g).drive d).writeQueue = (c.drive d).writeQueue ++
      if (pendingSet (c.job n) g)[d] = true ∧ (c.job n).holds.destGone[d] ≠ some .pending then [x] else [] := by
  have slabs : (c.stamped n x g).slabs = (c.modSlab x fun s => s.filledBy c n g).slabs := rfl
  have stamped : ((c.stamped n x g).slab x).pendingWrites = pendingSet (c.job n) g := by
    rw [Ctl.slab_of_slabs slabs, Ctl.modSlab_slab]
    rfl
  rw [Ctl.fillSlab_eq, Ctl.placeEntries_queue, stamped]
  rfl

theorem Ctl.spanComplete_eq (file : (c.slab x).file.bind c.file? = some g) :
    c.spanComplete n x =
      (if g.readOffset + (c.slab x).len = g.len then ((c.spanRead n x g).testComplete g.ref).promote n
        else c.spanRead n x g).pumpAll := by
  simp only [Ctl.spanComplete, file, Ctl.spanRead, beq_iff_eq]

/-- The record as the span leaves it, under names that are distinct. -/
theorem Ctl.spanRead_files (fresh : c.FileNamesFresh) (found : c.file? g.ref = some g) (reading : g.state = .reading) :
    g.readUpTo (c.slab x).len ∈ (c.spanRead n x g).files
      ∧ ∀ h ∈ (c.spanRead n x g).files, h.ref = g.ref → h = g.readUpTo (c.slab x).len := by
  obtain ⟨-, -, -, files', -⟩ := c.fillSlab_same n x g
  have files : (c.spanRead n x g).files = c.files.map fun h => if h.ref = g.ref then
      { h with
        readOffset := h.readOffset + (c.slab x).len
        state := if g.readOffset + (c.slab x).len == g.len then .draining else h.state } else h := by
    simp only [Ctl.spanRead, Ctl.modJob_files, Ctl.modFile, Ctl.modCard_files, files']
  have shape : g.readUpTo (c.slab x).len = { g with
      readOffset := g.readOffset + (c.slab x).len
      state := if g.readOffset + (c.slab x).len == g.len then .draining else g.state } := by
    simp only [FileRec.readUpTo, beq_iff_eq, reading]
  rw [files, shape]
  refine ⟨List.mem_map.2 ⟨g, List.mem_of_find?_eq_some found, if_pos rfl⟩, fun h mem named => ?_⟩
  obtain ⟨k, mem', rfl⟩ := List.mem_map.1 mem
  split at named
  · next same =>
    have one := Ctl.file_of_mem fresh.1 mem'
    rw [same, found] at one
    rw [if_pos same, ← Option.some.inj one]
  · next other => exact (other named).elim

theorem Ctl.spanRead_slab (c : Ctl) (n : CardNo) (x : SlabNo) (g : FileRec) :
    (c.spanRead n x g).slab x = (c.slab x).filledBy c n g := by
  rw [Ctl.spanRead, Ctl.modJob_slab, Ctl.modFile_slab, Ctl.modCard_slab, Ctl.fillSlab_slab]

theorem Ctl.spanRead_counts (c : Ctl) (n : CardNo) (x : SlabNo) (g : FileRec) :
    (c.spanRead n x g).fillSeq = (c.fillSeq + 1) % 2 ^ 32
      ∧ (c.spanRead n x g).digest = { c.digest with fifo := c.digest.fifo ++ [x] }
      ∧ (c.spanRead n x g).job n = { c.job n with bytesRead := ((c.job n).bytesRead + (c.slab x).len) % 2 ^ 64 } := by
  obtain ⟨fillSeq, digest, jobs, -⟩ := c.fillSlab_same n x g
  rw [Ctl.spanRead, Ctl.modJob_fillSeq, Ctl.modFile_fillSeq, Ctl.modCard_fillSeq, Ctl.modJob_digest, Ctl.modFile_digest,
    Ctl.modCard_digest, Ctl.modJob_job, Ctl.modFile_job, Ctl.modCard_job, Ctl.job_of_jobs jobs]
  exact ⟨fillSeq, digest, rfl⟩

/-- The span is read: its slab is FILLED and its file stays in the table. -/
theorem Ctl.spanRead_keeps (fresh : c.FileNamesFresh) (found : c.file? g.ref = some g) (reading : g.state = .reading)
    (owner : (c.slab x).file = some g.ref) (goes : (c.job n).LetsWorkGoOn) :
    Ctl.KeepsSpan x (g.readUpTo (c.slab x).len) n (c.spanRead n x g) (c.spanRead n x g) := by
  have slab := c.spanRead_slab n x g
  obtain ⟨-, -, job⟩ := c.spanRead_counts n x g
  have card : ((c.spanRead n x g).card n).reader = none := by
    rw [Ctl.spanRead, Ctl.modJob_card, Ctl.modFile_card, Ctl.modCard_card]
  obtain ⟨mem, only⟩ := Ctl.spanRead_files (n := n) (x := x) fresh found reading
  refine ⟨?_, ?_, .refl _, mem, only, rfl, rfl, rfl, ?_, fun r reader => ?_⟩
  · rw [slab]
    rfl
  · rw [slab]
    exact owner
  · rw [job]
    exact goes.not_stopping
  · rw [card] at reader
    cases reader

theorem Ctl.KeepsSpan.file (h : Ctl.KeepsSpan x g n c t) : t.file? g.ref = some g := by
  cases found : t.file? g.ref with
  | none =>
    have := List.find?_eq_none.1 found g h.mem
    simp at this
  | some k =>
    have named : k.ref = g.ref := by simpa using List.find?_some found
    rw [h.only k (List.mem_of_find?_eq_some found) named]

/-- A file whose source is PENDING is not COMPLETE. -/
theorem Ctl.testComplete_pending {q : FileRef} (found : c.file? q = some g) (pending : g.result = .pending) :
    c.testComplete q = c := by
  simp [Ctl.testComplete, found, FileRec.allFinal, pending]

/-- The end of a span that is read to its last block, with all that follows. -/
theorem Ctl.spanComplete_keeps (fresh : c.FileNamesFresh) (found : c.file? g.ref = some g) (reading : g.state = .reading)
    (pending : g.result = .pending) (owner : (c.slab x).file = some g.ref) (goes : (c.job n).LetsWorkGoOn)
    (job : g.ref.job = n) :
    Ctl.KeepsSpan x (g.readUpTo (c.slab x).len) n (c.spanRead n x g) ((c.spanComplete n x).settle n) := by
  have kept := Ctl.spanRead_keeps (n := n) fresh found reading owner goes
  obtain ⟨incomplete, taken⟩ := g.readUpTo_open (c.slab x).len
  have same : (c.spanRead n x g).testComplete g.ref = c.spanRead n x g := Ctl.testComplete_pending kept.file pending
  rw [Ctl.spanComplete_eq (by rw [owner]; exact found), same]
  refine .settle (.pumpAll ?_) job
  exact .ite (fun _ => kept.promoteRun _ incomplete taken) fun _ => kept

end

/-! #### The end of the READ -/

section
variable {c : Ctl} {n : CardNo} {x : SlabNo} {f : Flight} {g : FileRec} {r : Reader} {cap : Nat} {ser : Serial}

/-- A span with blocks left goes on at its next block. -/
theorem Ctl.endTxn_spanGoesOn (kind : f.kind = .read) (reader : (c.card n).reader = some r) (found : c.file? g.ref = some g)
    (job : g.ref.job = n) (reading : g.state = .reading) (goes : (c.job n).LetsWorkGoOn)
    (owner : (c.slab r.slab).file = some g.ref)
    (left : r.next + f.count < endBlock (c.slab r.slab).offset (c.slab r.slab).len) :
    let t := c.endTxn (.card n) f .good cap ser
    (t.card n).reader = some { r with next := r.next + f.count } ∧ t.files = c.files ∧ t.slabs = c.slabs
      ∧ (t.card n).attemptsAtGrade = 0
      ∧ ∀ (pre post : List Extent) (e : Extent) (k : Nat), g.source = pre ++ e :: post →
          (pre.map (·.count)).sum + k = r.next + f.count → k < e.count →
          (t.card n).link = (c.card n).link.sent .read (e.start + k)
            (min 128 (min (endBlock (c.slab r.slab).offset (c.slab r.slab).len - (r.next + f.count)) (e.count - k)))
            (c.card n).grade 1000 := by
  have file : (c.slab r.slab).file.bind c.file? = some g := by rw [owner]; exact found
  let k := c.readOn n { r with next := r.next + f.count }
  have port : k.card n = { c.card n with
      link := (c.card n).link.finish, attemptsAtGrade := 0, reader := some { r with next := r.next + f.count } } :=
    Ctl.modCard_card ..
  obtain ⟨a, l, issued, zero⟩ := k.issueSpanRead_modCard n
  have zero : a = 0 := zero.elim id (·.trans (by rw [port]))
  have port' : (k.issueSpanRead n).card n =
      { c.card n with link := l, attemptsAtGrade := 0, reader := some { r with next := r.next + f.count } } := by
    rw [issued, Ctl.modCard_card, port, zero]
  have state : ((k.issueSpanRead n).job n).state ≠ .stopping := by
    rw [issued]
    exact goes.not_stopping
  have mem : g ∈ (k.issueSpanRead n).files := by
    rw [issued]
    exact List.mem_of_find?_eq_some found
  obtain ⟨files, slabs, kept⟩ := Ctl.settle_busy mem job state (by rw [port']; exact Option.some_ne_none _)
  intro t
  have run : t = (k.issueSpanRead n).settle n := (Ctl.endTxn_span kind reader goes file reading).trans (by rw [if_pos left])
  rw [← run] at files slabs kept
  obtain ⟨pattern, lit, card⟩ := kept.eq
  rw [port'] at card
  refine ⟨by rw [card], files.trans (by rw [issued]; rfl), slabs.trans (by rw [issued]; rfl), by rw [card],
    fun pre post e i source block within => ?_⟩
  have sent := Ctl.issueSpanRead_sends (c := k) (n := n) (r := { r with next := r.next + f.count }) (by rw [port]) file
    (by rw [port]; rfl) source block within
  rw [port', port] at sent
  rw [card]
  exact sent

/-- A span with no block left fills its slab. -/
theorem Ctl.endTxn_spanFills (fresh : c.FileNamesFresh) (kind : f.kind = .read) (reader : (c.card n).reader = some r)
    (found : c.file? g.ref = some g) (job : g.ref.job = n) (reading : g.state = .reading) (pending : g.result = .pending)
    (goes : (c.job n).LetsWorkGoOn) (owner : (c.slab r.slab).file = some g.ref)
    (done : endBlock (c.slab r.slab).offset (c.slab r.slab).len ≤ r.next + f.count) :
    Ctl.KeepsSpan r.slab (g.readUpTo (c.slab r.slab).len) n
      ((c.readOn n { r with next := r.next + f.count }).spanRead n r.slab g) (c.endTxn (.card n) f .good cap ser) := by
  have file : (c.slab r.slab).file.bind c.file? = some g := by rw [owner]; exact found
  have run : c.endTxn (.card n) f .good cap ser =
      ((c.readOn n { r with next := r.next + f.count }).spanComplete n r.slab).settle n :=
    (Ctl.endTxn_span kind reader goes file reading).trans (by rw [if_neg (Nat.not_lt.2 done)])
  rw [run]
  exact Ctl.spanComplete_keeps (c := c.readOn n { r with next := r.next + f.count }) fresh found reading pending owner goes job

end

/-- The slab that is FILLED then: its stamp, its pending writes, and its span as it was. -/
theorem Ctl.KeepsSpan.stamp {c k t : Ctl} {n : CardNo} {x : SlabNo} {f g : FileRec} (h : Ctl.KeepsSpan x f n k t)
    (slab : k.slab x = (c.slab x).filledBy c n g) :
    let y := t.slab x
    y.fillSeq = c.fillSeq ∧ y.file = (c.slab x).file ∧ y.offset = (c.slab x).offset ∧ y.len = (c.slab x).len
      ∧ y.digested = (c.slab x).digested ∧ y.pendingWrites = pendingSet (c.job n) g := by
  have kept := h.slab.1
  rw [slab] at kept
  intro y
  refine ⟨?_, ?_, ?_, ?_, ?_, ?_⟩ <;> rw [show y = _ from kept] <;> rfl

/-- A granted slab, and the slabs besides. -/
theorem Ctl.GivesSlab.slab {c t : Ctl} {n : CardNo} {x : SlabNo} {s : Slab} (given : c.GivesSlab n x s t) :
    t.slab x = s ∧ ∀ y, y ≠ x → t.slab y = c.slab y := by
  have slabs : t.slabs = (c.modSlab x fun _ => s).slabs := given.slabs
  refine ⟨?_, fun y other => ?_⟩
  · rw [Ctl.slab_of_slabs slabs, Ctl.modSlab_slab]
  · rw [Ctl.slab_of_slabs slabs, Ctl.modSlab_slab_ne _ _ other]

theorem Ctl.GivesSlab.waits {c t : Ctl} {n : CardNo} {x : SlabNo} {s : Slab} (given : c.GivesSlab n x s t) :
    t.waits n = none :=
  (Ctl.waits_of_waitList (c := c.setWait n none) given.waitList n).trans (Ctl.setWait_waits ..)

/-- Settles O57: READs through what they leave of the port, slabs through what a FILLED one keeps, grants by name. -/
theorem readSpansFillTheirSlabs : Obligations.ReadSpansFillTheirSlabs := by
  refine ⟨?_, ?_, ?_, ?_⟩
  · intro c n f cap ser r g fresh kind reader found job reading pending goes purpose filling holder owner x t next stop done
    refine ⟨fun left => Ctl.endTxn_spanGoesOn kind reader found job reading goes owner left, fun full => ?_⟩
    have kept : Ctl.KeepsSpan r.slab (g.readUpTo x.len) n _ t :=
      Ctl.endTxn_spanFills fresh kind reader found job reading pending goes owner full
    let k := c.readOn n { r with next := next }
    obtain ⟨fillSeq, file, offset, len, digested, writes⟩ := kept.stamp (c := c) (k.spanRead_slab n r.slab g)
    obtain ⟨fillSeq', digest, job'⟩ := k.spanRead_counts n r.slab g
    have bytes := kept.bytesRead
    rw [job'] at bytes
    exact ⟨kept.filled, fillSeq, kept.fillSeq.trans fillSeq', file, offset, len, digested,
      fun d => by rw [writes]; exact pendingSet_getElem .., kept.digest.trans digest, kept.file, bytes, kept.reader⟩
  · intro c n x f t owed
    obtain ⟨fillSeq, digest, jobs, files, cards, outq⟩ := c.fillSlab_same n x f
    have slab : t.slab x = (c.slab x).filledBy c n f := c.fillSlab_slab n x f
    refine ⟨by rw [slab]; rfl, by rw [slab]; rfl, fillSeq, by rw [digest], fun d => ⟨?_, ?_⟩, fun y other => ?_, jobs, files,
      cards, outq⟩
    · rw [slab]
      exact pendingSet_getElem ..
    · rw [Ctl.fillSlab_queue, pendingSet_getElem]
    · rw [Ctl.slab_of_slabs (c.fillSlab_slabs n x f), Ctl.modSlab_slab_ne _ _ other]
  · intro c n g pre post fresh queue before reading p t stands
    have file := Ctl.readingFile_append queue before reading
    have asks : c.sourceRequest n = true ↔ stands := Ctl.sourceRequest_iff file
    refine ⟨fun idle => if_neg (idle ∘ asks.1), fun up waits => ?_⟩
    have raised : t = c.raise n .source := if_pos (asks.2 up)
    refine ⟨fun full => ?_, fun x pool free least => ?_⟩
    · rw [raised, Ctl.raise_waits waits (Ctl.lowestFree_eq_none full)]
      rfl
    · have granted : t = c.grantSource n x :=
        raised.trans (Ctl.raise_granted waits (Ctl.lowestFree_eq_some pool free least))
      obtain ⟨given, reader⟩ := Ctl.grantSource_gives file x
      have mem : g ∈ c.queue n := by rw [queue]; simp
      have record := Ctl.file_of_mem fresh.1 (List.mem_filter.1 mem).1
      obtain ⟨-, -, -, -, -, idle⟩ := up
      obtain ⟨own, others⟩ := given.slab
      rw [granted]
      exact ⟨own, others, given.waits, given.lastGranted, reader, given.jobs, given.files, given.drives,
        fun before after e k source block within => Ctl.grantSource_sends file record idle source block within x⟩
  · intro c x t freed
    refine ⟨fun none' => Ctl.freePoolSlab_idle none' x, fun n u waits before => ?_⟩
    intro gives
    refine ⟨?_, ?_⟩
    · rintro g pre post rfl running queue first reading unread room
      let k := c.modSlab x fun _ => Slab.freeValues
      have file : k.readingFile n = some g := Ctl.readingFile_append (c := k) queue first reading
      have stands : k.stillStands n .source = true := by
        have room : k.sourceCount n < (k.job n).quota := (c.sourceCount_freed n x).trans_lt room
        have running : (k.job n).state = .running := running
        simp [Ctl.stillStands, file, running, unread, room]
      have run : t = k.grantSource n x := Ctl.freePoolSlab_grants waits before stands
      obtain ⟨given, reader⟩ := Ctl.grantSource_gives file x
      rw [← run] at given reader
      obtain ⟨slabs, waitList, lastGranted, jobs, files, drives, cards⟩ := given.of_freed
      exact ⟨⟨slabs, waitList, lastGranted, jobs, files, drives, cards⟩, reader⟩
    · rintro rfl awaiting
      let k := c.modSlab x fun _ => Slab.freeValues
      have stands : k.stillStands n .scan = true := by
        have awaiting : (k.card n).scan.phase = .awaitingSlab := awaiting
        simp [Ctl.stillStands, awaiting]
      have run : t = k.grantScan n x := Ctl.freePoolSlab_grants waits before stands
      obtain ⟨given, scan⟩ := k.grantScan_gives n x
      rw [← run] at given scan
      obtain ⟨slabs, waitList, lastGranted, jobs, files, drives, cards⟩ := given.of_freed
      have chunk : (k.card n).chunkSlab n = { Slab.freeValues with
          state := .filling, purpose := .scan, port := some (.card n), len := 512 * (c.card n).scan.chunkSize } := by
        rw [CardPort.chunkSlab, Nat.mul_comm]
        rfl
      rw [chunk] at slabs
      exact ⟨⟨slabs, waitList, lastGranted, jobs, files, drives, cards⟩, scan⟩

end Sys2Proof.Machine
